-- ==== Sys2Proof/Word.lean ====
section
/-! DEFINITION. The word types of the Lucadre MC44 (spec 00 section 3.1, R2, R3). -/

namespace Sys2Proof

/-- A word of the exchange memory: 16 bits (R186). -/
abbrev Word := BitVec 16

/-- A part time: the 32-bit count of milliseconds (R2). -/
abbrev Time := BitVec 32

/-- A capture time: the 32-bit count of microseconds of the capture timebase (R3, R69). -/
abbrev Capture := BitVec 32

/-- An 8-bit analog sample. -/
abbrev Byte := BitVec 8

end Sys2Proof
end

