-- ==== Sys2Proof/Syntax.lean ====
section
/-! DEFINITION. The commands of the MC44: one constructor per row of spec/opcode_table.json.
The table gives the rows no operands and no bits; the operands here are what the rules say each event
brings with it (DESIGN CHOICE, log entry 7): which coil, wheel, sensor or input, the capture time at which it comes,
an analog sample, the word a host writes. -/

namespace Sys2Proof

/-- The three pick-up coils (R3). -/
inductive Coil where
  | left
  | right
  | rear
deriving DecidableEq, Repr

/-- Left or right: a wheel, a bump input, a sonar sensor; also the two lift inputs (first and second). -/
inductive LR where
  | left
  | right
deriving DecidableEq, Repr

/-- The level a coil comparator reports: inside the zero band, or outside it on one side (R4). -/
inductive Level where
  | inside
  | positive
  | negative
deriving DecidableEq, Repr

/-- The three PWM outputs whose switching edges blank the receiver (R7). -/
inductive PwmOutput where
  | leftWheel
  | rightWheel
  | blade
deriving DecidableEq, Repr

/-- An edge of a contact closure. -/
inductive Edge where
  | closing
  | opening
deriving DecidableEq, Repr

/-- The three mirrors of the exchange memory (R185). -/
inductive Mirror where
  | snapshot
  | loopTable
  | contactList
deriving DecidableEq, Repr

/-- The commands. `t` is the capture time at which the event comes. -/
inductive Instr where
  /-- POWER: power-on begins a POWER reset (R169). -/
  | power
  /-- PIN: the reset pin is asserted (R169). -/
  | pin
  /-- STROBE: a strobe collision on the host port (R187). -/
  | strobe
  /-- RESET_END: the POWER, PIN or STROBE reset that lasts ends (R169). -/
  | resetEnd
  /-- COMPARATOR_LEADING_EDGE (R4, R5, R8). -/
  | comparatorLeadingEdge (coil : Coil) (t : Capture)
  /-- COMPARATOR_TRAILING_EDGE, with what the peak detector then holds (R4, R5, R9, R16). -/
  | comparatorTrailingEdge (coil : Coil) (t : Capture) (peak : Byte)
  /-- POLARITY_SAMPLE: the comparator's level at the polarity sample point (R5). -/
  | polaritySample (coil : Coil) (t : Capture) (level : Level)
  /-- OVER_LENGTH_EXPIRY (R5). -/
  | overLengthExpiry (coil : Coil) (t : Capture)
  /-- SWITCHING_EDGE of a PWM output (R7). -/
  | switchingEdge (output : PwmOutput) (t : Capture)
  /-- BLANKING_END (R9). -/
  | blankingEnd (t : Capture)
  /-- GAP_TIMER_EXPIRY (R14). -/
  | gapTimerExpiry (coil : Coil) (t : Capture)
  /-- CHECK_INTERVAL: the next 25 ms interval of a self-check begins (R22). -/
  | checkInterval
  /-- CHECK_END (R23). -/
  | checkEnd
  /-- WINDOW_EXPIRY (R29). -/
  | windowExpiry
  /-- CONTROL_PERIOD, with the two inclinometer samples (R71, R107). -/
  | controlPeriod (t : Capture) (pitch roll : Byte)
  /-- ENCODER_PULSE of a wheel (R69). -/
  | encoderPulse (wheel : LR) (t : Capture)
  /-- WAITING_CHECK (R56). -/
  | waitingCheck
  /-- HOLD_TIMER_EXPIRY (R63). -/
  | holdTimerExpiry
  /-- BLADE_PERIOD (R119). -/
  | bladePeriod (t : Capture)
  /-- HALL_PULSE (R118). -/
  | hallPulse (t : Capture)
  /-- BRAKE_SLOW: the brake timer expires with the blade not stopped (R131). -/
  | brakeSlow
  /-- WAIT_TIMER_EXPIRY (R127). -/
  | waitTimerExpiry
  /-- BUMP_EDGE (R137). -/
  | bumpEdge (side : LR) (edge : Edge)
  /-- BUMP_DEBOUNCE_EXPIRY (R137). -/
  | bumpDebounceExpiry (side : LR)
  /-- PING_TIMER_EXPIRY (R138). -/
  | pingTimerExpiry
  /-- ECHO_EDGE (R139). -/
  | echoEdge (sensor : LR) (t : Capture)
  /-- LISTEN_TIMEOUT (R139). -/
  | listenTimeout (sensor : LR) (t : Capture)
  /-- LIFT_EDGE (R162). -/
  | liftEdge (input : LR) (edge : Edge)
  /-- LIFT_DEBOUNCE_EXPIRY (R162). -/
  | liftDebounceExpiry (input : LR)
  /-- STOP_KEY_EDGE (R162). -/
  | stopKeyEdge (edge : Edge)
  /-- NO_SIGNAL_TIMER_EXPIRY (R163). -/
  | noSignalTimerExpiry
  /-- SILENCE_TIMER_EXPIRY (R165). -/
  | silenceTimerExpiry
  /-- CONTACT_SAMPLE, with the charge-contact voltage in 0.1 V (R173). -/
  | contactSample (voltage : Byte)
  /-- ARM: the host writes request code 1 (R158, R189). -/
  | arm
  /-- DISARM (R161). -/
  | disarm
  /-- CLEAR_TRIP (R168). -/
  | clearTrip
  /-- PLAN_START (R58). -/
  | planStart
  /-- PLAN_STOP (R60). -/
  | planStop
  /-- SET_POSE (R77). -/
  | setPose
  /-- CLEAR_CONTACTS (R146). -/
  | clearContacts
  /-- BLADE_UNLOCK (R129). -/
  | bladeUnlock
  /-- PARK (R182). -/
  | park
  /-- WAKE (R183). -/
  | wake
  /-- SELF_CHECK (R21). -/
  | selfCheck
  /-- RESTART (R170). -/
  | restart
  /-- UNKNOWN_REQUEST: the host writes a code that is none of the twelve (R190). -/
  | unknownRequest (code : Word)
  /-- HEARTBEAT_WRITE (R192). -/
  | heartbeatWrite (value : Word)
  /-- HOST_WRITE to a word with no row of its own (R188). -/
  | hostWrite (addr : BitVec 12) (value : Word)
  /-- ATTENTION_ACK: a read of ATTENTION with ACK_MODE 0 (R200). -/
  | attentionAck
  /-- ATTENTION_PEEK: a read of ATTENTION with ACK_MODE 1 (R200). -/
  | attentionPeek
  /-- SERVICE_END: the host writes 0x0080 to SERVICE (R201). -/
  | serviceEnd
  /-- SERVICE_CLEAR: the host writes a source number to SERVICE (R201). -/
  | serviceClear (source : Word)
  /-- PORTCTL_WRITE (R202). -/
  | portctlWrite (value : Word)
  /-- SNAPSHOT_TIMER_EXPIRY (R196). -/
  | snapshotTimerExpiry
  /-- REFRESH_END (R195). -/
  | refreshEnd (mirror : Mirror)
  /-- PART_TIME_TICK (R194). -/
  | partTimeTick
  /-- TRIGGER_PULSE_END (R139). -/
  | triggerPulseEnd (sensor : LR) (t : Capture)
deriving DecidableEq, Repr

end Sys2Proof
end

