-- ==== Sys2Proof/Decode.lean ====
section
/-! DEFINITION. The command a word spells by the table's bits. No row of spec/opcode_table.json gives bits
(every `fields` list is empty and no row is fixed), so no word spells a command. What the spec does encode is a host
write: its address and word say which row it is (R188, R189, R192, R201, R202, R205); that reading, and the write each
row is, stand below. -/

namespace Sys2Proof

/-- The command spelled by an `nbits`-bit word of the table: none, for every word (DESIGN CHOICE, log entry 7). -/
def decodeTableWord (_nbits _w : Nat) : Option Instr := none

/-- The row of a request code (R190, R205). -/
def requestRow (code : Word) : Instr :=
  match code.toNat with
  | 1 => .arm
  | 2 => .disarm
  | 3 => .clearTrip
  | 4 => .planStart
  | 5 => .planStop
  | 6 => .setPose
  | 7 => .clearContacts
  | 8 => .bladeUnlock
  | 9 => .park
  | 10 => .wake
  | 11 => .selfCheck
  | 12 => .restart
  | _ => .unknownRequest code

/-- The row of a write to SERVICE (R201); a value that is no command of that register is an ordinary host write. -/
def serviceRow (value : Word) : Instr :=
  if value = 0x0080 then .serviceEnd else if value.toNat ≤ 6 then .serviceClear value else .hostWrite 0xFFD value

/-- The row a host write is, by its address and word (R188, R189, R192, R201, R202). -/
def rowOfWrite (addr : BitVec 12) (value : Word) : Instr :=
  if addr = 0x040 then .heartbeatWrite value
  else if addr = 0x041 then (if value = 0 then .hostWrite addr value else requestRow value)
  else if addr = 0xFFD then serviceRow value
  else if addr = 0xFFE then .portctlWrite value
  else .hostWrite addr value

/-- The write a row is, for the rows that are host writes (R188, R189, R205). -/
def writeOfRow : Instr → Option (BitVec 12 × Word)
  | .arm => some (0x041, 1)
  | .disarm => some (0x041, 2)
  | .clearTrip => some (0x041, 3)
  | .planStart => some (0x041, 4)
  | .planStop => some (0x041, 5)
  | .setPose => some (0x041, 6)
  | .clearContacts => some (0x041, 7)
  | .bladeUnlock => some (0x041, 8)
  | .park => some (0x041, 9)
  | .wake => some (0x041, 10)
  | .selfCheck => some (0x041, 11)
  | .restart => some (0x041, 12)
  | .unknownRequest code => some (0x041, code)
  | .heartbeatWrite value => some (0x040, value)
  | .hostWrite addr value => some (addr, value)
  | .serviceEnd => some (0xFFD, 0x0080)
  | .serviceClear source => some (0xFFD, source)
  | .portctlWrite value => some (0xFFE, value)
  | .power | .pin | .strobe | .resetEnd | .comparatorLeadingEdge _ _ | .comparatorTrailingEdge _ _ _
  | .polaritySample _ _ _ | .overLengthExpiry _ _ | .switchingEdge _ _ | .blankingEnd _
  | .gapTimerExpiry _ _ | .checkInterval | .checkEnd | .windowExpiry | .controlPeriod _ _ _
  | .encoderPulse _ _ | .waitingCheck | .holdTimerExpiry | .bladePeriod _ | .hallPulse _ | .brakeSlow
  | .waitTimerExpiry | .bumpEdge _ _ | .bumpDebounceExpiry _ | .pingTimerExpiry | .echoEdge _ _
  | .listenTimeout _ _ | .liftEdge _ _ | .liftDebounceExpiry _ | .stopKeyEdge _ | .noSignalTimerExpiry
  | .silenceTimerExpiry | .contactSample _ | .attentionAck | .attentionPeek | .snapshotTimerExpiry | .refreshEnd _
  | .partTimeTick | .triggerPulseEnd _ _ => none

end Sys2Proof
end

