-- ==== Sys2Proof/Config.lean ====
section
/-! DEFINITION. What the part fixes once: identity, layout version and sizes (R40, R185, R202, R207).
The spec leaves no value open, so no free value stands here (DEDUCED, log entry 17). -/

namespace Sys2Proof.Config

/-- IDENT and the identity copy of the header (R202, R206). -/
def identWord : Word := 0x4401

/-- The layout version of the header (R206). -/
def layoutVersion : Word := 1

/-- The segment slots of the pool (R40). -/
abbrev slotCount : Nat := 48

/-- The contact list's capacity (R144). -/
abbrev contactCapacity : Nat := 8

end Sys2Proof.Config
end

