-- ==== Sys2Proof/Machine/Arith.lean ====
section
/-! DEFINITION. The arithmetic of R1 and R2, and the encodings of R203. -/

namespace Sys2Proof.Machine

/-- Integer division truncating toward zero (R1). -/
def trunc (a b : Int) : Int := Int.tdiv a b

/-- Limit an integer to `lo..hi` (R1, "Clamp"). -/
def clampI (lo hi x : Int) : Int := if x < lo then lo else if hi < x then hi else x

/-- Limit a natural number to `lo..hi` (R1, "Clamp"). -/
def clampN (lo hi x : Nat) : Nat := if x < lo then lo else if hi < x then hi else x

/-- The lesser of two integers (R1). -/
def minI (a b : Int) : Int := if a ≤ b then a else b

/-- The lesser of two natural numbers (R1). -/
def minN (a b : Nat) : Nat := if a ≤ b then a else b

/-- A count that saturates at `top`. -/
def satAdd (top a b : Nat) : Nat := if top ≤ a + b then top else a + b

/-- The difference of two 32-bit times, modulo 2^32, unsigned (R2). -/
def since (now start : BitVec 32) : Nat := (now - start).toNat

/-- A running timer's expiry has come: `now` is at or after it, across the wrap of the count (DEDUCED, log entry 29). -/
def due (now expiry : BitVec 32) : Bool := decide ((now - expiry).toNat < 2147483648)

/-- A stopped timer is never due (an expiry acts only when its time has come: DESIGN CHOICE, log entry 2). -/
def dueOpt (now : BitVec 32) : Option (BitVec 32) → Bool
  | none => false
  | some e => due now e

/-- The capture count at the start of a millisecond of part time (DESIGN CHOICE, log entry 1). -/
def timebaseOf (partTime : Time) : Capture := BitVec.ofNat 32 (1000 * partTime.toNat)

/-- A natural number as a word. -/
def wordN (n : Nat) : Word := BitVec.ofNat 16 n

/-- A signed value as a word, two's complement (R203). -/
def wordI (i : Int) : Word := BitVec.ofInt 16 i

/-- A flag as a word (R203). -/
def wordB (b : Bool) : Word := if b then 1 else 0

/-- What an absent 16-bit field reads (R203). -/
def absentWord : Word := 0x8000

/-- A 16-bit field that may be absent (R203). -/
def wordOpt : Option Nat → Word
  | none => absentWord
  | some n => wordN n

/-- The low word of a 32-bit value. -/
def loWord (x : BitVec 32) : Word := x.truncate 16

/-- The high word of a 32-bit value. -/
def hiWord (x : BitVec 32) : Word := (x >>> 16).truncate 16

/-- The two words of a 32-bit field, the low word at the lower address (R203). -/
def words32 (x : BitVec 32) : List Word := [loWord x, hiWord x]

/-- The two words of a signed 32-bit field (R203). -/
def words32I (i : Int) : List Word := words32 (BitVec.ofInt 32 i)

/-- A part time as a record carries it: 0xFFFFFFFF is written as 0xFFFFFFFE (R203). -/
def recordTime (t : Time) : BitVec 32 := if t = 0xFFFFFFFF then 0xFFFFFFFE else t

/-- The two words of a 32-bit time that may be absent (R203). -/
def timeWords : Option Time → List Word
  | none => [0xFFFF, 0xFFFF]
  | some t => words32 (recordTime t)

/-- A 32-bit value from its low and high word. -/
def join32 (lo hi : Word) : BitVec 32 := hi ++ lo

/-- The list of words at consecutive addresses from `a` on. -/
def cellsFrom : Nat → List Word → List (Nat × Word)
  | _, [] => []
  | a, w :: ws => (a, w) :: cellsFrom (a + 1) ws

end Sys2Proof.Machine
end

