-- ==== Sys2Proof/Machine/Memory.lean ====
section
/-! DEFINITION. The exchange memory as an addressed store of 16-bit words (R186). The smallest unit the spec
addresses is the word, so an entry is an address and a word (DEDUCED, log entry 8). An unlisted address reads 0, which is
what R207 leaves in every word it does not list. -/

namespace Sys2Proof.Machine

/-- The exchange memory in canonical form: addresses strictly rising, no entry 0. -/
abbrev Memory := List (Nat × Word)

/-- The word at an address. -/
def Memory.read : Memory → Nat → Word
  | [], _ => 0
  | (b, v) :: m, a => if a = b then v else Memory.read m a

/-- Store a word, keeping the canonical form: writing 0 removes the entry. -/
def Memory.write : Memory → Nat → Word → Memory
  | [], a, v => if v = 0 then [] else [(a, v)]
  | (b, w) :: m, a, v =>
    if a < b then (if v = 0 then (b, w) :: m else (a, v) :: (b, w) :: m)
    else if a = b then (if v = 0 then m else (a, v) :: m)
    else (b, w) :: Memory.write m a v

/-- Store a list of cells in its order. -/
def Memory.writeAll : Memory → List (Nat × Word) → Memory
  | m, [] => m
  | m, c :: cs => Memory.writeAll (m.write c.1 c.2) cs

/-- Every address of the list is above `a`. -/
def Memory.above (a : Nat) : Memory → Bool
  | [] => true
  | (b, _) :: _ => decide (a < b)

/-- The canonical form: addresses strictly rising and no entry equal to what an unlisted address reads as. -/
def Memory.wf : Memory → Bool
  | [] => true
  | (a, v) :: m => decide (v ≠ 0) && Memory.above a m && Memory.wf m

end Sys2Proof.Machine
end

