-- ==== Sys2Proof/Machine/Types.lean ====
section
/-! DEFINITION. The blocks' state as plain data: the names the spec gives states, kinds and causes, and one
structure per block (spec 00 section 2.1). -/

namespace Sys2Proof.Machine

/-! ### Fixed numbers of like things -/

/-- One value for the left and one for the right. -/
structure Two (α : Type) where
  left : α
  right : α
deriving DecidableEq, Repr

/-- One value per coil. -/
structure Three (α : Type) where
  left : α
  right : α
  rear : α
deriving DecidableEq, Repr

/-- One value per loop 0..3. -/
structure Four (α : Type) where
  l0 : α
  l1 : α
  l2 : α
  l3 : α
deriving DecidableEq, Repr

/-- A loop number: 0 the perimeter, 1 and 2 the guide wires, 3 the station loop (R17). -/
abbrev Loop := Fin 4

/-- A segment slot number (R40). -/
abbrev Slot := Fin Config.slotCount

def Two.get {α : Type} (p : Two α) : LR → α
  | .left => p.left
  | .right => p.right

def Two.set {α : Type} (p : Two α) (i : LR) (v : α) : Two α :=
  match i with
  | .left => { p with left := v }
  | .right => { p with right := v }

def Two.map {α β : Type} (f : α → β) (p : Two α) : Two β := ⟨f p.left, f p.right⟩

def Three.get {α : Type} (p : Three α) : Coil → α
  | .left => p.left
  | .right => p.right
  | .rear => p.rear

def Three.set {α : Type} (p : Three α) (i : Coil) (v : α) : Three α :=
  match i with
  | .left => { p with left := v }
  | .right => { p with right := v }
  | .rear => { p with rear := v }

def Three.map {α β : Type} (f : α → β) (p : Three α) : Three β := ⟨f p.left, f p.right, f p.rear⟩

def Four.get {α : Type} (p : Four α) : Loop → α
  | 0 => p.l0
  | 1 => p.l1
  | 2 => p.l2
  | 3 => p.l3

def Four.set {α : Type} (p : Four α) (i : Loop) (v : α) : Four α :=
  match i with
  | 0 => { p with l0 := v }
  | 1 => { p with l1 := v }
  | 2 => { p with l2 := v }
  | 3 => { p with l3 := v }

def Four.map {α β : Type} (f : α → β) (p : Four α) : Four β := ⟨f p.l0, f p.l1, f p.l2, f p.l3⟩

def Four.mapIdx {α β : Type} (f : Loop → α → β) (p : Four α) : Four β :=
  ⟨f 0 p.l0, f 1 p.l1, f 2 p.l2, f 3 p.l3⟩

/-! ### Wire Receiver -/

/-- The polarity sample of an open pulse (R3, R5). -/
inductive Sample where
  | positive
  | negative
  | void
deriving DecidableEq, Repr

/-- The polarity of a frame (R17). -/
inductive Polarity where
  | positive
  | negative
deriving DecidableEq, Repr

/-- The pulse state of a channel, with what it holds for an open pulse (R3). -/
inductive Pulse where
  | none
  | opened (leading : Capture) (sample : Option Sample)
  | lost
deriving DecidableEq, Repr

/-- The frame in progress (R3). -/
structure Frame where
  start : Polarity
  amplitude : Byte
  bits : Nat
  value : Nat
deriving DecidableEq, Repr

/-- The decoder state, with the frame in progress where there is one (R3, R11). -/
inductive Decoder where
  | hunt
  | ident (f : Frame)
  | parity (f : Frame)
deriving DecidableEq, Repr

/-- The gap timer: stopped, running, or stopped by an open pulse with its expiry kept (R3, R5, R14). -/
inductive GapTimer where
  | stopped
  | running (expiry : Capture)
  | paused (expiry : Capture)
deriving DecidableEq, Repr

/-- A coil channel (R3, R9). -/
structure Channel where
  pulse : Pulse
  held : Bool
  noted : Bool
  peak : Byte
  decoder : Decoder
  prevTrailing : Capture
  gap : GapTimer
  malformed : Nat
  foreign : Nat
  lastForeign : Option Nat
deriving DecidableEq, Repr

/-- The result of the check record (R21..R24). -/
inductive CheckResult where
  | none
  | running
  | pass
  | fail
  | abandoned
deriving DecidableEq, Repr

/-- The verdict on one coil (R23). -/
inductive Verdict where
  | none
  | pass
  | fail
deriving DecidableEq, Repr

/-- One coil's part of the check record (R21). -/
structure CheckCoil where
  verdict : Verdict
  decoded : Nat
  mismatch : Nat
deriving DecidableEq, Repr

/-- The self-check: its record, and how many of its eight intervals have begun (R21, R22). -/
structure Check where
  result : CheckResult
  start : Time
  finish : Time
  coils : Three CheckCoil
  begun : Nat
deriving DecidableEq, Repr

/-- The Wire Receiver. -/
structure Receiver where
  channels : Three Channel
  blankEnd : Option Capture
  check : Check
deriving DecidableEq, Repr

/-! ### Loop Table -/

/-- Loop and coil states; a coil state is never `unused` (R25). -/
inductive LoopState where
  | unused
  | lost
  | weak
  | present
  | noisy
deriving DecidableEq, Repr

/-- The side of a coil (R25). -/
inductive Side where
  | unknown
  | inside
  | outside
deriving DecidableEq, Repr

/-- The perimeter position class (R32). -/
inductive PosClass where
  | unknown
  | insideAll
  | outsideFront
  | outsideAll
  | straddle
deriving DecidableEq, Repr

/-- A coil sub-record (R25). -/
structure SubRecord where
  state : LoopState
  side : Side
  candidate : Option Polarity
  agree : Nat
  amplitude : Byte
  polarity : Option Polarity
  lastFrame : Option Time
  window : Nat
deriving DecidableEq, Repr

/-- A loop record (R25). -/
structure LoopRec where
  state : LoopState
  coils : Three SubRecord
deriving DecidableEq, Repr

/-- The Loop Table (R25). -/
structure LoopTable where
  recs : Four LoopRec
  posClass : PosClass
  stationNear : Bool
  windowTimer : Time
  checkFlag : Bool
  spoiled : Bool
deriving DecidableEq, Repr

/-! ### Plan Engine -/

/-- The staged settings in force (R65, R204). -/
structure Settings where
  loopMap : Four Nat
  blank : Nat
  ampMin : Nat
  weakLimit : Nat
  kp : Nat
  kd : Nat
  dMax : Nat
  kh : Nat
  trackWidth : Nat
  mmPer256 : Nat
  kf : Nat
  ki : Nat
  kb : Nat
  reflexBack : Nat
  reflexTurn : Nat
  sonarStop : Nat
  trapRadius : Nat
  trapWindow : Nat
  trapCount : Nat
  dockTries : Nat
  dockReach : Nat
  dockV : Nat
  nearAmp : Nat
  dockSpeed : Nat
  slopeSoft : Nat
  slopeHard : Nat
  slopeFloor : Nat
  slopeTrip : Nat
  loadSoft : Nat
  bladeHold : Nat
  escapeLimit : Nat
deriving DecidableEq, Repr

/-- The plan state (R43). -/
inductive PlanState where
  | idle
  | running
  | waitingNext
  | held
deriving DecidableEq, Repr

/-- The kind of a segment (R46). -/
inductive Kind where
  | roll
  | turn
  | pause
  | track
  | dock
  | undock
deriving DecidableEq, Repr

/-- A segment's blade directive (R46, R62). -/
inductive BladeDirective where
  | off
  | cut
  | keep
deriving DecidableEq, Repr

/-- What the plan does after a contact (R46, R57). -/
inductive OnContact where
  | advance
  | resume
  | hold
deriving DecidableEq, Repr

/-- The end condition the plan watches for (R46, R83). -/
inductive EndOn where
  | none
  | nearStation
  | loopPresent
  | loopCrossed
deriving DecidableEq, Repr

/-- The side on which a wire's outside is kept (spec 05). -/
inductive FollowSide where
  | leftOut
  | rightOut
deriving DecidableEq, Repr

/-- The cause of a segment's end (R51, R205). -/
inductive EndCause where
  | reached
  | boundary
  | loopEvent
  | docked
  | contact
  | timeout
  | wireWeak
  | flipped
  | noLoop
  | badSegment
  | stuckDocked
  | trapped
  | dockFailed
  | preempted
  | stopped
  | guard
  | disarm
  | restart
deriving DecidableEq, Repr

/-- The host fields of a segment, captured as the words the slot holds (R46, R204). -/
structure Fields where
  kind : Word
  next : Word
  tag : Word
  stopAtBoundary : Word
  reverse : Word
  blade : Word
  onContact : Word
  speed : Word
  timeLimit : Word
  distance : BitVec 32
  angle : BitVec 32
  radius : Word
  loop : Word
  side : Word
  offset : Word
  endLoop : Word
  endOn : Word
deriving DecidableEq, Repr

/-- The active slot with its working copy (R43, R46). -/
structure Segment where
  slot : Slot
  activation : BitVec 16
  start : Time
  fields : Fields
  contacts : Nat
  clamped : Bool
  uncut : Bool
deriving DecidableEq, Repr

/-- The two front sides the end_on watch recorded when it was last started (R83). -/
structure Watch where
  left : Side
  right : Side
deriving DecidableEq, Repr

/-- The standing or effective blade directive: CUT or OFF (R43, R117). -/
inductive Directive where
  | off
  | cut
deriving DecidableEq, Repr

/-- The Plan Engine (R43). -/
structure Plan where
  state : PlanState
  active : Option Segment
  activation : BitVec 16
  waiting : Option Slot
  deferred : Option Slot
  heldSlot : Option Slot
  standing : Directive
  holdTimer : Option Time
  waitTimer : Option Time
  applied : Settings
  appliedGen : Word
  watch : Option Watch
deriving DecidableEq, Repr

/-! ### Drive Controller and Track Steering -/

/-- One wheel (R68). -/
structure WheelState where
  lastPulse : Option Capture
  period : Option Nat
  count : Int
  forward : Bool
  measured : Int
  target : Int
  integrator : Int
  duty : Int
deriving DecidableEq, Repr

/-- The motion direction (R78). -/
inductive Motion where
  | forward
  | reverse
  | still
deriving DecidableEq, Repr

/-- The source the Drive Controller chose in its latest control period (R72); `backoff` is the active kind's
request when that was a DOCK's back-off (R179). Kept for the next period, zero source at reset (DESIGN CHOICE, log
entry 5). -/
inductive Choice where
  | zero
  | reflex
  | kind
  | backoff
deriving DecidableEq, Repr

/-- The Drive Controller (R68). -/
structure Drive where
  wheels : Two WheelState
  x : Int
  y : Int
  heading : BitVec 16
  segDist : Nat
  runDist : Nat
  runTurn : Int
  runTime : Nat
  headingRef : BitVec 16
  suspended : Bool
  motion : Motion
  timer : Time
  choice : Choice
deriving DecidableEq, Repr

/-- Track Steering (R89), with the weak count it last published (R93; DEDUCED, log entry 5). -/
structure Track where
  running : Option (BitVec 16)
  loop : Option Loop
  side : Option FollowSide
  offset : Int
  speed : Nat
  ePrev : Int
  e : Int
  weak : Nat
  published : Nat
deriving DecidableEq, Repr

/-! ### Speed Governor -/

/-- The seven contributors in table order, each absent or a speed in mm/s (R105). -/
structure Contributors where
  global : Option Nat
  slope : Option Nat
  blade : Option Nat
  sonar : Option Nat
  wire : Option Nat
  jam : Option Nat
  dock : Option Nat
deriving DecidableEq, Repr

/-- The names of the contributors (R105). -/
inductive Contributor where
  | global
  | slope
  | blade
  | sonar
  | wire
  | jam
  | dock
deriving DecidableEq, Repr

/-- The Speed Governor (R105). -/
structure Governor where
  table : Contributors
  cap : Nat
  limiting : Contributor
  pitchReading : Byte
  rollReading : Byte
  pitch : Int
  roll : Int
  slope : Nat
deriving DecidableEq, Repr

/-! ### Blade Controller -/

/-- The blade state (R117). -/
inductive BladeState where
  | off
  | spinup
  | cutting
  | braking
  | jammed
  | lockedOut
deriving DecidableEq, Repr

/-- The phase of JAMMED (R127). -/
inductive JamPhase where
  | brake
  | wait
deriving DecidableEq, Repr

/-- The last fault of the blade (R117). -/
inductive BladeFault where
  | none
  | startStall
  | jam
  | brakeSlow
  | runaway
deriving DecidableEq, Repr

/-- The Blade Controller (R117). -/
structure Blade where
  state : BladeState
  jamPhase : Option JamPhase
  final : Bool
  duty : Nat
  brake : Bool
  lastPulse : Option Capture
  period : Option Nat
  rpm : Nat
  spinupEntry : Time
  lowStart : Option Time
  brakeTimer : Option Time
  brakeStart : Option Capture
  waitTimer : Option Time
  effective : Directive
  jamCount : Nat
  lastFault : BladeFault
  lastJam : Option Time
  load : Nat
  runaway : Bool
  timer : Time
deriving DecidableEq, Repr

/-! ### Contact Unit -/

/-- A debounce state (R136, R155). -/
inductive Debounce where
  | opened
  | closing
  | closed
deriving DecidableEq, Repr

/-- A set of contact sources, numbered as R205 numbers its bits. -/
abbrev Sources := BitVec 6

/-- A sonar sensor's window (R136). -/
inductive SonarWindow where
  | idle
  | listen (opened : Capture)
deriving DecidableEq, Repr

/-- A sonar channel (R136); `trigger` is the trigger output (R139). -/
structure Sonar where
  trigger : Bool
  window : SonarWindow
  range : Option Nat
  close : Nat
deriving DecidableEq, Repr

/-- The outcome of a contact (R144). -/
inductive ContactOutcome where
  | resumed
  | advanced
  | held
  | trapped
  | dockRetry
  | discarded
deriving DecidableEq, Repr

/-- An entry of the contact list (R144); the outcome is absent while pending. -/
structure Entry where
  time : Time
  sources : Sources
  x : Int
  y : Int
  heading : BitVec 16
  range : Option Nat
  slot : Option Slot
  outcome : Option ContactOutcome
deriving DecidableEq, Repr

/-- The reflex stage (R136). -/
inductive Stage where
  | quiet
  | stopping
  | backing
  | turning
deriving DecidableEq, Repr

/-- The reflex record (R136, R147). -/
structure ReflexRecord where
  episodeStart : Time
  activation : BitVec 16
  hits : Sources
  ranges : Two (Option Nat)
  turn : Option LR
  stageEntry : Time
  distance : Nat
  turned : Int
  still : Nat
  restarts : Nat
deriving DecidableEq, Repr

/-- The cause of a trap (R153). -/
inductive TrapCause where
  | area
  | restarts
  | still
deriving DecidableEq, Repr

/-- The Contact Unit (R136). -/
structure Contact where
  bump : Two Debounce
  bumpTimer : Two (Option Time)
  pinging : Bool
  nextSensor : LR
  pingTimer : Option Time
  sonar : Two Sonar
  stall : Two (Option Time)
  list : List Entry
  stage : Stage
  record : ReflexRecord
deriving DecidableEq, Repr

/-! ### Guard -/

/-- The machine state (R155). -/
inductive MachineState where
  | start
  | safe
  | armed
  | tripped
  | parked
deriving DecidableEq, Repr

/-- The seven trip causes (R162..R165). -/
inductive TripCause where
  | lift
  | tilt
  | stopKey
  | noSignal
  | escaped
  | hostSilent
  | bladeRunaway
deriving DecidableEq, Repr

/-- The trip record (R167); bit c − 1 of `further` is cause c (R205). -/
structure TripRecord where
  first : Option TripCause
  further : BitVec 7
  time : Time
  x : Int
  y : Int
  heading : BitVec 16
  rpm : Nat
  brakeSlow : Bool
  cleared : Bool
  clearTime : Option Time
deriving DecidableEq, Repr

/-- The four resets (R169, R170). -/
inductive ResetCause where
  | power
  | pin
  | strobe
  | restart
deriving DecidableEq, Repr

/-- The reset record (R171). -/
structure ResetRecord where
  cause : ResetCause
  parked : Bool
  trip : Option TripCause
  count : Nat
deriving DecidableEq, Repr

/-- The Guard (R155). -/
structure Guard where
  machine : MachineState
  lift : Two Debounce
  liftTimer : Two (Option Time)
  tiltStart : Option Time
  noSignal : Option Time
  escape : Nat
  recovery : Bool
  silence : Option Time
  windowJudged : Bool
  bladeOff : Bool
  trip : TripRecord
  resetRecord : ResetRecord
deriving DecidableEq, Repr

/-! ### Dock Unit -/

/-- The contact sense (R172, R173). -/
inductive Sense where
  | absent
  | rising
  | present
  | falling
deriving DecidableEq, Repr

/-- The run of the Dock Unit, with its activation number (R172). -/
inductive DockRun where
  | none
  | dock (activation : BitVec 16)
  | undock (activation : BitVec 16)
deriving DecidableEq, Repr

/-- The phases of DOCK and of UNDOCK (R172, R205). -/
inductive DockPhase where
  | approach
  | near
  | backoff
  | reverse
  | turn
deriving DecidableEq, Repr

/-- Why the machine left PARKED (R183, R184). -/
inductive WakeReason where
  | none
  | wake
  | contactLost
  | stationSilent
  | reset
deriving DecidableEq, Repr

/-- The outcome of the dock record (R184). -/
inductive DockOutcome where
  | none
  | docked
  | dockFailed
  | undocked
  | stuckDocked
deriving DecidableEq, Repr

/-- The fields of the dock record that no other dock state holds (R184). -/
structure DockRecord where
  tries : Nat
  dockTime : Option Time
  parkTime : Option Time
  wakeReason : WakeReason
  wakeTime : Option Time
  outcome : DockOutcome
deriving DecidableEq, Repr

/-- The Dock Unit (R172). -/
structure Dock where
  sense : Sense
  senseStart : Option Time
  voltage : Byte
  timer : Time
  run : DockRun
  phase : Option DockPhase
  tries : Nat
  bumpPending : Bool
  near : Nat
  back : Nat
  backRef : BitVec 16
  turnAtEntry : Int
  record : DockRecord
deriving DecidableEq, Repr

/-! ### Exchange Port -/

/-- The request in hand with the request count it took (R185, R190). A RESTART in hand is the Guard's
outstanding RESTART answer (R155). -/
inductive InHand where
  | none
  | selfCheck (count : BitVec 8)
  | restart (count : BitVec 8)
deriving DecidableEq, Repr

/-- The answer record (R191), as the codes of R205. -/
structure Answer where
  echo : Word
  result : Word
  reason : Word
  count : BitVec 8
deriving DecidableEq, Repr

/-- The six captured argument words (R189). -/
structure Args where
  a0 : Word
  a1 : Word
  a2 : Word
  a3 : Word
  a4 : Word
  a5 : Word
deriving DecidableEq, Repr

/-- A mirror's refresh state: if it is WRITING, the words of its copy that are still to be written, and the again flag
(R185, R195). Its OPEN and CLOSE counts live in its first and last word. -/
structure Refresh where
  writing : Option (List (Nat × Word))
  again : Bool
deriving DecidableEq, Repr

/-- The Exchange Port (R185). -/
structure Port where
  faults : Nat
  requestCount : BitVec 8
  inHand : InHand
  args : Args
  answer : Answer
  snapshot : Refresh
  loopTable : Refresh
  contactList : Refresh
  snapTimer : Time
  latched : List Word
  dataLines : Word
deriving DecidableEq, Repr

/-! ### Notice Unit -/

/-- The seven notice sources, highest rank first (R197). -/
inductive Source where
  | trip
  | reflex
  | blade
  | plan
  | dock
  | loop
  | port
deriving DecidableEq, Repr

/-- What the Notice Unit holds for a source (R197); PLAN has three detail words, each other source one. -/
structure SourceState where
  status : Word
  details : List Word
  count : Nat
  pending : Bool
  service : Bool
deriving DecidableEq, Repr

/-- The Notice Unit: its sources, PORTCTL and the attention line (R197, R199, R202). -/
structure Notices where
  trip : SourceState
  reflex : SourceState
  blade : SourceState
  plan : SourceState
  dock : SourceState
  loop : SourceState
  port : SourceState
  atnEnable : Bool
  ackMode : Bool
  line : Bool
deriving DecidableEq, Repr

/-! ### Causes of a refresh -/

/-- The model's own: what the event in progress has done that causes a refresh and that its outcome may not show, such
as a flag set and cleared again, or a fold of a source already in its entry (R38, R145, R196). Between events nothing is
noted (DESIGN CHOICE, log entry 40). -/
structure Causes where
  loopTable : Bool
  contactList : Bool
deriving DecidableEq, Repr

/-- Nothing noted. -/
def Causes.none : Causes := ⟨false, false⟩

/-! ### Pins and resets -/

/-- The levels of the contact-closure inputs; `true` is closed (spec 00 section 2.3). -/
structure Pins where
  bump : Two Bool
  lift : Two Bool
  stopKey : Bool
deriving DecidableEq, Repr

/-- A POWER, PIN or STROBE reset that lasts, and whether it abandoned a running self-check (R24, R169). -/
structure Resetting where
  cause : ResetCause
  abandoned : Bool
deriving DecidableEq, Repr

end Sys2Proof.Machine
end

