-- ==== Sys2Proof/Machine/Codes.lean ====
section
/-! DEFINITION. The codes of R205, the notice statuses (R197, R205), and the reading of host-written codes. -/

namespace Sys2Proof.Machine

def MachineState.code : MachineState → Word
  | .start => 0
  | .safe => 1
  | .armed => 2
  | .tripped => 3
  | .parked => 4

def ResetCause.code : ResetCause → Word
  | .power => 0
  | .pin => 1
  | .strobe => 2
  | .restart => 3

def TripCause.code : TripCause → Word
  | .lift => 1
  | .tilt => 2
  | .stopKey => 3
  | .noSignal => 4
  | .escaped => 5
  | .hostSilent => 6
  | .bladeRunaway => 7

/-- A trip cause field: NONE is 0. -/
def tripCauseWord : Option TripCause → Word
  | none => 0
  | some c => c.code

/-- A cause as a one-element further-causes set: cause c is bit c − 1 (R205). -/
def TripCause.bit : TripCause → BitVec 7
  | .lift => 0x01
  | .tilt => 0x02
  | .stopKey => 0x04
  | .noSignal => 0x08
  | .escaped => 0x10
  | .hostSilent => 0x20
  | .bladeRunaway => 0x40

def PlanState.code : PlanState → Word
  | .idle => 0
  | .running => 1
  | .waitingNext => 2
  | .held => 3

def Stage.code : Stage → Word
  | .quiet => 0
  | .stopping => 1
  | .backing => 2
  | .turning => 3

def Debounce.code : Debounce → Word
  | .opened => 0
  | .closing => 1
  | .closed => 2

def BladeState.code : BladeState → Word
  | .off => 0
  | .spinup => 1
  | .cutting => 2
  | .braking => 3
  | .jammed => 4
  | .lockedOut => 5

def BladeFault.code : BladeFault → Word
  | .none => 0
  | .startStall => 1
  | .jam => 2
  | .brakeSlow => 3
  | .runaway => 4

def LoopState.code : LoopState → Word
  | .unused => 0
  | .lost => 1
  | .weak => 2
  | .present => 3
  | .noisy => 4

def Side.code : Side → Word
  | .unknown => 0
  | .inside => 1
  | .outside => 2

/-- A polarity field that may be absent (R205, R206). -/
def polarityWord : Option Polarity → Word
  | none => absentWord
  | some .positive => 1
  | some .negative => 2

def PosClass.code : PosClass → Word
  | .unknown => 0
  | .insideAll => 1
  | .outsideFront => 2
  | .outsideAll => 3
  | .straddle => 4

def Contributor.code : Contributor → Word
  | .global => 0
  | .slope => 1
  | .blade => 2
  | .sonar => 3
  | .wire => 4
  | .jam => 5
  | .dock => 6

def ContactOutcome.code : ContactOutcome → Word
  | .resumed => 1
  | .advanced => 2
  | .held => 3
  | .trapped => 4
  | .dockRetry => 5
  | .discarded => 6

/-- The outcome field of a contact entry: absent while pending (R206). -/
def outcomeWord : Option ContactOutcome → Word
  | none => absentWord
  | some o => o.code

def TrapCause.code : TrapCause → Word
  | .area => 1
  | .restarts => 2
  | .still => 3

def DockRun.code : DockRun → Word
  | .none => 0
  | .dock _ => 1
  | .undock _ => 2

def DockPhase.code : DockPhase → Word
  | .approach => 1
  | .near => 2
  | .backoff => 3
  | .reverse => 4
  | .turn => 5

/-- The phase field of the dock record and of the snapshot: absent when there is none (R206). -/
def phaseWord : Option DockPhase → Word
  | none => absentWord
  | some p => p.code

/-- The debounced contact is present while the sense is PRESENT or FALLING (R172). -/
def Sense.isPresent : Sense → Bool
  | .present => true
  | .falling => true
  | .absent => false
  | .rising => false

def WakeReason.code : WakeReason → Word
  | .none => 0
  | .wake => 1
  | .contactLost => 2
  | .stationSilent => 3
  | .reset => 4

def DockOutcome.code : DockOutcome → Word
  | .none => 0
  | .docked => 1
  | .dockFailed => 2
  | .undocked => 3
  | .stuckDocked => 4

def CheckResult.code : CheckResult → Word
  | .none => 0
  | .running => 1
  | .pass => 2
  | .fail => 3
  | .abandoned => 4

def Verdict.code : Verdict → Word
  | .none => 0
  | .pass => 1
  | .fail => 2

def EndCause.code : EndCause → Word
  | .reached => 1
  | .boundary => 2
  | .loopEvent => 3
  | .docked => 4
  | .contact => 5
  | .timeout => 6
  | .wireWeak => 7
  | .flipped => 8
  | .noLoop => 9
  | .badSegment => 10
  | .stuckDocked => 11
  | .trapped => 12
  | .dockFailed => 13
  | .preempted => 14
  | .stopped => 15
  | .guard => 16
  | .disarm => 17
  | .restart => 18

/-- DONE for REACHED, BOUNDARY, LOOP_EVENT and DOCKED; CUT for every other cause (R52). -/
def EndCause.isDone : EndCause → Bool
  | .reached => true
  | .boundary => true
  | .loopEvent => true
  | .docked => true
  | _ => false

/-! ### Slot states (R40) -/

def slotFree : Word := 0
def slotQueued : Word := 1
def slotActive : Word := 2
def slotDone : Word := 3
def slotCut : Word := 4

/-! ### Requests, results and reasons (R205) -/

def requestSelfCheck : Word := 11
def requestRestart : Word := 12

/-- The result of a request, with the reason of a REFUSED_CONDITION (R191). -/
inductive Result where
  | done
  | refusedState
  | refusedCondition (reason : Word)
  | badArgument
  | busy
  | notReady
  | unknown
deriving DecidableEq, Repr

def Result.code : Result → Word
  | .done => 1
  | .refusedState => 2
  | .refusedCondition _ => 3
  | .badArgument => 4
  | .busy => 5
  | .notReady => 6
  | .unknown => 7

/-- The reason word reads 0 for every result other than REFUSED_CONDITION (R191). -/
def Result.reason : Result → Word
  | .refusedCondition r => r
  | _ => 0

def reasonNotQueued : Word := 1
def reasonLifted : Word := 2
def reasonTilted : Word := 3
def reasonStopKey : Word := 4
def reasonNoPerimeter : Word := 5
def reasonBladeBusy : Word := 6
def reasonOutside : Word := 7
def reasonStillPresent : Word := 8
def reasonPlanBusy : Word := 9
def reasonNoContact : Word := 10
def reasonStationSilent : Word := 11

/-! ### Host-written codes -/

def Kind.ofWord (w : Word) : Option Kind :=
  match w.toNat with
  | 1 => some .roll
  | 2 => some .turn
  | 3 => some .pause
  | 4 => some .track
  | 5 => some .dock
  | 6 => some .undock
  | _ => none

def BladeDirective.ofWord (w : Word) : Option BladeDirective :=
  match w.toNat with
  | 0 => some .off
  | 1 => some .cut
  | 2 => some .keep
  | _ => none

def OnContact.ofWord (w : Word) : Option OnContact :=
  match w.toNat with
  | 0 => some .advance
  | 1 => some .resume
  | 2 => some .hold
  | _ => none

def FollowSide.ofWord (w : Word) : Option FollowSide :=
  match w.toNat with
  | 0 => some .leftOut
  | 1 => some .rightOut
  | _ => none

/-- The four values of end_on; no other word is one (R47, R205). -/
def EndOn.ofWord (w : Word) : Option EndOn :=
  match w.toNat with
  | 0 => some .none
  | 1 => some .nearStation
  | 2 => some .loopPresent
  | 3 => some .loopCrossed
  | _ => Option.none

/-- A loop number 0..3; any other word names no loop. -/
def loopOfWord (w : Word) : Option Loop :=
  if h : w.toNat < 4 then some ⟨w.toNat, h⟩ else none

/-- A slot number 0..47; any other word names no slot (R49, R54, R58). -/
def slotOfWord (w : Word) : Option Slot :=
  if h : w.toNat < Config.slotCount then some ⟨w.toNat, h⟩ else none

/-! ### Contact sources (R205) -/

def srcBumpL : Sources := 0x01
def srcBumpR : Sources := 0x02
def srcSonarL : Sources := 0x04
def srcSonarR : Sources := 0x08
def srcStallL : Sources := 0x10
def srcStallR : Sources := 0x20

/-- The left sources of R149. -/
def leftSources : Sources := 0x15

/-- The right sources of R149. -/
def rightSources : Sources := 0x2A

/-- The sonar sources. -/
def sonarSources : Sources := 0x0C

/-- The bump sources. -/
def bumpSources : Sources := 0x03

/-- The two sets have a source in common. -/
def Sources.meets (a b : Sources) : Bool := decide (a &&& b ≠ 0)

/-! ### Notice reports (R67, R135, R154, R184, R191, R197) -/

/-- What a block posts: a status of a source with its detail values. -/
inductive Report where
  | trip (cause : TripCause) (rpm : Nat)
  | contactHandled (outcome : ContactOutcome)
  | trapped (cause : TrapCause)
  | spunUp (rpm : Nat)
  | jammed (rpm : Nat)
  | startStall (rpm : Nat)
  | lockedOut (jams : Nat)
  | brakeSlow (rpm : Nat)
  | segmentDone (slot : Slot) (tag : Word) (cause : EndCause)
  | segmentCut (slot : Slot) (tag : Word) (cause : EndCause)
  | starved (slot : Slot)
  | planEnd (slot : Slot) (tag : Word) (cause : EndCause)
  | planHeld (slot : Slot) (tag : Word) (cause : EndCause)
  | planHeldDeferral
  | dockNear (tries : Nat)
  | docked (tries : Nat)
  | dockRetry (tries : Nat)
  | undocked (mm : Nat)
  | parkWake (reason : WakeReason)
  | loopState (loop : Loop)
  | positionClass (c : PosClass)
  | recoveryEnd
  | answered (count : BitVec 8)
  | writeDropped (addr : Nat)
  | settingsApplied (clamped : Nat)
  | checkDone
deriving DecidableEq, Repr

/-- The source a report is posted to (R197). -/
def Report.source : Report → Source
  | .trip _ _ => .trip
  | .contactHandled _ => .reflex
  | .trapped _ => .reflex
  | .spunUp _ => .blade
  | .jammed _ => .blade
  | .startStall _ => .blade
  | .lockedOut _ => .blade
  | .brakeSlow _ => .blade
  | .segmentDone _ _ _ => .plan
  | .segmentCut _ _ _ => .plan
  | .starved _ => .plan
  | .planEnd _ _ _ => .plan
  | .planHeld _ _ _ => .plan
  | .planHeldDeferral => .plan
  | .dockNear _ => .dock
  | .docked _ => .dock
  | .dockRetry _ => .dock
  | .undocked _ => .dock
  | .parkWake _ => .dock
  | .loopState _ => .loop
  | .positionClass _ => .loop
  | .recoveryEnd => .loop
  | .answered _ => .port
  | .writeDropped _ => .port
  | .settingsApplied _ => .port
  | .checkDone => .port

/-- The status code: statuses are numbered from 1 in the order R197 lists them (R205). -/
def Report.status : Report → Word
  | .trip c _ => c.code
  | .contactHandled _ => 1
  | .trapped _ => 2
  | .spunUp _ => 1
  | .jammed _ => 2
  | .startStall _ => 3
  | .lockedOut _ => 4
  | .brakeSlow _ => 5
  | .segmentDone _ _ _ => 1
  | .segmentCut _ _ _ => 2
  | .starved _ => 3
  | .planEnd _ _ _ => 4
  | .planHeld _ _ _ => 5
  | .planHeldDeferral => 5
  | .dockNear _ => 1
  | .docked _ => 2
  | .dockRetry _ => 3
  | .undocked _ => 4
  | .parkWake _ => 5
  | .loopState _ => 1
  | .positionClass _ => 2
  | .recoveryEnd => 3
  | .answered _ => 1
  | .writeDropped _ => 2
  | .settingsApplied _ => 3
  | .checkDone => 4

/-- The detail words of a segment's report: slot, tag, end cause (R67). -/
def segmentDetails (slot : Slot) (tag : Word) (cause : EndCause) : List Word :=
  [wordN slot.val, tag, cause.code]

/-- The detail words; an absent detail reads 0x8000 (R67, R197). -/
def Report.details : Report → List Word
  | .trip _ rpm => [wordN rpm]
  | .contactHandled o => [o.code]
  | .trapped c => [c.code]
  | .spunUp rpm => [wordN rpm]
  | .jammed rpm => [wordN rpm]
  | .startStall rpm => [wordN rpm]
  | .lockedOut jams => [wordN jams]
  | .brakeSlow rpm => [wordN rpm]
  | .segmentDone slot tag cause => segmentDetails slot tag cause
  | .segmentCut slot tag cause => segmentDetails slot tag cause
  | .starved slot => [wordN slot.val, absentWord, absentWord]
  | .planEnd slot tag cause => segmentDetails slot tag cause
  | .planHeld slot tag cause => segmentDetails slot tag cause
  | .planHeldDeferral => [absentWord, absentWord, absentWord]
  | .dockNear tries => [wordN tries]
  | .docked tries => [wordN tries]
  | .dockRetry tries => [wordN tries]
  | .undocked mm => [wordN mm]
  | .parkWake reason => [reason.code]
  | .loopState loop => [wordN loop.val]
  | .positionClass c => [c.code]
  | .recoveryEnd => [absentWord]
  | .answered count => [wordN count.toNat]
  | .writeDropped addr => [wordN addr]
  | .settingsApplied clamped => [wordN clamped]
  | .checkDone => [absentWord]

/-- The number of a source, 0 the highest rank (R197). -/
def Source.rank : Source → Nat
  | .trip => 0
  | .reflex => 1
  | .blade => 2
  | .plan => 3
  | .dock => 4
  | .loop => 5
  | .port => 6

/-- The source with a number, if there is one (R201). -/
def Source.ofWord (w : Word) : Option Source :=
  match w.toNat with
  | 0 => some .trip
  | 1 => some .reflex
  | 2 => some .blade
  | 3 => some .plan
  | 4 => some .dock
  | 5 => some .loop
  | 6 => some .port
  | _ => none

/-- The sources in order of rank, the highest first. -/
def Source.all : List Source := [.trip, .reflex, .blade, .plan, .dock, .loop, .port]

/-- Where the detail words of a source begin in the header (R206). -/
def Source.detailOffset : Source → Nat
  | .trip => 0
  | .reflex => 1
  | .blade => 2
  | .plan => 3
  | .dock => 6
  | .loop => 7
  | .port => 8

def Notices.get (n : Notices) : Source → SourceState
  | .trip => n.trip
  | .reflex => n.reflex
  | .blade => n.blade
  | .plan => n.plan
  | .dock => n.dock
  | .loop => n.loop
  | .port => n.port

def Notices.set (n : Notices) (s : Source) (v : SourceState) : Notices :=
  match s with
  | .trip => { n with trip := v }
  | .reflex => { n with reflex := v }
  | .blade => { n with blade := v }
  | .plan => { n with plan := v }
  | .dock => { n with dock := v }
  | .loop => { n with loop := v }
  | .port => { n with port := v }

end Sys2Proof.Machine
end

