-- ==== Sys2Proof/Machine/Layout.lean ====
section
/-! DEFINITION. The exchange memory map (R188, R204, R206): where each field lies, and which side may write an area. -/

namespace Sys2Proof.Machine

/-! ### Header (R206) -/

def addrMachineState : Nat := 0x002
def addrPartTime : Nat := 0x003
def addrResetRecord : Nat := 0x005
def addrAnswer : Nat := 0x009
def addrFaults : Nat := 0x00D
def addrAppliedGen : Nat := 0x00E
def addrStatus : Nat := 0x010
def addrDetails : Nat := 0x020

/-! ### Host areas (R204) -/

def addrHeartbeat : Nat := 0x040
def addrRequest : Nat := 0x041
def addrArgs : Nat := 0x042
def addrGlobalMax : Nat := 0x060
def addrAccel : Nat := 0x061
def addrNoticeEnable : Nat := 0x062
def addrHostSilence : Nat := 0x063
def addrBladeTarget : Nat := 0x064
def addrStaged : Nat := 0x080
def addrStageGen : Nat := 0x0BF
def addrApplied : Nat := 0x0C0
def addrAppliedGenMirror : Nat := 0x0FF
def addrScratch : Nat := 0xA00
def addrRegisters : Nat := 0xFFC

/-! ### Records (R206) -/

def addrTripRecord : Nat := 0x280
def addrBladeRecord : Nat := 0x2A0
def addrDockRecord : Nat := 0x2C0
def addrCheckRecord : Nat := 0x2E0

/-- The word address at which slot n begins (R40). -/
def slotBase (n : Slot) : Nat := 0x400 + 32 * n.val

/-- The first word of a mirror: its OPEN count (R206). -/
def mirrorOpen : Mirror → Nat
  | .snapshot => 0x100
  | .loopTable => 0x180
  | .contactList => 0x200

/-- The last word of a mirror: its CLOSE count (R206). -/
def mirrorClose : Mirror → Nat
  | .snapshot => 0x17F
  | .loopTable => 0x1FF
  | .contactList => 0x27F

/-- The areas of the exchange memory, as R188 lists them. -/
inductive Area where
  | header
  | command
  | live
  | staged
  | applied
  | snapshot
  | loopTable
  | contactList
  | records
  | slots
  | scratch
  | registers
deriving DecidableEq, Repr

/-- The area an address falls in (R188). -/
def areaOf (a : Nat) : Area :=
  if a < 0x040 then .header
  else if a < 0x060 then .command
  else if a < 0x080 then .live
  else if a < 0x0C0 then .staged
  else if a < 0x100 then .applied
  else if a < 0x180 then .snapshot
  else if a < 0x200 then .loopTable
  else if a < 0x280 then .contactList
  else if a < 0x400 then .records
  else if a < 0xA00 then .slots
  else if a < 0xFFC then .scratch
  else .registers

end Sys2Proof.Machine
end

