-- ==== Sys2Proof/Machine/MirrorFields.lean ====
section
/-! DEFINITION. The words of the mirrors and of the records, as functions of the blocks they copy (R206). -/

namespace Sys2Proof.Machine

/-! ### Snapshot (R88, R104, R116, R195, R206) -/

/-- The reported position is in whole millimetres, truncated (R77). -/
def reportedMm (v : Int) : Int := trunc v 256

/-- The words 0x101..0x117: drive and governor. -/
def driveGovWords (d : Drive) (g : Governor) : List Word :=
  words32I (reportedMm d.x) ++ words32I (reportedMm d.y) ++
  [d.heading, wordI d.wheels.left.target, wordI d.wheels.right.target,
   wordI d.wheels.left.measured, wordI d.wheels.right.measured,
   wordI d.wheels.left.duty, wordI d.wheels.right.duty,
   wordN g.cap, g.limiting.code,
   wordOpt g.table.global, wordOpt g.table.slope, wordOpt g.table.blade, wordOpt g.table.sonar,
   wordOpt g.table.wire, wordOpt g.table.jam, wordOpt g.table.dock,
   wordI g.pitch, wordI g.roll, wordN g.slope]

/-- The number of words of `driveGovWords`. -/
def driveGovCount : Nat := 23

/-- What the port keeps after each control period for the next snapshot: drive, governor and steering (R195). -/
def latchWords (d : Drive) (g : Governor) (t : Track) : List Word :=
  driveGovWords d g ++ [wordI t.e, wordN t.weak]

/-- The words 0x118..0x127, as they stand at the start of the refresh. -/
def snapshotMiddle (b : Blade) (p : Plan) (c : Contact) (l : LoopTable) (g : Guard) : List Word :=
  [b.state.code, wordN b.rpm, wordN b.duty, wordN b.load,
   p.state.code, (match p.active with | none => 255 | some s => wordN s.slot.val),
   c.stage.code, c.bump.left.code, c.bump.right.code, wordOpt c.sonar.left.range, wordOpt c.sonar.right.range,
   l.posClass.code, g.machine.code, wordB g.recovery] ++ words32 (BitVec.ofNat 32 (g.escape / 256))

/-- The words 0x128 and 0x129: the error and the weak count as they stood after the latest control period (R195), both 0 where
no TRACK or DOCK was active then (R104; DESIGN CHOICE, log entry 13). -/
def steeringWords (latched : List Word) : List Word := latched.drop driveGovCount

/-- The words 0x12A..0x12D: the Dock Unit. -/
def snapshotDock (d : Dock) : List Word :=
  [wordB d.sense.isPresent, d.voltage.zeroExtend 16, d.run.code, phaseWord d.phase]

/-- The snapshot's cells 0x101..0x12D. -/
def snapshotCells (latched : List Word) (b : Blade) (p : Plan) (c : Contact) (l : LoopTable) (g : Guard)
    (d : Dock) : List (Nat × Word) :=
  cellsFrom 0x101 (latched.take driveGovCount ++ snapshotMiddle b p c l g ++ steeringWords latched ++ snapshotDock d)

/-! ### Loop table mirror (R38, R206) -/

/-- The receiver's counts of one coil (R19). -/
def channelWords (c : Channel) : List Word := [wordN c.malformed, wordN c.foreign, wordOpt c.lastForeign]

/-- The eight words of a coil sub-record. -/
def subWords (r : SubRecord) : List Word :=
  [r.state.code, r.side.code, wordN r.agree, r.amplitude.zeroExtend 16, polarityWord r.polarity] ++
  timeWords r.lastFrame ++ [wordN r.window]

/-- The 25 words of a loop. -/
def loopWords (r : LoopRec) : List Word :=
  r.state.code :: (subWords r.coils.left ++ subWords r.coils.right ++ subWords r.coils.rear)

/-- The loop table mirror's cells. -/
def loopCells (l : LoopTable) (r : Receiver) : List (Nat × Word) :=
  cellsFrom 0x181 ([l.posClass.code, wordB l.stationNear] ++ channelWords r.channels.left ++
    channelWords r.channels.right ++ channelWords r.channels.rear) ++
  cellsFrom 0x190 (loopWords l.recs.l0 ++ loopWords l.recs.l1 ++ loopWords l.recs.l2 ++ loopWords l.recs.l3)

/-! ### Contact list mirror (R145, R206) -/

/-- The eleven words of an entry. -/
def entryWords (e : Entry) : List Word :=
  words32 (recordTime e.time) ++ [e.sources.zeroExtend 16] ++ words32I e.x ++ words32I e.y ++
  [e.heading, wordOpt e.range, wordOpt (e.slot.map (fun s => s.val)), outcomeWord e.outcome]

/-- The words of `n` positions: the entries from the oldest on, then 0. -/
def entriesWords : Nat → List Entry → List Word
  | 0, _ => []
  | n + 1, [] => [0, 0, 0, 0, 0, 0, 0, 0, 0, 0, 0] ++ entriesWords n []
  | n + 1, e :: es => entryWords e ++ entriesWords n es

/-- The contact list mirror's cells. -/
def contactCells (list : List Entry) : List (Nat × Word) :=
  (0x201, wordN list.length) :: cellsFrom 0x208 (entriesWords Config.contactCapacity list)

/-! ### Records (R206) -/

/-- The trip record (R167). -/
def tripCells (r : TripRecord) : List (Nat × Word) :=
  cellsFrom addrTripRecord ([tripCauseWord r.first, r.further.zeroExtend 16] ++ words32 (recordTime r.time) ++
    words32I r.x ++ words32I r.y ++ [r.heading, wordN r.rpm, wordB r.brakeSlow, wordB r.cleared] ++
    timeWords r.clearTime)

/-- The blade record (R134). -/
def bladeCells (b : Blade) : List (Nat × Word) :=
  cellsFrom addrBladeRecord ([b.state.code, wordN b.rpm, wordN b.duty, wordN b.load, wordN b.jamCount,
    b.lastFault.code] ++ timeWords b.lastJam)

/-- The dock record (R184). -/
def dockCells (d : Dock) : List (Nat × Word) :=
  cellsFrom addrDockRecord ([d.record.outcome.code, wordB d.sense.isPresent, d.voltage.zeroExtend 16, d.run.code,
    phaseWord d.phase, wordN d.record.tries] ++ timeWords d.record.dockTime ++ timeWords d.record.parkTime ++
    [d.record.wakeReason.code] ++ timeWords d.record.wakeTime)

/-- One coil of the check record. -/
def checkCoilWords (c : CheckCoil) : List Word := [c.verdict.code, wordN c.decoded, wordN c.mismatch]

/-- The check record (R21..R24). -/
def checkCells (c : Check) : List (Nat × Word) :=
  cellsFrom addrCheckRecord ([c.result.code] ++ words32 (recordTime c.start) ++ words32 (recordTime c.finish) ++
    checkCoilWords c.coils.left ++ checkCoilWords c.coils.right ++ checkCoilWords c.coils.rear)

/-- The reset record in the header (R171). -/
def resetRecordCells (r : ResetRecord) : List (Nat × Word) :=
  cellsFrom addrResetRecord [r.cause.code, wordB r.parked, tripCauseWord r.trip, wordN r.count]

end Sys2Proof.Machine
end

