-- ==== Sys2Proof/Machine/Settings.lean ====
section
/-! DEFINITION. The staged settings: their ranges and defaults (R204), the clamps of an apply (R18, R65), and the
settings as a list of 34 values in the order of the staged area. -/

namespace Sys2Proof.Machine

/-- The range of each staged setting in the order of R204. BLANK (offset 4) is replaced by its own rule. -/
def settingRanges : List (Nat × Nat) :=
  [(0, 15), (0, 15), (0, 15), (0, 15), (0, 16), (0, 200), (10, 500), (0, 255), (0, 255), (0, 400), (0, 1024),
   (200, 800), (256, 4096), (0, 1024), (0, 255), (1, 64), (100, 1000), (1024, 32768), (150, 800), (100, 3000),
   (10, 600), (2, 8), (1, 9), (300, 3000), (60, 240), (40, 250), (50, 300), (5, 35), (6, 40), (50, 400),
   (10, 45), (40, 95), (0, 30000), (100, 2000)]

/-- The defaults in the order of R204. -/
def settingDefaults : List Nat :=
  [0, 1, 2, 3, 8, 24, 50, 64, 128, 200, 96, 380, 983, 320, 40, 16, 300, 8192, 300, 600, 60, 4, 3, 1500, 180, 160,
   150, 15, 30, 150, 38, 70, 3000, 300]

/-- A BLANK value is replaced by the greatest permitted value not above it (R18). -/
def permittedBlank (v : Nat) : Nat :=
  if 16 ≤ v then 16 else if 8 ≤ v then 8 else if 4 ≤ v then 4 else 0

/-- The offsets of the cross-field clamp (R65). -/
def offSlopeSoft : Nat := 27
def offSlopeHard : Nat := 28
def offSlopeTrip : Nat := 30
def offBlank : Nat := 4

/-- The single-field clamp of the setting at an offset (R65). -/
def clampSetting (off : Nat) (range : Nat × Nat) (v : Nat) : Nat :=
  if off = offBlank then permittedBlank v else clampN range.1 range.2 v

/-- The single-field clamps of values at consecutive offsets from `off` on. -/
def clampSettingsFrom : Nat → List (Nat × Nat) → List Nat → List Nat
  | off, r :: rs, v :: vs => clampSetting off r v :: clampSettingsFrom (off + 1) rs vs
  | _, _, _ => []

/-- Replace the value at an offset. -/
def replaceAt : Nat → Nat → List Nat → List Nat
  | _, _, [] => []
  | 0, v, _ :: xs => v :: xs
  | n + 1, v, x :: xs => x :: replaceAt n v xs

/-- Raise the value at an offset to at least `low`. -/
def raiseAt (off low : Nat) (xs : List Nat) : List Nat :=
  if xs.getD off 0 < low then replaceAt off low xs else xs

/-- The cross-field clamps: SLOPE_HARD to SLOPE_SOFT + 1, then SLOPE_TRIP to SLOPE_HARD (R65). -/
def crossClamp (xs : List Nat) : List Nat :=
  let ys := raiseAt offSlopeHard (xs.getD offSlopeSoft 0 + 1) xs
  raiseAt offSlopeTrip (ys.getD offSlopeHard 0) ys

/-- The values in force that an apply makes of the values written (R65). -/
def clampSettings (written : List Nat) : List Nat :=
  crossClamp (clampSettingsFrom 0 settingRanges written)

/-- How many fields an apply changed, each counted once (R65). -/
def clampedCount : List Nat → List Nat → Nat
  | a :: xs, b :: ys => (if a = b then 0 else 1) + clampedCount xs ys
  | _, _ => 0

/-- The settings whose values a list holds in the order of R204. -/
def Settings.ofList (l : List Nat) : Settings where
  loopMap := ⟨l.getD 0 0, l.getD 1 0, l.getD 2 0, l.getD 3 0⟩
  blank := l.getD 4 0
  ampMin := l.getD 5 0
  weakLimit := l.getD 6 0
  kp := l.getD 7 0
  kd := l.getD 8 0
  dMax := l.getD 9 0
  kh := l.getD 10 0
  trackWidth := l.getD 11 0
  mmPer256 := l.getD 12 0
  kf := l.getD 13 0
  ki := l.getD 14 0
  kb := l.getD 15 0
  reflexBack := l.getD 16 0
  reflexTurn := l.getD 17 0
  sonarStop := l.getD 18 0
  trapRadius := l.getD 19 0
  trapWindow := l.getD 20 0
  trapCount := l.getD 21 0
  dockTries := l.getD 22 0
  dockReach := l.getD 23 0
  dockV := l.getD 24 0
  nearAmp := l.getD 25 0
  dockSpeed := l.getD 26 0
  slopeSoft := l.getD 27 0
  slopeHard := l.getD 28 0
  slopeFloor := l.getD 29 0
  slopeTrip := l.getD 30 0
  loadSoft := l.getD 31 0
  bladeHold := l.getD 32 0
  escapeLimit := l.getD 33 0

/-- The default settings (R43, R204). -/
def Settings.default : Settings := Settings.ofList settingDefaults

end Sys2Proof.Machine
end

