-- ==== Sys2Proof/Machine/Init.lean ====
section
/-! DEFINITION. The values each block takes after a reset (R20, R24, R36, R43, R68, R89, R105, R117, R136, R155,
R167, R172, R185, R197, R207). Each is a function of what the rule lets it depend on, so that RESTART can use the
parts it shares with the other resets. -/

namespace Sys2Proof.Machine

/-- A coil channel after every reset (R20). The peak detector and the previous trailing, for which the spec gives no
reset value, are 0 (DESIGN CHOICE, log entry 4); nothing reads them before they are written. -/
def initChannel : Channel where
  pulse := .none
  held := false
  noted := false
  peak := 0
  decoder := .hunt
  prevTrailing := 0
  gap := .stopped
  malformed := 0
  foreign := 0
  lastForeign := none

/-- One coil of a check record as a check's start and a reset write it (R21, R24). -/
def initCheckCoil : CheckCoil := ⟨.none, 0, 0⟩

/-- The check record after POWER (R24). -/
def initCheck : Check := ⟨.none, 0, 0, ⟨initCheckCoil, initCheckCoil, initCheckCoil⟩, 0⟩

/-- The receiver after a reset that leaves the given check record (R20, R24). -/
def initReceiver (check : Check) : Receiver := ⟨⟨initChannel, initChannel, initChannel⟩, none, check⟩

/-- The LOST values of a coil sub-record (R25). -/
def lostSub : SubRecord where
  state := .lost
  side := .unknown
  candidate := none
  agree := 0
  amplitude := 0
  polarity := none
  lastFrame := none
  window := 0

/-- A loop is unused while its entry is 15 (R25). -/
def entryUnused (entry : Nat) : Bool := decide (entry = 15)

/-- A loop record after a reset, by its map entry (R36). -/
def initLoopRec (entry : Nat) : LoopRec where
  state := if entryUnused entry then .unused else .lost
  coils := ⟨lostSub, lostSub, lostSub⟩

/-- The Loop Table after every reset, under the map then in force; `now` is the part time at its end (R36). -/
def initLoops (loopMap : Four Nat) (now : Time) : LoopTable where
  recs := loopMap.map initLoopRec
  posClass := .unknown
  stationNear := false
  windowTimer := now + 500
  checkFlag := false
  spoiled := false

/-- The Plan Engine after POWER, PIN and STROBE (R43). -/
def initPlan : Plan where
  state := .idle
  active := none
  activation := 0
  waiting := none
  deferred := none
  heldSlot := none
  standing := .off
  holdTimer := none
  waitTimer := none
  applied := Settings.default
  appliedGen := 0
  watch := none

/-- A wheel after POWER, PIN and STROBE (R68). -/
def initWheel : WheelState where
  lastPulse := none
  period := none
  count := 0
  forward := true
  measured := 0
  target := 0
  integrator := 0
  duty := 0

/-- The Drive Controller after POWER, PIN and STROBE (R68). -/
def initDrive : Drive where
  wheels := ⟨initWheel, initWheel⟩
  x := 0
  y := 0
  heading := 0
  segDist := 0
  runDist := 0
  runTurn := 0
  runTime := 0
  headingRef := 0
  suspended := false
  motion := .still
  timer := 10
  choice := .zero

/-- Track Steering after every reset, and while no TRACK or DOCK is active (R89, R93, R104). -/
def idleTrack : Track where
  running := none
  loop := none
  side := none
  offset := 0
  speed := 0
  ePrev := 0
  e := 0
  weak := 0
  published := 0

/-- The Speed Governor after POWER, PIN and STROBE (R105). -/
def initGovernor : Governor where
  table := ⟨some 500, none, none, none, none, none, none⟩
  cap := 500
  limiting := .global
  pitchReading := 128
  rollReading := 128
  pitch := 0
  roll := 0
  slope := 0

/-- The Blade Controller after POWER: still, OFF (R117). -/
def initBladePower : Blade where
  state := .off
  jamPhase := none
  final := false
  duty := 0
  brake := false
  lastPulse := none
  period := none
  rpm := 0
  spinupEntry := 0
  lowStart := none
  brakeTimer := none
  brakeStart := none
  waitTimer := none
  effective := .off
  jamCount := 0
  lastFault := .none
  lastJam := none
  load := 0
  runaway := false
  timer := 10

/-- The Blade Controller after PIN and STROBE: BRAKING from the end of the reset (R117, R133). -/
def initBladeBraking : Blade :=
  { initBladePower with state := .braking, brake := true, brakeTimer := some 2000, brakeStart := some 0 }

/-- The Blade Controller after a reset with the given cause, RESTART apart. -/
def initBlade : ResetCause → Blade
  | .power => initBladePower
  | .pin => initBladeBraking
  | .strobe => initBladeBraking
  | .restart => initBladeBraking

/-- A debounce state at a reset's end: OPEN when the input is open, CLOSING when it is closed (R136, R155). -/
def initDebounce (closed : Bool) : Debounce := if closed then .closing else .opened

/-- The debounce timer that goes with it, `ms` long. -/
def initDebounceTimer (now : Time) (ms : Time) (closed : Bool) : Option Time := if closed then some (now + ms) else none

/-- A sonar channel after every reset (R136). -/
def idleSonar : Sonar := ⟨false, .idle, none, 0⟩

/-- The cleared reflex record (R136). -/
def clearedReflex : ReflexRecord where
  episodeStart := 0
  activation := 0
  hits := 0
  ranges := ⟨none, none⟩
  turn := none
  stageEntry := 0
  distance := 0
  turned := 0
  still := 0
  restarts := 0

/-- The Contact Unit after every reset (R136). -/
def initContact (pins : Pins) (now : Time) : Contact where
  bump := pins.bump.map initDebounce
  bumpTimer := pins.bump.map (initDebounceTimer now 20)
  pinging := false
  nextSensor := .left
  pingTimer := none
  sonar := ⟨idleSonar, idleSonar⟩
  stall := ⟨none, none⟩
  list := []
  stage := .quiet
  record := clearedReflex

/-- The trip record after POWER, PIN and STROBE (R167). -/
def initTripRecord : TripRecord := ⟨none, 0, 0, 0, 0, 0, 0, false, false, none⟩

/-- The Guard after every reset, with the two records it carries over (R155). -/
def initGuard (pins : Pins) (now : Time) (bladeOff : Bool) (trip : TripRecord) (resetRecord : ResetRecord) : Guard where
  machine := .start
  lift := pins.lift.map initDebounce
  liftTimer := pins.lift.map (initDebounceTimer now 100)
  tiltStart := none
  noSignal := some (now + 2000)
  escape := 0
  recovery := false
  silence := none
  windowJudged := false
  bladeOff := bladeOff
  trip := trip
  resetRecord := resetRecord

/-- The dock record after POWER, PIN and STROBE (R184). -/
def initDockRecord : DockRecord := ⟨0, none, none, .none, none, .none⟩

/-- The Dock Unit after every reset, with the record it carries over (R172). The sample timer's first expiry comes 10 ms after
the reset's end (DEDUCED, log entry 44). -/
def initDock (now : Time) (record : DockRecord) : Dock where
  sense := .absent
  senseStart := none
  voltage := 0
  timer := now + 10
  run := .none
  phase := none
  tries := 0
  bumpPending := false
  near := 0
  back := 0
  backRef := 0
  turnAtEntry := 0
  record := record

/-- A source after every reset (R197). -/
def initSource (details : Nat) : SourceState := ⟨0, List.replicate details absentWord, 0, false, false⟩

/-- The sources after every reset; PORTCTL is given by the reset (R197). -/
def initNotices (atnEnable ackMode : Bool) : Notices where
  trip := initSource 1
  reflex := initSource 1
  blade := initSource 1
  plan := initSource 3
  dock := initSource 1
  loop := initSource 1
  port := initSource 1
  atnEnable := atnEnable
  ackMode := ackMode
  line := false

/-- The snapshot's cells at the end of a POWER, PIN or STROBE reset (R207). -/
def initSnapshotCells (blade : Blade) (contact : Contact) (guard : Guard) : List (Nat × Word) :=
  snapshotCells (latchWords initDrive initGovernor idleTrack) blade initPlan contact
    (initLoops Settings.default.loopMap 0) guard (initDock 0 initDockRecord)

/-- The loop table mirror's cells at the end of such a reset (R207). -/
def initLoopCells (check : Check) : List (Nat × Word) :=
  loopCells (initLoops Settings.default.loopMap 0) (initReceiver check)

/-- The Exchange Port at the end of such a reset: the first refresh of each mirror has started (R185, R196, R207). -/
def initPort (check : Check) (blade : Blade) (contact : Contact) (guard : Guard) : Port where
  faults := 0
  requestCount := 0
  inHand := .none
  args := ⟨0, 0, 0, 0, 0, 0⟩
  answer := ⟨0, 0, 0, 0⟩
  snapshot := ⟨some (initSnapshotCells blade contact guard), false⟩
  loopTable := ⟨some (initLoopCells check), false⟩
  contactList := ⟨some (contactCells []), false⟩
  snapTimer := 50
  latched := latchWords initDrive initGovernor idleTrack
  dataLines := 0

/-- The words of the live settings area after POWER, PIN and STROBE (R193, R204). -/
def initLiveCells : List (Nat × Word) :=
  cellsFrom addrGlobalMax [500, 20, 0x007F, 1000, 2800]

/-- The cells the initialisation writes, in rising address order, mirrors included; the OPEN words hold 1 because the
first refresh has started in the same event (R196, R207). Words it does not list read 0. -/
def initCells (check : Check) (blade : Blade) (contact : Contact) (guard : Guard) : List (Nat × Word) :=
  [(0x000, Config.identWord), (0x001, Config.layoutVersion), (addrMachineState, guard.machine.code)] ++
  resetRecordCells guard.resetRecord ++
  cellsFrom addrDetails (List.replicate 9 absentWord) ++
  initLiveCells ++
  cellsFrom addrStaged (settingDefaults.map wordN) ++
  cellsFrom addrApplied (settingDefaults.map wordN) ++
  [(mirrorOpen .snapshot, 1)] ++ initSnapshotCells blade contact guard ++
  [(mirrorOpen .loopTable, 1)] ++ initLoopCells check ++
  [(mirrorOpen .contactList, 1)] ++ contactCells [] ++
  tripCells guard.trip ++ bladeCells blade ++ dockCells (initDock 0 initDockRecord) ++ checkCells check

/-- The exchange memory at the end of such a reset: the cells above, and the host scratch area as given (R169, R207). -/
def initMemory (check : Check) (blade : Blade) (contact : Contact) (guard : Guard) (scratch : Memory) : Memory :=
  (initCells check blade contact guard).filter (fun c => decide (c.2 ≠ 0)) ++ scratch

/-- The host scratch area of a memory (R188). -/
def scratchOf (m : Memory) : Memory := m.filter (fun c => decide (areaOf c.1 = Area.scratch))

end Sys2Proof.Machine
end

