-- ==== Sys2Proof/Machine/State.lean ====
section
/-! DEFINITION. The state of the MC44 as plain data, and its value after reset. -/

namespace Sys2Proof.Machine

/-- The whole part: its two clocks, a reset that lasts, the input levels, the twelve blocks, the exchange memory,
and the queue of waiting commands. -/
structure State where
  timebase : Capture
  partTime : Time
  resetting : Option Resetting
  pins : Pins
  recv : Receiver
  loops : LoopTable
  plan : Plan
  drive : Drive
  track : Track
  gov : Governor
  blade : Blade
  contact : Contact
  guard : Guard
  dock : Dock
  port : Port
  notice : Notices
  mem : Memory
  /-- The model's own field: the causes of a refresh noted in the event in progress (DESIGN CHOICE, log entry 40). -/
  causes : Causes
  /-- The model's own field: the commands that wait, first in first out (DESIGN CHOICE, log entry 31). -/
  pending : List Instr
deriving DecidableEq, Repr

/-- The faults of the part. The spec gives every command an effect, or none, in every state, and nothing stops the
part (a trip is a machine state, a dropped write is counted, a reset is waited out), so there is no fault. -/
inductive Fault where
deriving DecidableEq, Repr

/-- The reasons for which no next state is given. -/
inductive Refusal where
  /-- Raised by `exec` alone, for a command that has no meaning yet. Safe: nothing is said of it. -/
  | notModelled (mnemonic : String)
deriving DecidableEq, Repr

/-- The state at the end of a POWER, PIN or STROBE reset with the given reset record, input levels, check record,
host scratch area and queue (R169, R207). -/
def State.initial (cause : ResetCause) (record : ResetRecord) (pins : Pins) (check : Check) (scratch : Memory)
    (pending : List Instr) : State :=
  let blade := initBlade cause
  let contact := initContact pins 0
  let guard := initGuard pins 0 (decide (cause = .power)) initTripRecord record
  { timebase := 0
    partTime := 0
    resetting := none
    pins := pins
    recv := initReceiver check
    loops := initLoops Settings.default.loopMap 0
    plan := initPlan
    drive := initDrive
    track := idleTrack
    gov := initGovernor
    blade := blade
    contact := contact
    guard := guard
    dock := initDock 0 initDockRecord
    port := initPort check blade contact guard
    notice := initNotices false false
    mem := initMemory check blade contact guard scratch
    causes := Causes.none
    pending := pending }

/-- Every contact-closure input open (DESIGN CHOICE, log entry 3). -/
def openPins : Pins := ⟨⟨false, false⟩, ⟨false, false⟩, false⟩

/-- The machine right after reset: the end of a POWER reset with every input open and nothing queued (R169). -/
def State.reset : State := State.initial .power ⟨.power, false, none, 0⟩ openPins initCheck [] []

end Sys2Proof.Machine
end

