-- ==== Sys2Proof/Machine/Operands.lean ====
section
/-! DEFINITION. What a command reads: words of the exchange memory, live settings clamped at use (R193), the staged
area (R204), the fields of a segment slot (R46, R204), the argument words of a request (R189), the reported pose (R77). -/

namespace Sys2Proof.Machine

/-- The exchange-memory word at an address. -/
def State.word (s : State) (a : Nat) : Word := s.mem.read a

/-- GLOBAL_MAX as used: clamped to 100..800 (R108). -/
def State.globalMax (s : State) : Nat := clampN 100 800 (s.word addrGlobalMax).toNat

/-- ACCEL as used: clamped to 5..100 (R74). -/
def State.accel (s : State) : Nat := clampN 5 100 (s.word addrAccel).toNat

/-- HOST_SILENCE as used: clamped to 100..5000 (R165). -/
def State.hostSilence (s : State) : Nat := clampN 100 5000 (s.word addrHostSilence).toNat

/-- BLADE_TARGET as used: clamped to 2000..4000 (R117). -/
def State.bladeTarget (s : State) : Nat := clampN 2000 4000 (s.word addrBladeTarget).toNat

/-- The words of `n` consecutive addresses from `a` on, as unsigned values (R203). -/
def State.valuesFrom (s : State) : Nat → Nat → List Nat
  | _, 0 => []
  | a, n + 1 => (s.word a).toNat :: s.valuesFrom (a + 1) n

/-- The staged fields as the host has written them, in the order of R204. -/
def State.stagedValues (s : State) : List Nat := s.valuesFrom addrStaged settingDefaults.length

/-- The stage generation word (R204). -/
def State.stageGen (s : State) : Word := s.word addrStageGen

/-- A 32-bit field, the low word at the lower address (R203). -/
def State.word32 (s : State) (a : Nat) : BitVec 32 := join32 (s.word a) (s.word (a + 1))

/-- The state word of a slot (R40). -/
def State.slotState (s : State) (n : Slot) : Word := s.word (slotBase n)

/-- The host fields of a slot (R46, R204). -/
def State.slotFields (s : State) (n : Slot) : Fields :=
  let b := slotBase n
  { kind := s.word (b + 1)
    next := s.word (b + 2)
    tag := s.word (b + 3)
    stopAtBoundary := s.word (b + 4)
    reverse := s.word (b + 5)
    blade := s.word (b + 6)
    onContact := s.word (b + 7)
    speed := s.word (b + 8)
    timeLimit := s.word (b + 9)
    distance := s.word32 (b + 10)
    angle := s.word32 (b + 12)
    radius := s.word (b + 14)
    loop := s.word (b + 15)
    side := s.word (b + 16)
    offset := s.word (b + 17)
    endLoop := s.word (b + 18)
    endOn := s.word (b + 19) }

/-- The six argument words as they stand (R189). -/
def State.argWords (s : State) : Args :=
  ⟨s.word addrArgs, s.word (addrArgs + 1), s.word (addrArgs + 2), s.word (addrArgs + 3), s.word (addrArgs + 4),
   s.word (addrArgs + 5)⟩

/-- The reported x in whole millimetres (R77). -/
def State.reportedX (s : State) : Int := reportedMm s.drive.x

/-- The reported y in whole millimetres (R77). -/
def State.reportedY (s : State) : Int := reportedMm s.drive.y

/-! ### Fields of the working copy -/

def Fields.kind? (f : Fields) : Option Kind := Kind.ofWord f.kind
def Fields.onContact? (f : Fields) : Option OnContact := OnContact.ofWord f.onContact
def Fields.side? (f : Fields) : Option FollowSide := FollowSide.ofWord f.side
def Fields.endOn? (f : Fields) : Option EndOn := EndOn.ofWord f.endOn
def Fields.loop? (f : Fields) : Option Loop := loopOfWord f.loop
def Fields.endLoop? (f : Fields) : Option Loop := loopOfWord f.endLoop

/-- The speed field in mm/s. -/
def Fields.speedMm (f : Fields) : Nat := f.speed.toNat

/-- The distance field, signed (R203); 0..1,000,000 after the clamp of R49. -/
def Fields.distanceVal (f : Fields) : Int := f.distance.toInt

/-- The distance field after the clamp, which leaves it 0 or more (R49). -/
def Fields.distanceMm (f : Fields) : Nat := f.distance.toInt.toNat

/-- The angle field in au, signed. -/
def Fields.angleAu (f : Fields) : Int := f.angle.toInt

/-- The magnitude of the angle; that of −2^31 is taken as 2^31 − 1 (R86). -/
def Fields.angleMagnitude (f : Fields) : Nat := minN f.angleAu.natAbs 2147483647

/-- The radius field in mm, signed. -/
def Fields.radiusMm (f : Fields) : Int := f.radius.toInt

/-- The offset field, signed. -/
def Fields.offsetVal (f : Fields) : Int := f.offset.toInt

/-- stop_at_boundary is set. -/
def Fields.stops (f : Fields) : Bool := decide (f.stopAtBoundary ≠ 0)

/-- reverse is set. -/
def Fields.reversed (f : Fields) : Bool := decide (f.reverse ≠ 0)

/-- The clamp of R49 on next: any value that is no slot number becomes 255, the end of the chain. -/
def clampNext (w : Word) : Word := if w.toNat < Config.slotCount then w else 255

/-- The kind of the active segment, if a segment is active. -/
def State.activeKind (s : State) : Option Kind :=
  match s.plan.active with
  | none => none
  | some seg => seg.fields.kind?

/-- The active slot, if any. -/
def State.activeSlot (s : State) : Option Slot := s.plan.active.map (fun seg => seg.slot)

/-- The debounced charge contact is present (R172). -/
def State.contactPresent (s : State) : Bool := s.dock.sense.isPresent

/-- The machine is ARMED. -/
def State.armed (s : State) : Bool := decide (s.guard.machine = .armed)

/-- The machine is PARKED. -/
def State.parked (s : State) : Bool := decide (s.guard.machine = .parked)

end Sys2Proof.Machine
end

