-- ==== Sys2Proof/Machine/Flags.lean ====
section
/-! DEFINITION. The flags and lines the spec derives: source enables and the attention line (R198, R199), the
register words (R200..R202), the Guard's standing conditions (R155), recovery suppression (R120), staleness (R33). -/

namespace Sys2Proof.Machine

/-! ### Notices -/

/-- A source is enabled by its bit of NOTICE_ENABLE; TRIP is enabled whatever its bit holds (R198). -/
def sourceEnabled (enable : Word) (src : Source) : Bool :=
  decide (src = .trip) || enable.getLsbD src.rank

/-- The source outranks every source under service (R199). -/
def Notices.outranksService (n : Notices) (src : Source) : Bool :=
  Source.all.all (fun b => !(n.get b).service || decide (src.rank < b.rank))

/-- The source is enabled and pending. -/
def Notices.signals (n : Notices) (enable : Word) (src : Source) : Bool :=
  (n.get src).pending && sourceEnabled enable src

/-- The level of the attention line (R199): ATN_ENABLE is set and some enabled pending source outranks every source
under service. -/
def Notices.lineLevel (n : Notices) (enable : Word) : Bool :=
  n.atnEnable && Source.all.any (fun a => n.signals enable a && n.outranksService a)

/-- The source an acknowledge read takes (R200). -/
def Notices.ackSource (n : Notices) (enable : Word) : Option Source :=
  Source.all.find? (fun a => n.signals enable a && n.outranksService a)

/-- The source a peek read shows (R200). -/
def Notices.peekSource (n : Notices) (enable : Word) : Option Source :=
  Source.all.find? (fun a => n.signals enable a)

/-- The highest-ranked source under service (R201). -/
def Notices.serviceSource (n : Notices) : Option Source :=
  Source.all.find? (fun a => (n.get a).service)

/-- The word a read of ATTENTION returns (R200, R206). -/
def attentionWord (n : Notices) : Option Source → Word
  | none => 0
  | some src => 0x8000 ||| (wordN src.rank <<< 8) ||| ((n.get src).status &&& 0x00FF)

/-- The word a read of SERVICE returns (R201, R206). -/
def Notices.serviceWord (n : Notices) : Word :=
  Source.all.foldl
    (fun w a => w ||| (wordB (n.get a).pending <<< a.rank) ||| (wordB (n.get a).service <<< (a.rank + 8))) 0

/-- The word a read of PORTCTL returns (R202, R206). -/
def Notices.portctlWord (n : Notices) : Word := wordB n.atnEnable ||| (wordB n.ackMode <<< 1)

/-- NOTICE_ENABLE as it stands (R193). -/
def State.noticeEnable (s : State) : Word := s.word addrNoticeEnable

/-- The START that follows a RESTART lasts: the notice state is held clear (R197; DEDUCED, log entry 27). -/
def State.noticesHeld (s : State) : Bool :=
  decide (s.guard.machine = .start) &&
    (match s.port.inHand with
     | .restart _ => true
     | _ => false)

/-! ### Standing conditions of the Guard (R155) -/

/-- Either lift input is closed, at its present level. -/
def State.standsLift (s : State) : Bool := s.pins.lift.left || s.pins.lift.right

/-- The latest slope is SLOPE_TRIP or more. -/
def State.standsTilt (s : State) : Bool := decide (s.plan.applied.slopeTrip ≤ s.gov.slope)

/-- The stop key is PRESSED. -/
def State.standsStopKey (s : State) : Bool := s.pins.stopKey

/-- A loop state that the no-signal watch counts as silent (R163). -/
def LoopState.silent : LoopState → Bool
  | .lost => true
  | .unused => true
  | .weak => false
  | .present => false
  | .noisy => false

/-- Loop 0 is LOST or UNUSED. -/
def State.standsNoSignal (s : State) : Bool := s.loops.recs.l0.state.silent

/-! ### Blade -/

/-- Recovery suppresses cutting (R120). -/
def State.suppressed (s : State) : Bool := s.guard.recovery && decide (s.loops.posClass ≠ .insideAll)

/-- The effective directive (R120). -/
def State.effectiveDirective (s : State) : Directive :=
  if decide (s.plan.standing = .cut) && s.armed && !s.suppressed then .cut else .off

/-- The load of a blade state and duty (R125). -/
def loadOf : BladeState → Nat → Nat
  | .spinup, duty => duty / 10
  | .cutting, duty => duty / 10
  | .off, _ => 0
  | .braking, _ => 0
  | .jammed, _ => 0
  | .lockedOut, _ => 0

/-! ### Loop Table -/

/-- A sub-record is stale: no frame yet, or the latest more than 30 ms ago (R33). -/
def SubRecord.stale (r : SubRecord) (now : Time) : Bool :=
  match r.lastFrame with
  | none => true
  | some t => decide (30 < since now t)

/-- The loop state of a mapped loop from its coil states (R31). -/
def coilsState (c : Three SubRecord) : LoopState :=
  let any (st : LoopState) : Bool := decide (c.left.state = st) || decide (c.right.state = st) || decide (c.rear.state = st)
  if any .present then .present else if any .weak then .weak else if any .noisy then .noisy else .lost

/-- The position class from the sides of loop 0, the first row that matches (R32). -/
def classOf (left right rear : Side) : PosClass :=
  if left = .unknown ∨ right = .unknown then .unknown
  else if left = .inside ∧ right = .inside ∧ rear = .inside then .insideAll
  else if left = .outside ∧ right = .outside ∧ rear = .outside then .outsideAll
  else if left = .outside ∧ right = .outside then .outsideFront
  else .straddle

/-- The station-near flag against NEAR_AMP with its band of 20 (R34). -/
def nearFlag (before : Bool) (nearAmp : Nat) (left right : Byte) : Bool :=
  if before then !(decide (left.toNat < nearAmp - 20) && decide (right.toNat < nearAmp - 20))
  else decide (nearAmp ≤ left.toNat) || decide (nearAmp ≤ right.toNat)

/-- The class lets a boundary end fire (R82, R103). -/
def PosClass.out : PosClass → Bool
  | .outsideFront => true
  | .outsideAll => true
  | .unknown => false
  | .insideAll => false
  | .straddle => false

/-- A loop is unused under the map in force (R25). -/
def State.loopUnused (s : State) (n : Loop) : Bool := decide ((s.loops.recs.get n).state = .unused)

end Sys2Proof.Machine
end

