-- ==== Sys2Proof/Machine/Ops.lean ====
section
/-! DEFINITION. The shared operations every block uses: writing the exchange memory, posting a notice (R198), judging
the attention line (R199), answering a request (R191), starting a mirror refresh (R195), writing the records. -/

namespace Sys2Proof.Machine

/-! ### Exchange memory -/

/-- Store one word. -/
def State.put (a : Nat) (v : Word) (s : State) : State := { s with mem := s.mem.write a v }

/-- Store a list of cells. -/
def State.putAll (cells : List (Nat × Word)) (s : State) : State := { s with mem := s.mem.writeAll cells }

/-! ### A command while a reset lasts -/

/-- While a reset lasts the part does not run and host accesses are not taken (R169, R186). -/
def State.whenRunning (s : State) (f : State → State) : State :=
  match s.resetting with
  | none => f s
  | some _ => s

/-! ### Notices -/

/-- Judge the attention line again (R199). -/
def judgeLine (s : State) : State :=
  { s with notice := { s.notice with line := s.notice.lineLevel s.noticeEnable } }

/-- The header cells of a source (R197, R206). -/
def sourceCells (src : Source) (st : SourceState) : List (Nat × Word) :=
  (addrStatus + 2 * src.rank, st.status) :: (addrStatus + 2 * src.rank + 1, wordN st.count) ::
    cellsFrom (addrDetails + src.detailOffset) st.details

/-- Put a source's new state in force, write it into the header and judge the line (R197). -/
def setSource (src : Source) (st : SourceState) (s : State) : State :=
  judgeLine { s with notice := s.notice.set src st, mem := s.mem.writeAll (sourceCells src st) }

/-- What a post makes of a source (R198). -/
def SourceState.posted (st : SourceState) (r : Report) (enabled : Bool) : SourceState where
  status := r.status
  details := r.details
  count := satAdd 255 st.count 1
  pending := st.pending || enabled
  service := st.service

/-- Post a notice (R198); it is dropped while the START of a RESTART lasts (R197). -/
def post (r : Report) (s : State) : State :=
  if s.noticesHeld then s
  else setSource r.source ((s.notice.get r.source).posted r (sourceEnabled s.noticeEnable r.source)) s

/-! ### Answers -/

/-- The answer record's cells (R191, R206). -/
def answerCells (a : Answer) : List (Nat × Word) :=
  cellsFrom addrAnswer [a.echo, a.result, a.reason, wordN a.count.toNat]

/-- Write the answer record and post PORT ANSWERED (R191), last of what a request does (DEDUCED, log entry 22). -/
def answerWith (code : Word) (r : Result) (count : BitVec 8) (s : State) : State :=
  let a : Answer := ⟨code, r.code, r.reason, count⟩
  post (.answered count) { s with port := { s.port with answer := a }, mem := s.mem.writeAll (answerCells a) }

/-! ### Mirrors -/

def Port.refresh (p : Port) : Mirror → Refresh
  | .snapshot => p.snapshot
  | .loopTable => p.loopTable
  | .contactList => p.contactList

def Port.setRefresh (p : Port) (m : Mirror) (r : Refresh) : Port :=
  match m with
  | .snapshot => { p with snapshot := r }
  | .loopTable => { p with loopTable := r }
  | .contactList => { p with contactList := r }

/-- The copy a refresh takes: the cells of the mirror as the state stands (R195). -/
def State.mirrorCopy (s : State) : Mirror → List (Nat × Word)
  | .snapshot => snapshotCells s.port.latched s.blade s.plan s.contact s.loops s.guard s.dock
  | .loopTable => loopCells s.loops s.recv
  | .contactList => contactCells s.contact.list

/-- A cause of a refresh: start it, taking the copy and raising OPEN, or set the again flag while one is WRITING
(R195, R196; DEDUCED, log entry 22). -/
def startRefresh (m : Mirror) (s : State) : State :=
  match (s.port.refresh m).writing with
  | some copy => { s with port := s.port.setRefresh m ⟨some copy, true⟩ }
  | none =>
    { s with
      port := s.port.setRefresh m ⟨some (s.mirrorCopy m), false⟩
      mem := s.mem.write (mirrorOpen m) (s.word (mirrorOpen m) + 1) }

/-- The sub-record fields whose change starts a refresh of the loop table mirror (R38). -/
def subView (r : SubRecord) : LoopState × Side := (r.state, r.side)

/-- The fields of a loop whose change starts a refresh (R38). -/
def loopView (r : LoopRec) : LoopState × (LoopState × Side) × (LoopState × Side) × (LoopState × Side) :=
  (r.state, subView r.coils.left, subView r.coils.right, subView r.coils.rear)

/-- The channel counts, whose change starts a refresh (R19, R38). -/
def channelView (c : Channel) : Nat × Nat × Option Nat := (c.malformed, c.foreign, c.lastForeign)

/-- Between the two states something changed that R38 names. -/
def loopMirrorChanged (a b : State) : Bool :=
  decide (loopView a.loops.recs.l0 ≠ loopView b.loops.recs.l0) ||
  decide (loopView a.loops.recs.l1 ≠ loopView b.loops.recs.l1) ||
  decide (loopView a.loops.recs.l2 ≠ loopView b.loops.recs.l2) ||
  decide (loopView a.loops.recs.l3 ≠ loopView b.loops.recs.l3) ||
  decide (a.loops.posClass ≠ b.loops.posClass) || decide (a.loops.stationNear ≠ b.loops.stationNear) ||
  decide (channelView a.recv.channels.left ≠ channelView b.recv.channels.left) ||
  decide (channelView a.recv.channels.right ≠ channelView b.recv.channels.right) ||
  decide (channelView a.recv.channels.rear ≠ channelView b.recv.channels.rear)

/-- Note a change of a loop state, the position class or the station-near flag (R38). -/
def noteLoops (s : State) : State := { s with causes := { s.causes with loopTable := true } }

/-- Note a fold into the contact list or a clearing of it (R145). -/
def noteContacts (s : State) : State := { s with causes := { s.causes with contactList := true } }

/-- Start the refreshes that an event's changes cause, once per mirror and event, after all of its changes: the loop
table mirror (R38, and at every window expiry: `window`), the contact list mirror (R145), and the snapshot at an entry
to or exit from PARKED (R196). `a` is the state before the event, `b` the state its rules have made, with the changes
they noted as they made them. -/
def startMirrors (window : Bool) (a b : State) : State :=
  let b1 := if window || b.causes.loopTable || loopMirrorChanged a b then startRefresh .loopTable b else b
  let b2 := if b.causes.contactList || decide (a.contact.list ≠ b.contact.list) then startRefresh .contactList b1 else b1
  if a.parked = b.parked then b2 else startRefresh .snapshot b2

/-- Run the rules of one event with nothing noted, and leave the notes as the event found them. -/
def State.noting (s : State) (f : State → State) : State :=
  { f { s with causes := Causes.none } with causes := s.causes }

/-- An event of the running part: its rules, then the refreshes its changes cause. -/
def State.event (s : State) (f : State → State) : State :=
  s.whenRunning (fun a => a.noting (fun b => startMirrors false b (f b)))

/-! ### Records -/

def writeBladeRecord (s : State) : State := s.putAll (bladeCells s.blade)
def writeDockRecord (s : State) : State := s.putAll (dockCells s.dock)
def writeTripRecord (s : State) : State := s.putAll (tripCells s.guard.trip)
def writeCheckRecord (s : State) : State := s.putAll (checkCells s.recv.check)
def writeResetRecord (s : State) : State := s.putAll (resetRecordCells s.guard.resetRecord)

end Sys2Proof.Machine
end

