-- ==== Sys2Proof/Machine/BladeCore.lean ====
section
/-! DEFINITION. The parts of the Blade Controller other blocks reach: entering a blade state and judging the effective
directive (R120..R123, R125, R130). The blade record is written at each entry (R134). -/

namespace Sys2Proof.Machine

/-- Put a new blade state in force and write the blade record (R134). -/
def setBlade (b : Blade) (s : State) : State := writeBladeRecord { s with blade := b }

/-- Enter BRAKING (R130). -/
def enterBraking (s : State) : State :=
  setBlade { s.blade with
    state := .braking
    jamPhase := none
    final := false
    duty := 0
    brake := true
    brakeTimer := some (s.partTime + 2000)
    brakeStart := some s.timebase
    load := 0 } s

/-- Enter SPINUP (R123). -/
def enterSpinup (s : State) : State :=
  setBlade { s.blade with
    state := .spinup
    jamPhase := none
    final := false
    duty := 0
    brake := false
    brakeTimer := none
    waitTimer := none
    spinupEntry := s.partTime
    lowStart := none
    load := 0 } s

/-- Enter OFF: no duty, no brake, no timer (R127, R129, R130). -/
def enterOff (s : State) : State :=
  setBlade { s.blade with
    state := .off
    jamPhase := none
    final := false
    duty := 0
    brake := false
    brakeTimer := none
    waitTimer := none
    load := 0 } s

/-- Mark the active segment uncut (R62, R122). -/
def markUncut (s : State) : State :=
  { s with plan := { s.plan with active := s.plan.active.map (fun seg => { seg with uncut := true }) } }

/-- The uncut report made in each event that judges the directive (R122). -/
def reportUncut (s : State) : State :=
  if s.armed && decide (s.plan.standing = .cut) && (s.suppressed || decide (s.blade.state = .lockedOut))
  then markUncut s else s

/-- What a judgement does to the blade, by its state (R121). -/
def actOnDirective (s : State) : State :=
  match s.blade.state, s.blade.effective with
  | .off, .cut => enterSpinup s
  | .spinup, .off => enterBraking s
  | .cutting, .off => enterBraking s
  | _, _ => s

/-- Judge the effective directive (R120), act on it (R121) and report an uncut segment (R122). -/
def judgeBlade (s : State) : State :=
  reportUncut (actOnDirective { s with blade := { s.blade with effective := s.effectiveDirective } })

/-- Hand the standing directive to the Blade Controller, which judges it (R62, R120). -/
def handStanding (d : Directive) (s : State) : State :=
  judgeBlade { s with plan := { s.plan with standing := d } }

/-- Put a machine state in force: the header word is written and the Blade Controller judges its directive (R156). -/
def setMachine (m : MachineState) (s : State) : State :=
  judgeBlade { s with guard := { s.guard with machine := m }, mem := s.mem.write addrMachineState m.code }

/-- The blade is stopped: 100,000 µs or more have passed since the later of the last pulse and the brake start
(R118). -/
def Blade.stopped (b : Blade) (now : Capture) : Bool :=
  let past (t : Option Capture) : Bool :=
    match t with
    | none => true
    | some x => decide (100000 ≤ since now x)
  past b.lastPulse && past b.brakeStart

end Sys2Proof.Machine
end

