-- ==== Sys2Proof/Machine/LoopCore.lean ====
section
/-! DEFINITION. The Loop Table's judgements (R30..R37) and what the Guard and the Blade Controller make of a change
(R120, R160, R163, R164). The readers that may end a segment stand in Machine/LoopPublish.lean. -/

namespace Sys2Proof.Machine

/-- Start or stop the no-signal timer at a change of loop 0's state (R163). -/
def followNoSignal (before after : LoopState) (s : State) : State :=
  if after.silent then
    (if before.silent then s else { s with guard := { s.guard with noSignal := some (s.partTime + 2000) } })
  else { s with guard := { s.guard with noSignal := none } }

/-- Recompute one loop's state: a change is stored, posted and published to the Guard (R31, R163). -/
def recomputeLoop (n : Loop) (s : State) : State :=
  let rec0 := s.loops.recs.get n
  let st := if entryUnused (s.plan.applied.loopMap.get n) then LoopState.unused else coilsState rec0.coils
  if st = rec0.state then s
  else
    let s1 := noteLoops { s with loops := { s.loops with recs := s.loops.recs.set n { rec0 with state := st } } }
    let s2 := post (.loopState n) s1
    if n = 0 then followNoSignal rec0.state st s2 else s2

/-- Recompute all loop states, in rising loop number (R31). -/
def recomputeLoops (s : State) : State := recomputeLoop 3 (recomputeLoop 2 (recomputeLoop 1 (recomputeLoop 0 s)))

/-- The position class as the sides of loop 0 give it (R32). -/
def State.computedClass (s : State) : PosClass :=
  classOf s.loops.recs.l0.coils.left.side s.loops.recs.l0.coils.right.side s.loops.recs.l0.coils.rear.side

/-- The Guard's reading of a class change: the escape distance (R164), and the end of recovery with its notice after
which the directive is judged once more (R121, R160). -/
def guardOnClass (s : State) : State :=
  let s1 : State :=
    if s.loops.posClass = .outsideAll then s else { s with guard := { s.guard with escape := 0 } }
  if s1.guard.recovery && decide (s1.loops.posClass = .insideAll) then
    judgeBlade (post .recoveryEnd { s1 with guard := { s1.guard with recovery := false } })
  else s1

/-- The Blade Controller judges its directive at a class change while the recovery flag is set (R120). -/
def bladeOnClass (s : State) : State := if s.guard.recovery then judgeBlade s else s

/-- Recompute the class; a change is stored, posted and published to the Blade Controller and the Guard (R32). -/
def recomputeClass (s : State) : State :=
  let c := s.computedClass
  if c = s.loops.posClass then s
  else guardOnClass (bladeOnClass (post (.positionClass c) (noteLoops { s with loops := { s.loops with posClass := c } })))

/-- Judge the station-near flag again (R34). -/
def judgeNear (s : State) : State :=
  let near := nearFlag s.loops.stationNear s.plan.applied.nearAmp s.loops.recs.l3.coils.left.amplitude
    s.loops.recs.l3.coils.right.amplitude
  if near = s.loops.stationNear then s else noteLoops { s with loops := { s.loops with stationNear := near } }

/-- Replace the coil sub-records of one loop. -/
def setCoils (n : Loop) (c : Three SubRecord) (s : State) : State :=
  { s with loops := { s.loops with recs := s.loops.recs.set n { s.loops.recs.get n with coils := c } } }

/-- The sub-records of the loops whose map entry changed take the LOST values (R37). -/
def clearChanged (before : Four Nat) (s : State) : State :=
  { s with loops := { s.loops with
      recs := s.loops.recs.mapIdx (fun n r =>
        if s.plan.applied.loopMap.get n = before.get n then r
        else { r with coils := ⟨lostSub, lostSub, lostSub⟩ }) } }

/-- The Loop Table's part of an apply: `before` is the map that was in force (R34, R37). No segment is active in an
apply, so no watch, boundary test or DOCK phase reads the changes. -/
def loopsOnApply (before : Four Nat) (s : State) : State :=
  let s1 := recomputeLoops (clearChanged before s)
  let s2 := if s.plan.applied.loopMap.l0 = before.l0 then s1 else recomputeClass s1
  judgeNear s2

/-- Apply the staged settings as one event (R64, R65). -/
def applySettings (s : State) : State :=
  let written := s.stagedValues
  let inForce := clampSettings written
  let before := s.plan.applied.loopMap
  let gen := s.stageGen
  let s1 : State := { s with
    plan := { s.plan with applied := Settings.ofList inForce, appliedGen := gen }
    mem := s.mem.writeAll (cellsFrom addrApplied (inForce.map wordN) ++
      [(addrAppliedGenMirror, gen), (addrAppliedGen, gen)]) }
  post (.settingsApplied (clampedCount written inForce)) (loopsOnApply before s1)

/-- Apply the staged settings when the stage generation word differs from the applied generation (R46, R64, R159). -/
def applyIfStaged (s : State) : State := if s.stageGen = s.plan.appliedGen then s else applySettings s

end Sys2Proof.Machine
end

