-- ==== Sys2Proof/Machine/PlanCore.lean ====
section
/-! DEFINITION. The Plan Engine: activation (R45..R50), the end of a segment (R51..R55), the hold timer (R63), the
end_on watch (R83, R102), the boundary test (R82, R103) and the owner's begin and end of a run (R90, R174, R180). -/

namespace Sys2Proof.Machine

/-! ### Hold timer and IDLE -/

/-- Start the hold timer, unless it runs; with BLADE_HOLD 0 it expires in the event that starts it (R63). -/
def startHold (s : State) : State :=
  match s.plan.holdTimer with
  | some _ => s
  | none =>
    if s.plan.applied.bladeHold = 0 then handStanding .off s
    else { s with plan := { s.plan with
      holdTimer := some (s.partTime + BitVec.ofNat 32 s.plan.applied.bladeHold) } }

/-- The plan becomes IDLE: nothing named, both timers stopped, the standing directive OFF (R53, R61, R62). -/
def becomeIdle (s : State) : State :=
  handStanding .off { s with plan := { s.plan with
    state := .idle
    active := none
    waiting := none
    deferred := none
    heldSlot := none
    holdTimer := none
    waitTimer := none
    watch := none } }

/-- The plan enters WAITING_NEXT on a slot that is not QUEUED (R45). -/
def enterWaiting (h : Slot) (s : State) : State :=
  post (.starved h) (startHold { s with plan := { s.plan with
    state := .waitingNext
    waiting := some h
    deferred := none
    heldSlot := none
    waitTimer := some (s.partTime + 10) } })

/-! ### The end of a segment -/

/-- What the plan does after an end (R53). -/
inductive Continuation where
  | advance
  | held
  | toIdle
  | newHead
deriving DecidableEq, Repr

/-- The continuation of an end cause, with the segment's on_contact for CONTACT (R53). -/
def EndCause.continuation (onContact : Option OnContact) : EndCause → Continuation
  | .reached => .advance
  | .boundary => .advance
  | .loopEvent => .advance
  | .docked => .advance
  | .contact => if onContact = some .hold then .held else .advance
  | .timeout => .advance
  | .wireWeak => .advance
  | .flipped => .advance
  | .noLoop => .advance
  | .badSegment => .advance
  | .stuckDocked => .advance
  | .trapped => .held
  | .dockFailed => .held
  | .preempted => .newHead
  | .stopped => .toIdle
  | .guard => .toIdle
  | .disarm => .toIdle
  | .restart => .toIdle

/-- The dock record's outcome at an end, by run and cause; other ends leave it (R176, R178, R180, R181). -/
def endOutcome (run : DockRun) (cause : EndCause) (before : DockOutcome) : DockOutcome :=
  match run, cause with
  | .dock _, .docked => .docked
  | .dock _, .dockFailed => .dockFailed
  | .undock _, .stuckDocked => .stuckDocked
  | .undock _, .reached => .undocked
  | _, _ => before

/-- The dock time at an end: the part time at a DOCKED end (R176). -/
def endDockTime (run : DockRun) (cause : EndCause) (now : Time) (before : Option Time) : Option Time :=
  match run, cause with
  | .dock _, .docked => some now
  | _, _ => before

/-- The Dock Unit's end of a DOCK or UNDOCK run, with the dock record (R174, R176, R178, R180, R181). -/
def endDock (cause : EndCause) (s : State) : State :=
  if s.dock.run = .none then s
  else
    writeDockRecord { s with dock := { s.dock with
      run := .none
      phase := none
      bumpPending := false
      record := { s.dock.record with
        outcome := endOutcome s.dock.run cause s.dock.record.outcome
        dockTime := endDockTime s.dock.run cause s.partTime s.dock.record.dockTime } } }

/-- DOCK DOCKED is posted when a DOCK ends DOCKED (R176). -/
def reportDocked (cause : EndCause) (s : State) : State :=
  if cause = .docked then post (.docked s.dock.tries) s else s

/-- The segment distance as reported, in whole mm (R78). -/
def State.segmentMm (s : State) : Nat := s.drive.segDist / 256

/-- The slot state at an end (R52). -/
def endState (cause : EndCause) : Word := if cause.isDone then slotDone else slotCut

/-- The result words and the state word that end a segment (R52, R204). -/
def resultCells (seg : Segment) (cause : EndCause) (mm : Nat) (duration : BitVec 32) : List (Nat × Word) :=
  cellsFrom (slotBase seg.slot + 20) ([cause.code] ++ words32 (BitVec.ofNat 32 mm) ++ words32 duration) ++
  cellsFrom (slotBase seg.slot + 27) [wordN seg.contacts, wordB seg.clamped, wordB seg.uncut] ++
  [(slotBase seg.slot, endState cause)]

/-- Write the results, stop the owner's run and the watch, and leave no slot active (R52, R79, R93). -/
def closeSegment (seg : Segment) (cause : EndCause) (s : State) : State :=
  reportDocked cause (endDock cause { s with
    mem := s.mem.writeAll (resultCells seg cause s.segmentMm (s.partTime - seg.start))
    plan := { s.plan with active := none, watch := none }
    drive := { s.drive with suspended := false }
    track := idleTrack })

/-- The PLAN notice of a segment's end (R67); none for RESTART (R61). -/
def postEnd (seg : Segment) (cause : EndCause) (s : State) : State :=
  if cause = .restart then s
  else if cause.isDone then post (.segmentDone seg.slot seg.fields.tag cause) s
  else post (.segmentCut seg.slot seg.fields.tag cause) s

/-- What follows an end: the state, and the slot to activate next, if any (R53..R55). -/
def continuePlan (seg : Segment) (cause : EndCause) (s : State) : State × Option Slot :=
  match cause.continuation seg.fields.onContact? with
  | .advance =>
    match slotOfWord (clampNext seg.fields.next) with
    | some n => (s, some n)
    | none => (post (.planEnd seg.slot seg.fields.tag cause) (becomeIdle s), none)
  | .held =>
    (post (.planHeld seg.slot seg.fields.tag cause)
      (startHold { s with plan := { s.plan with state := .held, heldSlot := some seg.slot } }), none)
  | .toIdle => (becomeIdle s, none)
  | .newHead => (s, none)

/-- Take an end request for the active segment: results, notice, continuation (R52, R53). -/
def settleEnd (cause : EndCause) (s : State) : State × Option Slot :=
  match s.plan.active with
  | none => (s, none)
  | some seg => continuePlan seg cause (postEnd seg cause (closeSegment seg cause s))

/-! ### The end_on watch and the boundary test -/

/-- The front sides of the watched loop (R83). -/
def State.frontSides (s : State) (n : Loop) : Watch :=
  ⟨(s.loops.recs.get n).coils.left.side, (s.loops.recs.get n).coils.right.side⟩

/-- A front coil of the watched loop is PRESENT (R83). -/
def State.frontPresent (s : State) (n : Loop) : Bool :=
  decide ((s.loops.recs.get n).coils.left.state = .present) ||
    decide ((s.loops.recs.get n).coils.right.state = .present)

/-- The kinds that watch (R83, R102). -/
def Kind.watches : Kind → Bool
  | .roll => true
  | .track => true
  | .turn => false
  | .pause => false
  | .dock => false
  | .undock => false

/-- What a segment watches for: NONE unless its kind watches (R50). -/
def Fields.watched (f : Fields) : EndOn :=
  match f.kind? with
  | none => .none
  | some k => if k.watches then f.endOn?.getD .none else .none

/-- The watch's condition, with the sides it recorded (R83, R102). -/
def State.watchMet (s : State) (f : Fields) (recorded : Watch) : Bool :=
  match f.watched with
  | .none => false
  | .nearStation => s.loops.stationNear
  | .loopPresent =>
    match f.endLoop? with
    | none => false
    | some n => s.frontPresent n
  | .loopCrossed =>
    match f.endLoop? with
    | none => false
    | some n => decide (s.frontSides n ≠ recorded)

/-- Record the front sides of the end loop (R83). -/
def State.recordWatch (s : State) (f : Fields) : Option Watch :=
  match f.watched with
  | .none => none
  | _ => some ((f.endLoop?.map s.frontSides).getD ⟨.unknown, .unknown⟩)

/-- Start the watch of the active segment (R50, R83). -/
def startWatch (s : State) : State :=
  match s.plan.active with
  | none => s
  | some seg => { s with plan := { s.plan with watch := s.recordWatch seg.fields } }

/-- The segment tests the boundary: a forward ROLL, or a TRACK of a loop other than 0, with the flag set (R82, R103). -/
def Fields.testsBoundary (f : Fields) : Bool :=
  match f.kind? with
  | some .roll => f.stops && !f.reversed
  | some .track => f.stops && decide (f.loop? ≠ some 0)
  | _ => false

/-- The end the active segment meets at activation, at resume or at a publication, if any: BOUNDARY before the watch
(R82, R83, R103; DESIGN CHOICE, log entry 11). -/
def State.wireEnd (s : State) (f : Fields) : Option EndCause :=
  if f.testsBoundary && s.loops.posClass.out then some .boundary
  else
    match s.plan.watch with
    | none => none
    | some w => if s.watchMet f w then some .loopEvent else none

/-! ### Activation -/

/-- The faults that make a segment impossible to run (R47). -/
def badWire (s : State) (f : Fields) : Bool :=
  (match f.loop? with
   | none => true
   | some n => s.loopUnused n) || f.side?.isNone

/-- The end_on checks (R47). -/
def badEndOn (s : State) (f : Fields) : Bool :=
  let badLoop : Bool :=
    match f.endLoop? with
    | none => true
    | some n => s.loopUnused n
  match f.endOn? with
  | none => true
  | some .none => false
  | some .nearStation => s.loopUnused 3
  | some .loopPresent => badLoop
  | some .loopCrossed => badLoop

/-- Every check of R47 on the working copy. -/
def badSegment (s : State) (f : Fields) : Bool :=
  (BladeDirective.ofWord f.blade).isNone || f.onContact?.isNone ||
  (match f.kind? with
   | none => true
   | some .roll => badEndOn s f
   | some .track => badWire s f || badEndOn s f
   | some .dock => badWire s f
   | some .turn => false
   | some .pause => false
   | some .undock => false)

/-- A TRACK or DOCK whose loop is LOST at activation (R48). -/
def noLoop (s : State) (f : Fields) : Bool :=
  match f.kind?, f.loop? with
  | some .track, some n => decide ((s.loops.recs.get n).state = .lost)
  | some .dock, some n => decide ((s.loops.recs.get n).state = .lost)
  | _, _ => false

/-- The clamp of a signed 16-bit radius (R49). -/
def clampRadius (w : Word) : Word :=
  if w.toInt = 0 ∨ 100 ≤ w.toInt ∨ w.toInt ≤ -100 then w else if 0 < w.toInt then 100 else wordI (-100)

/-- A flag field: any non-zero value becomes 1 (R49). -/
def clampFlag (w : Word) : Word := if w = 0 then 0 else 1

/-- The numeric clamps of R49. -/
def clampFields (f : Fields) : Fields :=
  { f with
    speed := if 800 < f.speed.toNat then 800 else f.speed
    distance := BitVec.ofInt 32 (clampI 0 1000000 f.distance.toInt)
    radius := clampRadius f.radius
    offset := wordI (clampI (-512) 512 f.offset.toInt)
    next := clampNext f.next
    stopAtBoundary := clampFlag f.stopAtBoundary
    reverse := clampFlag f.reverse }

/-- Put the clamped working copy in force and write the clamped flag into the slot at once (R49). -/
def clampActive (s : State) : State :=
  match s.plan.active with
  | none => s
  | some seg =>
    let f := clampFields seg.fields
    let c := decide (f ≠ seg.fields)
    { s with
      plan := { s.plan with active := some { seg with fields := f, clamped := c } }
      mem := s.mem.write (slotBase seg.slot + 28) (wordB c) }

/-- The words an activation writes into the slot: the result fields, then ACTIVE (R46). -/
def activationCells (h : Slot) (now : Time) : List (Nat × Word) :=
  cellsFrom (slotBase h + 20) ([0, 0, 0, 0, 0] ++ words32 (recordTime now) ++ [0, 0, 0]) ++
  [(slotBase h, slotActive)]

/-- Capture the slot: the working copy, the result fields, ACTIVE, RUNNING, the timers stopped (R46); the segment
accumulators zeroed, the heading reference, and the suspended flag (R78, R79, R81). -/
def captureSlot (h : Slot) (s : State) : State :=
  let act := s.plan.activation + 1
  let seg : Segment := ⟨h, act, s.partTime, s.slotFields h, 0, false, false⟩
  { s with
    mem := s.mem.writeAll (activationCells h s.partTime)
    plan := { s.plan with
      state := .running
      active := some seg
      activation := act
      waiting := none
      deferred := none
      heldSlot := none
      holdTimer := none
      waitTimer := none
      watch := none }
    drive := { s.drive with
      segDist := 0
      runDist := 0
      runTurn := 0
      runTime := 0
      headingRef := s.drive.heading
      suspended := decide (s.contact.stage ≠ .quiet) } }

/-- Track Steering takes a segment (R90, R174). -/
def beginTrack (act : BitVec 16) (f : Fields) (s : State) : State :=
  { s with track :=
    { running := some act
      loop := f.loop?
      side := f.side?
      offset := f.offsetVal
      speed := f.speedMm
      ePrev := 0
      e := 0
      weak := 0
      published := 0 } }

/-- The DOCK phase becomes NEAR, and DOCK NEAR is posted (R174, R175). -/
def enterNear (s : State) : State :=
  post (.dockNear s.dock.tries) (writeDockRecord { s with dock := { s.dock with phase := some .near, near := 0 } })

/-- The Dock Unit takes a DOCK (R174); with the contact present the end DOCKED follows at once. -/
def beginDock (act : BitVec 16) (s : State) : State :=
  let s1 : State := { s with dock := { s.dock with
    run := .dock act
    phase := none
    tries := 0
    bumpPending := false
    near := 0
    back := 0
    record := { s.dock.record with tries := 0 } } }
  if s1.contactPresent then s1
  else if s1.loops.stationNear then enterNear s1
  else writeDockRecord { s1 with dock := { s1.dock with phase := some .approach } }

/-- The Dock Unit takes an UNDOCK (R180). -/
def beginUndock (act : BitVec 16) (s : State) : State :=
  writeDockRecord { s with dock := { s.dock with run := .undock act, phase := some .reverse } }

/-- The kind goes to its owner (R50). -/
def beginKind (seg : Segment) (s : State) : State :=
  match seg.fields.kind? with
  | some .track => beginTrack seg.activation seg.fields s
  | some .dock => beginDock seg.activation (beginTrack seg.activation seg.fields s)
  | some .undock => beginUndock seg.activation s
  | some .roll => s
  | some .turn => s
  | some .pause => s
  | none => s

/-- The standing directive a segment's blade directive makes (R62). -/
def directiveAfter (before : Directive) (blade : Word) : Directive :=
  match BladeDirective.ofWord blade with
  | some .cut => .cut
  | some .off => .off
  | some .keep => before
  | none => before

/-- The end a segment just handed on meets in its activation event, if any (R82, R83, R103, R174; DESIGN CHOICE, log entry
11). -/
def State.startEnd (s : State) (f : Fields) : Option EndCause :=
  if decide (f.kind? = some .dock) && s.contactPresent then some .docked
  else if s.drive.suspended then none
  else s.wireEnd f

/-- Hand the captured, checked segment on: clamps, owner, directive, watch, and the tests of the activation event
(R49, R50, R62). -/
def handOn (s : State) : State × Option Slot :=
  let s1 := clampActive s
  match s1.plan.active with
  | none => (s1, none)
  | some seg =>
    let s2 := startWatch (handStanding (directiveAfter s1.plan.standing seg.fields.blade) (beginKind seg s1))
    match s2.startEnd seg.fields with
    | some cause => settleEnd cause s2
    | none => (s2, none)

/-- Check the captured segment and hand it on, or cut it (R47, R48). -/
def checkCaptured (s : State) : State × Option Slot :=
  match s.plan.active with
  | none => (s, none)
  | some seg =>
    if badSegment s seg.fields then settleEnd .badSegment s
    else if noLoop s seg.fields then settleEnd .noLoop s
    else handOn s

/-- One activation of a named slot: the state, and the slot to activate next when this one ended at once (R45..R50). -/
def activateOne (h : Slot) (s : State) : State × Option Slot :=
  if !s.armed then (becomeIdle s, none)
  else if s.slotState h ≠ slotQueued then (enterWaiting h s, none)
  else checkCaptured (captureSlot h (applyIfStaged s))

/-- Activate along the chain. Each activation but the last turns a QUEUED slot ACTIVE, so 49 suffice for 48 slots (R54). -/
def activateChain : Nat → Slot → State → State
  | 0, _, s => s
  | n + 1, h, s =>
    match activateOne h s with
    | (s1, none) => s1
    | (s1, some h1) => activateChain n h1 s1

/-- Activate a named slot (R45). -/
def activate (h : Slot) (s : State) : State := activateChain 49 h s

/-- Go on after an end. -/
def goOn (r : State × Option Slot) : State :=
  match r.2 with
  | none => r.1
  | some h => activate h r.1

/-- End the active segment, whichever it is, and go on. -/
def endActive (cause : EndCause) (s : State) : State := goOn (settleEnd cause s)

/-- An end request that names an activation: taken when it names the active segment, else discarded (R51). -/
def endSegment (act : BitVec 16) (cause : EndCause) (s : State) : State :=
  match s.plan.active with
  | none => s
  | some seg => if seg.activation = act then endActive cause s else s

/-- The plan is RUNNING with no active slot: a deferral (R59). -/
def State.deferral (s : State) : Bool := decide (s.plan.state = .running) && s.plan.active.isNone

/-! ### Resume after a reflex -/

/-- What each kind does at resume, before its tests (R79, R81, R100, R175). -/
def resumeKind (f : Fields) (s : State) : State :=
  match f.kind? with
  | some .roll => { s with drive := { s.drive with headingRef := s.drive.heading } }
  | some .track => { s with track := { s.track with ePrev := 0 } }
  | some .dock => if decide (s.dock.phase = some .approach) && s.loops.stationNear then enterNear s else s
  | some .turn => s
  | some .pause => s
  | some .undock => s
  | none => s

/-- The active segment resumes: the suspended flag clears, the kind takes up its run, the tests are made against the
sides recorded before the pause, and the watch is started again (R79, R82, R83, R103). -/
def resumeSegment (s : State) : State :=
  match s.plan.active with
  | none => s
  | some seg =>
    let s1 := resumeKind seg.fields { s with drive := { s.drive with suspended := false } }
    match s1.wireEnd seg.fields with
    | some cause => endActive cause s1
    | none => startWatch s1

end Sys2Proof.Machine
end

