-- ==== Sys2Proof/Machine/LoopPublish.lean ====
section
/-! DEFINITION. Publications of the Loop Table that may end a segment or move a DOCK (R28, R34, R82, R83, R175), frame
reports (R26, R27), and the parked operation (R35). The order of publications within an event is DESIGN CHOICE, log entry 10. -/

namespace Sys2Proof.Machine

/-- The end_on watch tested at a publication, unless paused (R83). -/
def testWatch (s : State) : State :=
  match s.plan.active, s.plan.watch with
  | some seg, some w =>
    if !s.drive.suspended && s.watchMet seg.fields w then endSegment seg.activation .loopEvent s else s
  | _, _ => s

/-- The boundary test at a class change, unless suspended (R82, R103). -/
def testBoundary (s : State) : State :=
  match s.plan.active with
  | none => s
  | some seg =>
    if seg.fields.testsBoundary && s.loops.posClass.out && !s.drive.suspended then
      endSegment seg.activation .boundary s
    else s

/-- Recompute the class and publish a change to all its readers (R28, R32). -/
def publishClass (s : State) : State :=
  if s.computedClass = s.loops.posClass then s else testBoundary (recomputeClass s)

/-- A DOCK in APPROACH moves to NEAR when the station-near flag is published as set (R175); while suspended the flag is
tested at the resume. -/
def dockOnNear (s : State) : State :=
  match s.dock.run with
  | .dock _ =>
    if decide (s.dock.phase = some .approach) && s.loops.stationNear && !s.drive.suspended then enterNear s else s
  | _ => s

/-- Judge the station-near flag and publish a change: the Dock Unit first, then the watch (R34). -/
def publishNear (s : State) : State :=
  let s1 := judgeNear s
  if s1.loops.stationNear = s.loops.stationNear then s1 else testWatch (dockOnNear s1)

/-! ### Frame reports (R26, R27) -/

/-- A frame report (R17). -/
structure FrameReport where
  coil : Coil
  loop : Loop
  polarity : Polarity
  amplitude : Byte
deriving DecidableEq, Repr

/-- The side a polarity shows (R27). -/
def Polarity.side : Polarity → Side
  | .positive => .inside
  | .negative => .outside

/-- Side agreement (R27). -/
def SubRecord.agreeWith (r : SubRecord) (p : Polarity) : SubRecord :=
  if r.candidate = some p then
    { r with agree := satAdd 3 r.agree 1, side := if 3 ≤ r.agree + 1 then p.side else r.side }
  else { r with candidate := some p, agree := 1 }

/-- A sub-record takes a report (R26, R27). -/
def SubRecord.report (r : SubRecord) (f : FrameReport) (now : Time) : SubRecord :=
  SubRecord.agreeWith { r with
    state := if r.state = .lost then .weak else r.state
    amplitude := f.amplitude
    polarity := some f.polarity
    lastFrame := some now
    window := satAdd 255 r.window 1 } f.polarity

/-- The sub-records that stay LOST while PARKED: all but REAR of loops 0 and 3 (R35). -/
def heldWhileParked (n : Loop) (c : Coil) : Bool := !(decide (c = .rear) && (decide (n = 0) || decide (n = 3)))

/-- The report is dropped: a check is in progress, or the sub-record is held LOST while PARKED (R26). -/
def State.dropsReport (s : State) (f : FrameReport) : Bool :=
  s.loops.checkFlag || (s.parked && heldWhileParked f.loop f.coil)

/-- The loop 3 front coils, whose amplitudes the station-near flag reads (R34). -/
def feedsNear (n : Loop) (c : Coil) : Bool := decide (n = 3) && decide (c ≠ .rear)

/-- Take a frame report: the sub-record, the loop state at a revival, the watch, the class at a side change of loop 0,
and the station-near flag (R26..R28, R31, R32, R34). -/
def frameReport (f : FrameReport) (s : State) : State :=
  if s.dropsReport f then s
  else
    let c := (s.loops.recs.get f.loop).coils
    let r := (c.get f.coil).report f s.partTime
    let s1 := recomputeLoop f.loop (setCoils f.loop (c.set f.coil r) s)
    let s2 := publishClass (testWatch s1)
    if feedsNear f.loop f.coil then publishNear s2 else s2

/-! ### Presence windows (R29..R31, R35) -/

/-- The coil state a window count gives, in a 500 ms window (R30). -/
def windowState (count : Nat) : LoopState :=
  if count = 0 then .lost else if count ≤ 34 then .weak else if count ≤ 60 then .present else .noisy

/-- The coil state a window count gives, in a 2000 ms PARKED window (R35). -/
def parkedWindowState (count : Nat) : LoopState :=
  if count = 0 then .lost else if count ≤ 139 then .weak else if count ≤ 240 then .present else .noisy

/-- Judge one sub-record: entering LOST clears side, candidate, agree count and amplitude (R30). -/
def SubRecord.judged (r : SubRecord) (parked : Bool) : SubRecord :=
  let st := if parked then parkedWindowState r.window else windowState r.window
  if st = .lost then
    if r.state = .lost then { r with window := 0 }
    else { r with state := .lost, side := .unknown, candidate := none, agree := 0, amplitude := 0, window := 0 }
  else { r with state := st, window := 0 }

/-- Every window count becomes 0. -/
def clearWindows (s : State) : State :=
  { s with loops := { s.loops with
      recs := s.loops.recs.map (fun r => { r with coils := r.coils.map (fun c => { c with window := 0 }) }) } }

/-- Judge every sub-record of every mapped loop (R29, R30, R35). -/
def judgeWindows (s : State) : State :=
  { s with loops := { s.loops with
      recs := s.loops.recs.mapIdx (fun n r =>
        if entryUnused (s.plan.applied.loopMap.get n) then r
        else { r with coils := r.coils.map (fun c => c.judged s.parked) }) } }

/-- The sub-records that PARKED holds LOST take the LOST values (R35). -/
def holdParked (s : State) : State :=
  { s with loops := { s.loops with
      recs := s.loops.recs.mapIdx (fun n r =>
        { r with coils :=
          ⟨lostSub, lostSub, if heldWhileParked n .rear then lostSub else r.coils.rear⟩ }) } }

/-- The current window ends without judgement, and one of the given length begins (R35). It begins after any check is over,
so a spoiled flag that no check in progress holds set clears with the window it marked (R29; DEDUCED, log entry 45). -/
def restartWindow (period : Time) (s : State) : State :=
  clearWindows { s with loops := { s.loops with
    windowTimer := s.partTime + period
    spoiled := s.loops.checkFlag && s.loops.spoiled } }

/-- The Loop Table's part of an entry to PARKED (R35). The plan is IDLE, so no segment reads the changes. -/
def loopsEnterParked (s : State) : State :=
  let s1 := recomputeLoops (holdParked (restartWindow 2000 s))
  judgeNear (recomputeClass s1)

/-- The Loop Table's part of an exit from PARKED (R31, R35). -/
def loopsLeaveParked (s : State) : State :=
  recomputeLoops (restartWindow 500 s)

end Sys2Proof.Machine
end

