-- ==== Sys2Proof/Machine/ContactCore.lean ====
section
/-! DEFINITION. Contacts and the reflex: the contact list (R142..R145), the trap test and trap (R153), start, joining,
restart and end of a reflex (R147, R150, R151), the Dock Unit's miss (R177, R178), and pinging (R138). -/

namespace Sys2Proof.Machine

/-! ### The contact list -/

/-- The newest entry. -/
def newest : List Entry → Option Entry
  | [] => none
  | [e] => some e
  | _ :: e :: es => newest (e :: es)

/-- Change the newest entry. -/
def mapNewest (f : Entry → Entry) : List Entry → List Entry
  | [] => []
  | [e] => [f e]
  | e :: d :: es => e :: mapNewest f (d :: es)

/-- Replace the contact list. -/
def setList (l : List Entry) (s : State) : State := { s with contact := { s.contact with list := l } }

/-- The lesser of an entry's range and a contact's, when the contact has one (R142). -/
def foldRange (entry contact : Option Nat) : Option Nat :=
  match entry, contact with
  | r, none => r
  | none, some c => some c
  | some r, some c => some (minN r c)

/-- The contact folded into an entry (R142). -/
def Entry.folded (e : Entry) (src : Sources) (range : Option Nat) : Entry :=
  { e with sources := e.sources ||| src, range := foldRange e.range range }

/-- An entry belongs to the episode: its time is at or after the episode start (R145). -/
def Entry.inEpisode (e : Entry) (start : Time) : Bool := due e.time start

/-- Entries whose time lies more than 600,000 ms before the new contact's are removed (R144). -/
def purgeOld (now : Time) (l : List Entry) : List Entry := l.filter (fun e => decide (since now e.time ≤ 600000))

/-- If 8 entries remain, the oldest is removed (R144). -/
def dropOldest (l : List Entry) : List Entry := if Config.contactCapacity ≤ l.length then l.drop 1 else l

/-- The three steps of an append (R144). -/
def appendEntry (e : Entry) (l : List Entry) : List Entry := dropOldest (purgeOld e.time l) ++ [e]

/-- Write an outcome to the entries of the episode still in the list (R145). -/
def writeEpisode (o : ContactOutcome) (s : State) : State :=
  setList (s.contact.list.map (fun e =>
    if e.inEpisode s.contact.record.episodeStart then { e with outcome := some o } else e)) s

/-- Write the newest entry's outcome (R143). -/
def writeNewest (o : Option ContactOutcome) (s : State) : State :=
  setList (mapNewest (fun e => { e with outcome := o }) s.contact.list) s

/-! ### Trapping (R153) -/

/-- An entry counts in the trap test of a new entry (R153). -/
def trapCounts (window radius : Nat) (new e : Entry) : Bool :=
  let dx := clampI (-30000) 30000 (e.x - new.x)
  let dy := clampI (-30000) 30000 (e.y - new.y)
  decide (since new.time e.time ≤ window * 1000) && decide (dx * dx + dy * dy ≤ (radius : Int) * (radius : Int))

/-- The trap test with the given new entry (R153). -/
def State.trapFound (s : State) (new : Entry) : Bool :=
  decide (s.plan.applied.trapCount ≤
    (s.contact.list.filter (trapCounts s.plan.applied.trapWindow s.plan.applied.trapRadius new)).length)

/-- The Plan Engine is told of a trap (R57, R59, R153). -/
def planTrapped (s : State) : State :=
  match s.plan.active with
  | some _ => endActive .trapped s
  | none =>
    if s.deferral then
      post .planHeldDeferral (startHold { s with plan := { s.plan with
        state := .held, deferred := none, heldSlot := none } })
    else s

/-- A trap: QUIET, the plan HELD, the outcomes, REFLEX TRAPPED (R153). -/
def takeTrap (cause : TrapCause) (s : State) : State :=
  let running := decide (s.contact.stage ≠ .quiet)
  let s1 := planTrapped { s with contact := { s.contact with stage := .quiet } }
  post (.trapped cause) (if running then writeEpisode .trapped s1 else writeNewest (some .trapped) s1)

/-! ### Start, joining and restart of a reflex -/

/-- Both latest ranges (R136). -/
def Contact.ranges (c : Contact) : Two (Option Nat) := ⟨c.sonar.left.range, c.sonar.right.range⟩

/-- The activation number a reflex notes: that of the active segment (R147). -/
def State.activeNumber (s : State) : BitVec 16 :=
  match s.plan.active with
  | none => s.plan.activation
  | some seg => seg.activation

/-- A reflex starts with an entry (R147); the Drive Controller suspends the segment in the same event (R79). -/
def startReflex (e : Entry) (s : State) : State :=
  { s with
    contact := { s.contact with
      stage := .stopping
      record :=
        { episodeStart := e.time
          activation := s.activeNumber
          hits := e.sources
          ranges := s.contact.ranges
          turn := none
          stageEntry := s.partTime
          distance := 0
          turned := 0
          still := 0
          restarts := 0 } }
    drive := { s.drive with suspended := true } }

/-- A contact starts a reflex: RUNNING with an active ROLL, TURN, PAUSE or TRACK, or an UNDOCK in its turning part
(R143, third row). -/
def State.startsReflex (s : State) : Bool :=
  decide (s.plan.state = .running) &&
  (match s.activeKind with
   | some .roll => true
   | some .turn => true
   | some .pause => true
   | some .track => true
   | some .undock => decide (s.dock.phase = some .turn)
   | some .dock => false
   | none => false)

/-- The trap test of a first entry, and the reflex when it finds none (R143, R153). -/
def startOrTrap (e : Entry) (s : State) : State :=
  if s.trapFound e then takeTrap .area s else startReflex e s

/-- The later of the latest and the captured range at a restart (R150). -/
def recapture (latest captured : Option Nat) : Option Nat :=
  match latest with
  | some r => some r
  | none => captured

/-- A reflex restarts, its restart count already raised (R150). -/
def restartReflex (e : Entry) (s : State) : State :=
  { s with contact := { s.contact with
      stage := .stopping
      record := { s.contact.record with
        hits := e.sources
        ranges := ⟨recapture s.contact.sonar.left.range s.contact.record.ranges.left,
                   recapture s.contact.sonar.right.range s.contact.record.ranges.right⟩
        turn := none
        stageEntry := s.partTime
        distance := 0
        turned := 0
        still := 0 } } }

/-- The sources join the hit set. -/
def joinHits (src : Sources) (s : State) : State :=
  { s with contact := { s.contact with record := { s.contact.record with hits := s.contact.record.hits ||| src } } }

/-- The restart count rises by one; at 3 the machine is trapped, below 3 the reflex restarts (R150). -/
def restartOrTrap (e : Entry) (s : State) : State :=
  let n := s.contact.record.restarts + 1
  let s1 : State := { s with contact := { s.contact with record := { s.contact.record with restarts := n } } }
  if 3 ≤ n then takeTrap .restarts s1 else restartReflex e s1

/-- An entry joins a running reflex (R150). -/
def joinReflex (e : Entry) (s : State) : State :=
  if s.trapFound e then takeTrap .area s
  else
    match s.contact.stage with
    | .quiet => s
    | .stopping => joinHits e.sources s
    | .backing => restartOrTrap e s
    | .turning => restartOrTrap e s

/-! ### A missed dock (R177, R178) -/

/-- A miss (R178). -/
def takeMiss (s : State) : State :=
  let n := s.dock.tries + 1
  let s1 : State := { s with dock := { s.dock with tries := n, record := { s.dock.record with tries := n } } }
  if n = s.plan.applied.dockTries then endActive .dockFailed s1
  else
    post (.dockRetry n) (writeDockRecord { s1 with dock := { s1.dock with
      phase := some .backoff
      back := 0
      backRef := s1.drive.heading
      bumpPending := false } })

/-- A bump handed to the Dock Unit (R177). -/
def dockBump (s : State) : State :=
  let forward := decide (s.dock.phase = some .approach) || decide (s.dock.phase = some .near)
  if !forward || s.dock.bumpPending then s
  else
    match s.dock.sense with
    | .absent => takeMiss s
    | .rising => { s with dock := { s.dock with bumpPending := true } }
    | .present => s
    | .falling => s

/-! ### Forming a contact (R142, R143) -/

/-- The appended entry is disposed of by the first row that applies (R143). -/
def dispose (e : Entry) (s : State) : State :=
  if s.contact.stage ≠ .quiet then joinReflex e s
  else if s.activeKind = some .dock ∧ e.sources.meets bumpSources = true then
    dockBump (writeNewest (some .dockRetry) s)
  else if s.startsReflex then startOrTrap e s
  else writeNewest (some .discarded) s

/-- The Plan Engine counts an entry appended with the active slot named (R52, R144). -/
def countContact (s : State) : State :=
  { s with plan := { s.plan with
      active := s.plan.active.map (fun seg => { seg with contacts := satAdd 65535 seg.contacts 1 }) } }

/-- The entry a contact makes: time, pose as it stands, active slot (R142). -/
def State.entryOf (s : State) (src : Sources) (range : Option Nat) : Entry :=
  { time := s.partTime
    sources := src
    x := s.reportedX
    y := s.reportedY
    heading := s.drive.heading
    range := range
    slot := s.activeSlot
    outcome := none }

/-- A contact not folded: appended, counted, disposed of (R142..R144). -/
def appendContact (e : Entry) (s : State) : State :=
  dispose e (countContact (setList (appendEntry e s.contact.list) s))

/-- A contact folded into the newest entry (R142). -/
def foldContact (e : Entry) (src : Sources) (range : Option Nat) (s : State) : State :=
  let e1 := e.folded src range
  let s1 := noteContacts (setList (mapNewest (fun d => d.folded src range) s.contact.list) s)
  match s.contact.stage with
  | .stopping => if e.inEpisode s.contact.record.episodeStart then joinHits src s1 else s1
  | .backing => if e.inEpisode s.contact.record.episodeStart then joinHits src s1 else s1
  | .turning => s1
  | .quiet =>
    if !s1.startsReflex then s1
    else if s1.trapFound e1 then takeTrap .area s1
    else startReflex e1 (writeNewest none s1)

/-- Form a contact with one source, and a range when the source is a sonar (R142). -/
def formContact (src : Sources) (range : Option Nat) (s : State) : State :=
  match newest s.contact.list with
  | some e =>
    if since s.partTime e.time ≤ 50 then foldContact e src range s else appendContact (s.entryOf src range) s
  | none => appendContact (s.entryOf src range) s

/-- Contacts are formed only while ARMED (section 8.1). -/
def formArmed (src : Sources) (range : Option Nat) (s : State) : State :=
  if s.armed then formContact src range s else s

/-! ### The end of a reflex (R151) -/

/-- The Plan Engine takes or discards the outcome report, and names the outcome (R57, R151). -/
def reportReflex (s : State) : State × ContactOutcome :=
  match s.plan.active with
  | none => (s, .discarded)
  | some seg =>
    if seg.activation ≠ s.contact.record.activation then (s, .discarded)
    else
      match seg.fields.onContact? with
      | some .resume => (resumeSegment s, .resumed)
      | some .hold => (endActive .contact s, .held)
      | some .advance => (endActive .contact s, .advanced)
      | none => (endActive .contact s, .advanced)

/-- The publication of QUIET: a segment activated during the reflex resumes, and a deferred head is activated (R59,
R79). -/
def publishQuiet (s : State) : State :=
  match s.plan.active with
  | some _ => if s.drive.suspended then resumeSegment s else s
  | none =>
    match s.plan.deferred with
    | some h => if s.deferral then activate h s else s
    | none => s

/-- The reflex ends: QUIET, the report, the outcomes, CONTACT_HANDLED, the publication (R151). -/
def finishReflex (s : State) : State :=
  let r := reportReflex { s with contact := { s.contact with stage := .quiet } }
  publishQuiet (post (.contactHandled r.2) (writeEpisode r.2 r.1))

/-- The event that takes the machine out of ARMED makes the reflex QUIET; its entries are DISCARDED (R152). -/
def abortReflex (s : State) : State :=
  if s.contact.stage = .quiet then s
  else
    let s1 := writeEpisode .discarded s
    { s1 with contact := { s1.contact with stage := .quiet } }

/-! ### Pinging (R138) -/

/-- The other sensor. -/
def otherSensor : LR → LR
  | .left => .right
  | .right => .left

/-- Trigger the sensor named by next sensor; next sensor passes to the other (R138, R139). -/
def triggerNext (s : State) : State :=
  let i := s.contact.nextSensor
  { s with contact := { s.contact with
      sonar := s.contact.sonar.set i { s.contact.sonar.get i with trigger := true }
      nextSensor := otherSensor i } }

/-- Switch-on (R138). -/
def pingOn (s : State) : State :=
  triggerNext { s with contact := { s.contact with pinging := true, pingTimer := some (s.partTime + 40) } }

/-- Switch-off: the timer stops, windows are discarded, ranges absent, close counts 0 (R138; DESIGN CHOICE, log entry 16). -/
def pingOff (s : State) : State :=
  { s with contact := { s.contact with
      pinging := false
      pingTimer := none
      sonar := ⟨idleSonar, idleSonar⟩ } }

/-- Pinging is on while the machine is ARMED and the published direction is FORWARD (R138). -/
def judgePinging (s : State) : State :=
  let on := s.armed && decide (s.drive.motion = .forward)
  if on = s.contact.pinging then s else if on then pingOn s else pingOff s

end Sys2Proof.Machine
end

