-- ==== Sys2Proof/Machine/GuardCore.lean ====
section
/-! DEFINITION. The Guard's shared operations: leaving ARMED (R156), findings, trips and the trip record (R166, R167),
the end of START (R157), and the zeroing of the wheel targets (R73). -/

namespace Sys2Proof.Machine

/-! ### Wheel targets to zero (R73) -/

/-- The duty limits (R75). -/
def clampDuty (x : Int) : Int := clampI (-1000) 1000 x

/-- Target 0 and the duty recomputed at once by R75, without a change to the integrator (R73): at measured speed 0 the duty
is 0 and the integrator stands, as R75's first case gives it (DESIGN CHOICE, log entry 34). -/
def WheelState.zeroed (w : WheelState) : WheelState :=
  { w with target := 0, duty := if w.measured = 0 then 0 else clampDuty w.integrator }

/-- Both targets become 0 and the suspended flag clears (R73). -/
def zeroTargets (s : State) : State :=
  { s with drive := { s.drive with wheels := s.drive.wheels.map WheelState.zeroed, suspended := false } }

/-! ### Leaving ARMED (R61, R73, R138, R152, R156, R160, R164, R165) -/

/-- The plan ends with the cause of the leaving (R61). -/
def abortPlan (cause : EndCause) (s : State) : State :=
  match s.plan.active with
  | some _ => (settleEnd cause s).1
  | none => becomeIdle s

/-- The Guard's own part: recovery flag, escape distance, silence timer (R160, R164, R165). -/
def clearArmed (s : State) : State :=
  { s with guard := { s.guard with recovery := false, escape := 0, silence := none } }

/-- Leave ARMED for a machine state, ending the plan with a cause, in one event (R156). -/
def leaveArmed (cause : EndCause) (dest : MachineState) (s : State) : State :=
  clearArmed (pingOff (abortReflex (zeroTargets (abortPlan cause (setMachine dest s)))))

/-! ### Findings (R166, R167) -/

/-- The trip record of a trip (R167). -/
def State.tripRecord (s : State) (c : TripCause) : TripRecord :=
  { first := some c
    further := 0
    time := s.partTime
    x := s.reportedX
    y := s.reportedY
    heading := s.drive.heading
    rpm := s.blade.rpm
    brakeSlow := false
    cleared := false
    clearTime := none }

/-- A trip (R166): leave ARMED, write the record, post TRIP. -/
def trip (c : TripCause) (s : State) : State :=
  let r := s.tripRecord c
  post (.trip c r.rpm) (writeTripRecord
    (let s1 := leaveArmed .guard .tripped s
     { s1 with guard := { s1.guard with trip := r } }))

/-- A finding while TRIPPED joins the further causes unless it is the first cause (R167). -/
def addFurther (c : TripCause) (s : State) : State :=
  if s.guard.trip.first = some c then s
  else writeTripRecord { s with guard := { s.guard with
    trip := { s.guard.trip with further := s.guard.trip.further ||| c.bit } } }

/-- A finding, acted on by the machine state (R166). -/
def find (c : TripCause) (s : State) : State :=
  match s.guard.machine with
  | .armed => trip c s
  | .tripped => addFurther c s
  | .start => s
  | .safe => s
  | .parked => s

/-! ### The end of START (R157, R170) -/

/-- The outstanding answer to a RESTART is written DONE (R170, R191). -/
def answerRestart (s : State) : State :=
  match s.port.inHand with
  | .restart count => answerWith requestRestart .done count { s with port := { s.port with inHand := .none } }
  | .none => s
  | .selfCheck _ => s

/-- Both parts of the START progress have come: SAFE, and the outstanding answer (R157). -/
def finishStart (s : State) : State :=
  if decide (s.guard.machine = .start) && s.guard.windowJudged && s.guard.bladeOff then
    answerRestart (setMachine .safe s)
  else s

/-- The Guard reads the published blade state (R125, R157): OFF during START is noted. -/
def noteBladeOff (s : State) : State :=
  if decide (s.guard.machine = .start) && decide (s.blade.state = .off) then
    finishStart { s with guard := { s.guard with bladeOff := true } }
  else s

/-- The Guard notes the first judged window during START (R29, R157). -/
def noteWindow (s : State) : State :=
  if s.guard.machine = .start then finishStart { s with guard := { s.guard with windowJudged := true } } else s

end Sys2Proof.Machine
end

