-- ==== Sys2Proof/Machine/BladePeriodCore.lean ====
section
/-! DEFINITION. The blade period (R119): blade speed (R118), runaway (R132), spin-up, cutting, jams and braking
(R123..R131). -/

namespace Sys2Proof.Machine

/-- The rpm of an interval in µs (R118). -/
def rpmOf (p : Nat) : Nat := 30000000 / p

/-- Step 1: the rpm (R118); a last pulse 100,000 µs or more old is forgotten (DESIGN CHOICE, log entry 18). -/
def Blade.measure (b : Blade) (t : Capture) : Blade :=
  match b.lastPulse with
  | none => { b with rpm := 0 }
  | some lp =>
    if 100000 ≤ since t lp then { b with lastPulse := none, period := none, rpm := 0 }
    else
      match b.period with
      | none => { b with rpm := 0 }
      | some p => { b with rpm := rpmOf (if p < since t lp then since t lp else p) }

/-- Step 2: the runaway test; the first period writes the record, each one reports to the Guard (R132). -/
def runawayStep (s : State) : State :=
  if 6000 < s.blade.rpm then
    find .bladeRunaway
      (if s.blade.runaway then s else setBlade { s.blade with runaway := true, lastFault := .runaway } s)
  else { s with blade := { s.blade with runaway := false } }

/-- The jam is final: the last one lies 30,000 ms or less back (R126). -/
def Blade.nextFinal (b : Blade) (now : Time) : Bool :=
  match b.lastJam with
  | none => false
  | some t => decide (since now t ≤ 30000)

/-- A jam event (R126). -/
def jamEvent (fault : BladeFault) (report : Report) (s : State) : State :=
  post report (setBlade { s.blade with
    state := .jammed
    jamPhase := some .brake
    final := s.blade.nextFinal s.partTime
    duty := 0
    brake := true
    brakeTimer := some (s.partTime + 2000)
    brakeStart := some s.timebase
    jamCount := satAdd 255 s.blade.jamCount 1
    lastFault := fault
    lastJam := some s.partTime
    load := 0 } s)

/-- SPINUP at step 3 (R123). -/
def spinupStep (target : Nat) (s : State) : State :=
  if target * 80 / 100 ≤ s.blade.rpm then
    post (.spunUp s.blade.rpm) (setBlade { s.blade with state := .cutting } s)
  else if 3000 ≤ since s.partTime s.blade.spinupEntry then
    jamEvent .startStall (.startStall s.blade.rpm) s
  else { s with blade := { s.blade with duty := minN 1000 (s.blade.duty + 20) } }

/-- The closed loop of CUTTING (R124). -/
def cuttingDuty (target rpm kb duty : Nat) : Nat :=
  (clampI 0 1000 ((duty : Int) + trunc (((target : Int) - rpm) * kb) 1024)).toNat

/-- The duty of a CUTTING period without a jam (R124). -/
def Blade.regulated (b : Blade) (target kb : Nat) (lowStart : Option Time) : Blade :=
  { b with lowStart := lowStart, duty := cuttingDuty target b.rpm kb b.duty }

/-- CUTTING at step 3: the jam test, then the closed loop (R124, R126). -/
def cuttingStep (target : Nat) (s : State) : State :=
  let kb := s.plan.applied.kb
  if target * 30 / 100 ≤ s.blade.rpm then { s with blade := s.blade.regulated target kb none }
  else
    match s.blade.lowStart with
    | none => { s with blade := s.blade.regulated target kb (some s.partTime) }
    | some t =>
      if 500 ≤ since s.partTime t then jamEvent .jam (.jammed s.blade.rpm) s
      else { s with blade := s.blade.regulated target kb (some t) }

/-- The uncut report at the entry to LOCKED_OUT (R122, R128). -/
def uncutAtLockout (s : State) : State := if s.plan.standing = .cut then markUncut s else s

/-- LOCKED_OUT is entered (R128). -/
def enterLockedOut (s : State) : State :=
  uncutAtLockout (post (.lockedOut s.blade.jamCount) (setBlade { s.blade with
    state := .lockedOut
    jamPhase := none
    final := false
    duty := 0
    brake := false
    brakeTimer := none
    load := 0 } s))

/-- The stop of a jam is taken (R127). -/
def takeStop (s : State) : State :=
  if s.blade.final then enterLockedOut s
  else
    { s with blade := { s.blade with
      jamPhase := some .wait
      brake := false
      brakeTimer := none
      waitTimer := some (s.partTime + 1000) } }

/-- The end of braking or of a jam's wait: OFF, and the directive judged (R127, R129, R130). -/
def offAndJudge (s : State) : State := judgeBlade (enterOff s)

/-- JAMMED at step 3 (R127). -/
def jammedStep (stopped : Bool) (s : State) : State :=
  if decide (s.blade.jamPhase = some .brake) && stopped then takeStop s else s

/-- Step 3: the action of the blade state (R119). -/
def bladeAction (target : Nat) (stopped : Bool) (s : State) : State :=
  match s.blade.state with
  | .off => s
  | .spinup => spinupStep target s
  | .cutting => cuttingStep target s
  | .braking => if stopped then offAndJudge s else s
  | .jammed => jammedStep stopped s
  | .lockedOut => s

/-- Step 4: the load and the state are published (R125). -/
def publishBlade (s : State) : State :=
  noteBladeOff { s with blade := { s.blade with load := loadOf s.blade.state s.blade.duty } }

/-- One blade period (R119). -/
def bladePeriod (t : Capture) (s : State) : State :=
  let target := s.bladeTarget
  let b := s.blade.measure t
  let stopped := b.stopped t
  publishBlade (bladeAction target stopped (runawayStep { s with blade := { b with timer := s.blade.timer + 10 } }))

/-- A Hall pulse is accepted: none before, or 1000 µs or more after the previous one (R118). -/
def Blade.accepts (b : Blade) (t : Capture) : Bool :=
  match b.lastPulse with
  | none => true
  | some lp => decide (1000 ≤ since t lp)

/-- A Hall pulse (R118). One that comes 100,000 µs or more after the last, before a blade period has forgotten that one, gives
its time as the period (DESIGN CHOICE, log entry 36). -/
def Blade.pulse (b : Blade) (t : Capture) : Blade :=
  if b.accepts t then
    { b with
      period := (match b.lastPulse with
                 | none => b.period
                 | some lp => some (since t lp))
      lastPulse := some t }
  else b

/-- The Guard marks a slow brake in the trip record while TRIPPED (R131, R167). -/
def markBrakeSlow (s : State) : State :=
  if s.guard.machine = .tripped then
    writeTripRecord { s with guard := { s.guard with trip := { s.guard.trip with brakeSlow := true } } }
  else s

/-- BRAKE_SLOW: the brake is off, the fault noted, posted and handed to the Guard; then the braking or the brake phase
ends (R127, R130, R131). -/
def slowBrake (s : State) : State :=
  let s1 := markBrakeSlow (post (.brakeSlow s.blade.rpm)
    (setBlade { s.blade with brake := false, brakeTimer := none, lastFault := .brakeSlow } s))
  match s1.blade.state with
  | .braking => noteBladeOff (offAndJudge s1)
  | .jammed => takeStop s1
  | .off => s1
  | .spinup => s1
  | .cutting => s1
  | .lockedOut => s1

end Sys2Proof.Machine
end

