-- ==== Sys2Proof/Machine/DockCore.lean ====
section
/-! DEFINITION. Charge-contact sensing (R173), its published changes (R176, R177, R180, R183), PARK (R182) and the
wake (R183). -/

namespace Sys2Proof.Machine

/-- The period of the snapshot timer (R196). -/
def State.snapshotPeriod (s : State) : Time := if s.parked then 1000 else 50

/-- A wake: SAFE, the Loop Table leaves its parked operation, the snapshot timer, the dock record, PARK_WAKE (R183, R196).
The snapshot refresh of the exit is started by `startMirrors`. -/
def wakeUp (reason : WakeReason) (s : State) : State :=
  let s1 := loopsLeaveParked (setMachine .safe s)
  post (.parkWake reason) (writeDockRecord { s1 with
    port := { s1.port with snapTimer := s1.partTime + 50 }
    dock := { s1.dock with record := { s1.dock.record with
      wakeReason := reason
      wakeTime := some s1.partTime } } })

/-- The effects of a PARK once the machine has left ARMED, if it was ARMED (R35, R182, R196). -/
def parkNow (s : State) : State :=
  let s1 := loopsEnterParked s
  writeDockRecord { s1 with
    port := { s1.port with snapTimer := s1.partTime + 1000 }
    dock := { s1.dock with record := { s1.dock.record with
      parkTime := some s1.partTime
      wakeReason := .none } } }

/-- A taken PARK (R182). An ARMED machine leaves ARMED; its plan is IDLE, so the cause is written nowhere. -/
def takePark (s : State) : State :=
  parkNow (if s.armed then leaveArmed .disarm .parked s else setMachine .parked s)

/-- The contact becomes present: the record, and the end of an active DOCK (R173, R176). -/
def contactArrived (s : State) : State :=
  let s1 := writeDockRecord s
  match s1.dock.run with
  | .dock act => endSegment act .docked s1
  | .undock _ => s1
  | .none => s1

/-- The run distance in whole mm. -/
def State.runMm (s : State) : Nat := s.drive.runDist / 256

/-- The contact becomes absent: the record, UNDOCKED of an UNDOCK in REVERSE with the low 16 bits of its run distance
(DEDUCED, log entry 20), and the wake while PARKED (R173, R180, R183). -/
def contactLost (s : State) : State :=
  let s1 := writeDockRecord s
  let s2 :=
    match s1.dock.run with
    | .undock _ => if s1.dock.phase = some .reverse then post (.undocked s1.runMm) s1 else s1
    | .dock _ => s1
    | .none => s1
  if s2.parked then wakeUp .contactLost s2 else s2

/-- A RISING sense falls back to ABSENT: a pending bump is a miss (R177). -/
def risingFell (s : State) : State :=
  if s.dock.bumpPending then takeMiss { s with dock := { s.dock with bumpPending := false } } else s

/-- Put a sense in force. -/
def setSense (c : Sense) (start : Option Time) (s : State) : State :=
  { s with dock := { s.dock with sense := c, senseStart := start } }

/-- The sense has stood 200 ms or more (R173). -/
def State.senseSettled (s : State) : Bool :=
  match s.dock.senseStart with
  | none => false
  | some t => decide (200 ≤ since s.partTime t)

/-- The sense moves by the first row that applies (R173). -/
def moveSense (v : Byte) (s : State) : State :=
  let high := decide (s.plan.applied.dockV ≤ v.toNat)
  let low := decide (v.toNat < s.plan.applied.dockV - 10)
  match s.dock.sense with
  | .absent => if high then setSense .rising (some s.partTime) s else s
  | .rising =>
    if !high then risingFell (setSense .absent none s)
    else if s.senseSettled then contactArrived (setSense .present none s)
    else s
  | .present => if low then setSense .falling (some s.partTime) s else s
  | .falling =>
    if !low then setSense .present none s
    else if s.senseSettled then contactLost (setSense .absent none s)
    else s

/-- A sample of the charge-contact voltage (R173). -/
def contactSample (v : Byte) (s : State) : State :=
  moveSense v { s with dock := { s.dock with timer := s.dock.timer + 10, voltage := v } }

end Sys2Proof.Machine
end

