-- ==== Sys2Proof/Machine/GovernorCore.lean ====
section
/-! DEFINITION. The Speed Governor: slope (R107), the seven contributors (R108..R114), the cap (R106), and the Guard's
tilt judgement at a slope publication (R162). -/

namespace Sys2Proof.Machine

/-- A reading as whole degrees (R107). -/
def degrees (reading : Byte) : Int := trunc (((reading.toNat : Int) - 128) * 90) 256

/-- The slope of two angles (R107). -/
def slopeOf (pitch roll : Int) : Nat := if pitch.natAbs < roll.natAbs then roll.natAbs else pitch.natAbs

/-- SLOPE (R109). -/
def slopeValue (soft hard floor slope : Nat) : Option Nat :=
  if slope ≤ soft then none
  else if hard ≤ slope then some floor
  else some (800 - (slope - soft) * (800 - floor) / (hard - soft))

/-- BLADE (R110). -/
def bladeValue (state : BladeState) (load loadSoft : Nat) : Option Nat :=
  if decide (state = .cutting) && decide (loadSoft < load) then
    some (800 - (load - loadSoft) * 560 / (100 - loadSoft))
  else none

/-- The nearest present range (R111). -/
def nearestRange (l r : Option Nat) : Option Nat :=
  match l, r with
  | none, none => none
  | some a, none => some a
  | none, some b => some b
  | some a, some b => some (minN a b)

/-- The value of SONAR at a range (R111). -/
def sonarSpeed (r : Nat) : Nat := 120 + ((if r < 300 then 300 else r) - 300) * 680 / 700

/-- SONAR (R111). -/
def sonarValue (motion : Motion) (l r : Option Nat) : Option Nat :=
  if motion = .forward then
    match nearestRange l r with
    | none => none
    | some d => if d < 1000 then some (sonarSpeed d) else none
  else none

/-- WIRE (R112). -/
def wireValue (published : Nat) : Option Nat := if 0 < published then some 200 else none

/-- JAM (R113). -/
def jamValue (state : BladeState) : Option Nat := if state = .jammed then some 0 else none

/-- The Dock Unit publishes that a DOCK segment is active (R174). -/
def DockRun.isDock : DockRun → Bool
  | .none => false
  | .dock _ => true
  | .undock _ => false

/-- DOCK (R114). -/
def dockValue (run : DockRun) (near : Bool) (speed : Nat) : Option Nat :=
  if run.isDock && near then some speed else none

/-- The contributor table a control period computes (R106, R108..R114). -/
def State.contributors (s : State) (slope : Nat) : Contributors where
  global := some s.globalMax
  slope := slopeValue s.plan.applied.slopeSoft s.plan.applied.slopeHard s.plan.applied.slopeFloor slope
  blade := bladeValue s.blade.state s.blade.load s.plan.applied.loadSoft
  sonar := sonarValue s.drive.motion s.contact.sonar.left.range s.contact.sonar.right.range
  wire := wireValue s.track.published
  jam := jamValue s.blade.state
  dock := dockValue s.dock.run s.loops.stationNear s.plan.applied.dockSpeed

/-- The contributors in table order (R105). -/
def Contributors.toList (c : Contributors) : List (Contributor × Option Nat) :=
  [(.global, c.global), (.slope, c.slope), (.blade, c.blade), (.sonar, c.sonar), (.wire, c.wire), (.jam, c.jam),
   (.dock, c.dock)]

/-- The least present value, and the first contributor that holds it, from a best so far on (R106). -/
def leastFrom : Contributor × Nat → List (Contributor × Option Nat) → Contributor × Nat
  | best, [] => best
  | best, (_, none) :: cs => leastFrom best cs
  | best, (n, some v) :: cs => leastFrom (if v < best.2 then (n, v) else best) cs

/-- The cap and the limiting contributor of a table (R106). GLOBAL is always present (R108). -/
def Contributors.least (c : Contributors) : Contributor × Nat :=
  leastFrom (.global, c.global.getD 800) c.toList

/-- The governor's new state (R106, R107). -/
def State.governed (s : State) (pitch roll : Byte) : Governor :=
  let p := degrees pitch
  let r := degrees roll
  let t := s.contributors (slopeOf p r)
  { table := t
    cap := t.least.2
    limiting := t.least.1
    pitchReading := pitch
    rollReading := roll
    pitch := p
    roll := r
    slope := slopeOf p r }

/-- TILT is judged at a slope publication (R162). -/
def judgeTilt (s : State) : State :=
  if s.gov.slope < s.plan.applied.slopeTrip then { s with guard := { s.guard with tiltStart := none } }
  else
    match s.guard.tiltStart with
    | none => { s with guard := { s.guard with tiltStart := some s.partTime } }
    | some t => if 1000 ≤ since s.partTime t then find .tilt s else s

/-- Step 4 of the control period: the governor's recomputation, and the slope published to the Guard (R71, R106). The table
and the cap come from the inputs as they stand before the event, and the Guard judges TILT after them (DESIGN CHOICE, log
entry 43). -/
def governStep (pitch roll : Byte) (s : State) : State := judgeTilt { s with gov := s.governed pitch roll }

end Sys2Proof.Machine
end

