-- ==== Sys2Proof/Machine/Steering.lean ====
section
/-! DEFINITION. The requests of the segment kinds: heading hold, ROLL, TURN and PAUSE (R80..R87), Track Steering's
computation (R91..R99), DOCK and UNDOCK (R175, R179..R181). -/

namespace Sys2Proof.Machine

/-- A pair of wheel requests, left and right. -/
abbrev Pair := Int × Int

/-- What a kind makes of its part of a control period: no pair, a pair (with the mark of a DOCK's back-off), or an end. -/
inductive Request where
  | nothing
  | pair (p : Pair) (backoff : Bool)
  | ended
deriving DecidableEq, Repr

/-- A value in 1/256 mm as whole mm. -/
def mmOf (d : Nat) : Nat := d / 256

/-- The time limit of a segment has passed (R80). -/
def State.timeUp (s : State) (seg : Segment) : Bool :=
  decide (seg.fields.timeLimit ≠ 0) && decide (seg.fields.timeLimit.toNat * 1000 ≤ since s.partTime seg.start)

/-- The heading correction toward a reference (R81). -/
def State.headingHold (s : State) (ref : BitVec 16) : Int :=
  clampI (-(s.plan.applied.dMax : Int)) s.plan.applied.dMax
    (trunc ((ref - s.drive.heading).toInt * s.plan.applied.kh) 1024)

/-! ### ROLL, TURN and PAUSE -/

/-- The pair of a ROLL (R81). -/
def State.rollPair (s : State) (f : Fields) (cap : Nat) : Pair :=
  let v : Int := minN f.speedMm cap
  let mean := if f.reversed then -v else v
  let d := s.headingHold s.drive.headingRef
  (mean - d, mean + d)

/-- The pair of a spin, with the sign of an angle (R84, R181). -/
def spinPair (speed cap : Nat) (angle : Int) : Pair :=
  let v : Int := minN (minN speed cap) 400
  if 0 ≤ angle then (-v, v) else (v, -v)

/-- The pair of an arc (R85). -/
def State.arcPair (s : State) (f : Fields) (cap : Nat) : Pair :=
  let v : Int := minN f.speedMm cap
  let d := trunc (v * s.plan.applied.trackWidth) (2 * (f.radiusMm.natAbs : Int))
  let d1 := if 0 < f.radiusMm then d else -d
  (v - d1, v + d1)

/-- The pair of a TURN (R84, R85). -/
def State.turnPair (s : State) (f : Fields) (cap : Nat) : Pair :=
  if f.radiusMm = 0 then spinPair f.speedMm cap f.angleAu else s.arcPair f cap

/-- REACHED of ROLL, TURN and PAUSE at step 3 (R82, R86, R87). -/
def State.basicReached (s : State) (f : Fields) : Bool :=
  match f.kind? with
  | some .roll => decide (f.distanceMm ≠ 0) && decide (f.distanceMm ≤ mmOf s.drive.runDist)
  | some .turn => decide (f.angleMagnitude ≤ s.drive.runTurn.natAbs)
  | some .pause => decide (f.distanceMm ≤ s.drive.runTime)
  | _ => false

/-- The kinds the Drive Controller runs itself (R50). -/
def Kind.isBasic : Kind → Bool
  | .roll => true
  | .turn => true
  | .pause => true
  | .track => false
  | .dock => false
  | .undock => false

/-- The end a ROLL, TURN or PAUSE requests at step 3, if any: TIMEOUT first (R71, R80). -/
def State.basicEnd (s : State) (seg : Segment) : Option EndCause :=
  match seg.fields.kind? with
  | none => none
  | some k =>
    if !k.isBasic then none
    else if s.timeUp seg then some .timeout
    else if !s.drive.suspended && s.basicReached seg.fields then some .reached
    else none

/-- Step 3 of the control period (R71). -/
def stepEnds (s : State) : State :=
  match s.plan.active with
  | none => s
  | some seg =>
    match s.basicEnd seg with
    | some cause => endActive cause s
    | none => s

/-! ### Track Steering (R91..R99) -/

/-- What stage 1 finds: the hold case, the wire error, or the mixed case (R92, R94, R95). -/
inductive WireReading where
  | hold
  | error (e : Int)
  | mixed
deriving DecidableEq, Repr

/-- The straddle's error (R94). -/
def straddleError (left right : Byte) : Int :=
  trunc (1024 * ((left.toNat : Int) - right.toNat)) ((left.toNat : Int) + right.toNat + 1)

/-- Stage 1 from the two sub-records, the follow side, AMP_MIN and the part time (R92, R94, R95). -/
def readWire (side : FollowSide) (ampMin : Nat) (now : Time) (l r : SubRecord) : WireReading :=
  if l.stale now || r.stale now || decide (l.side = .unknown) || decide (r.side = .unknown) ||
      decide (l.amplitude.toNat + r.amplitude.toNat < ampMin) then .hold
  else
    match side, l.side, r.side with
    | .leftOut, .outside, .inside => .error (straddleError l.amplitude r.amplitude)
    | .rightOut, .inside, .outside => .error (straddleError l.amplitude r.amplitude)
    | .leftOut, .inside, .inside => .error 1024
    | .leftOut, .outside, .outside => .error (-1024)
    | .rightOut, .inside, .inside => .error (-1024)
    | .rightOut, .outside, .outside => .error 1024
    | _, _, _ => .mixed

/-- Stage 1 of the running segment (R92). -/
def State.wireReading (s : State) : WireReading :=
  match s.track.loop, s.track.side with
  | some n, some side =>
    readWire side s.plan.applied.ampMin s.partTime (s.loops.recs.get n).coils.left (s.loops.recs.get n).coils.right
  | _, _ => .hold

/-- Stage 3: the steering correction (R97). -/
def steerDelta (kp kd dMax : Nat) (e ePrev : Int) : Int :=
  clampI (-(dMax : Int)) dMax (trunc ((kp : Int) * e + (kd : Int) * (e - ePrev)) 256)

/-- Stage 4: the mean speed (R98). -/
def steerMean (speed cap : Nat) (e : Int) : Int :=
  trunc ((minN speed cap : Int) * (1024 - ((minN e.natAbs 1024 / 2 : Nat) : Int))) 1024

/-- The clamp of a request to −800..+800 (R72, R99). -/
def clampSpeed (x : Int) : Int := clampI (-800) 800 x

/-- Stages 3 to 5 (R97, R98, R99); the pair is 0 and 0 when the cap is 0. -/
def State.steerPair (s : State) (cap : Nat) (e : Int) : Pair :=
  if cap = 0 then (0, 0)
  else
    let d := steerDelta s.plan.applied.kp s.plan.applied.kd s.plan.applied.dMax e s.track.ePrev
    let v := steerMean s.track.speed cap e
    (clampSpeed (v - d), clampSpeed (v + d))

/-- Hand the pair of an error: e, e_prev and the weak count are kept and the weak count is published (R93, R98, R99). -/
def handPair (cap : Nat) (e : Int) (weak : Nat) (s : State) : State × Request :=
  ({ s with track := { s.track with e := e, ePrev := e, weak := weak, published := weak } },
    .pair (s.steerPair cap e) false)

/-- Stages 1 to 5 of the active TRACK or DOCK (R91). A segment activated in this step (`fresh`) requests no end: its
mixed case hands 0 and 0, and e_prev and the weak count stand (R91). -/
def steer (fresh : Bool) (cap : Nat) (s : State) : State × Request :=
  match s.wireReading with
  | .hold =>
    let weak := s.track.weak + 1
    if !fresh && decide (s.plan.applied.weakLimit ≤ weak) then (endActive .wireWeak s, .ended)
    else handPair cap s.track.ePrev weak s
  | .mixed => if fresh then (s, .pair (0, 0) false) else (endActive .flipped s, .ended)
  | .error e => handPair cap (e - s.track.offset) 0 s

/-- The REACHED test of a TRACK (R101). -/
def State.trackReached (s : State) (f : Fields) : Bool :=
  decide (f.distanceMm ≠ 0) && decide (f.distanceMm ≤ mmOf s.drive.runDist)

/-- A TRACK's part of step 5 (R91). -/
def trackRequest (fresh : Bool) (cap : Nat) (seg : Segment) (s : State) : State × Request :=
  if !fresh && s.timeUp seg then (endActive .timeout s, .ended)
  else if s.drive.suspended then (s, .nothing)
  else if !fresh && s.trackReached seg.fields then (endActive .reached s, .ended)
  else steer fresh cap s

/-! ### DOCK (R175, R178, R179) -/

/-- The back-off request (R179). -/
def State.backoffPair (s : State) (cap : Nat) : Pair :=
  let v : Int := minN 200 cap
  let d := s.headingHold s.dock.backRef
  (-v - d, -v + d)

/-- The phase goes back from BACKOFF to APPROACH, and to NEAR when the flag is set (R175, R179). -/
def leaveBackoff (s : State) : State :=
  let s1 := writeDockRecord { s with
    dock := { s.dock with phase := some .approach }
    track := { s.track with ePrev := 0 } }
  if s1.loops.stationNear then enterNear s1 else s1

/-- A DOCK's work of the period by phase (R175); a miss hands no pair (DESIGN CHOICE, log entry 24). -/
def dockPhaseRequest (fresh : Bool) (cap : Nat) (s : State) : State × Request :=
  if s.dock.bumpPending then (s, .pair (0, 0) false)
  else
    match s.dock.phase with
    | some .near => if s.plan.applied.dockReach < mmOf s.dock.near then (takeMiss s, .nothing) else steer fresh cap s
    | some .backoff =>
      if 400 ≤ mmOf s.dock.back then steer fresh cap (leaveBackoff s) else (s, .pair (s.backoffPair cap) true)
    | _ => steer fresh cap s

/-- A DOCK's part of step 5 (R175). -/
def dockRequest (fresh : Bool) (cap : Nat) (seg : Segment) (s : State) : State × Request :=
  if !fresh && s.timeUp seg then (endActive .timeout s, .ended)
  else if s.drive.suspended then (s, .nothing)
  else dockPhaseRequest fresh cap s

/-! ### UNDOCK (R180, R181) -/

/-- The reverse request of an UNDOCK (R180). -/
def State.undockPair (s : State) (f : Fields) (cap : Nat) : Pair :=
  let v : Int := minN f.speedMm cap
  let d := s.headingHold s.drive.headingRef
  (-v - d, -v + d)

/-- Entry to TURN (R181). -/
def enterTurn (s : State) : State :=
  writeDockRecord { s with dock := { s.dock with phase := some .turn, turnAtEntry := s.drive.runTurn } }

/-- The TURN phase of an UNDOCK (R181). -/
def undockTurn (cap : Nat) (f : Fields) (s : State) : State × Request :=
  if f.angleMagnitude ≤ (s.drive.runTurn - s.dock.turnAtEntry).natAbs then (endActive .reached s, .ended)
  else (s, .pair (spinPair f.speedMm cap f.angleAu) false)

/-- An UNDOCK's part of step 5 (R180). One activated in this step makes no test yet (DESIGN CHOICE, log entry 19). -/
def undockRequest (fresh : Bool) (cap : Nat) (seg : Segment) (s : State) : State × Request :=
  if !fresh && s.timeUp seg then (endActive .timeout s, .ended)
  else if s.drive.suspended then (s, .nothing)
  else if fresh then (s, .pair (s.undockPair seg.fields cap) false)
  else if s.dock.phase = some .turn then undockTurn cap seg.fields s
  else if s.contactPresent && decide (300 ≤ mmOf s.drive.runDist) then (endActive .stuckDocked s, .ended)
  else if !s.contactPresent && decide (seg.fields.distanceMm ≤ mmOf s.drive.runDist) then
    undockTurn cap seg.fields (enterTurn s)
  else (s, .pair (s.undockPair seg.fields cap) false)

/-! ### The active kind's request -/

/-- The request of a basic kind, unless suspended (R81, R84, R85, R87). -/
def State.basicRequest (s : State) (p : Pair) : Request := if s.drive.suspended then .nothing else .pair p false

/-- The active kind's part of step 5 (R71, R72). -/
def kindRequest (fresh : Bool) (cap : Nat) (s : State) : State × Request :=
  match s.plan.active with
  | none => (s, .nothing)
  | some seg =>
    match seg.fields.kind? with
    | some .roll => (s, s.basicRequest (s.rollPair seg.fields cap))
    | some .turn => (s, s.basicRequest (s.turnPair seg.fields cap))
    | some .pause => (s, s.basicRequest (0, 0))
    | some .track => trackRequest fresh cap seg s
    | some .dock => dockRequest fresh cap seg s
    | some .undock => undockRequest fresh cap seg s
    | none => (s, .nothing)

/-- The active kind's request; after an end, the first request of the segment the plan has gone on to (R91). -/
def requestStep (cap : Nat) (s : State) : State × Request :=
  match kindRequest false cap s with
  | (s1, .ended) => kindRequest true cap s1
  | (s1, .nothing) => (s1, .nothing)
  | (s1, .pair p b) => (s1, .pair p b)

end Sys2Proof.Machine
end

