-- ==== Sys2Proof/Machine/DriveCore.lean ====
section
/-! DEFINITION. The Drive Controller's control period (R71): measured speed (R70), odometry (R76, R78), the reflex's
stage (R148, R149), the choice of targets (R72), the rate limit (R74), the speed loops (R75), stall (R141). -/

namespace Sys2Proof.Machine

/-! ### Step 1: measured speeds (R70) -/

/-- The magnitude of a measured speed for an interval in µs (R70). -/
def speedMagnitude (mmPer256 p : Nat) : Nat := minN (mmPer256 * 1000000 / (256 * p)) 2000

/-- The measured speed at a control period (R70); a last pulse 250,000 µs or more old is forgotten (DESIGN CHOICE, log
entry 18). -/
def WheelState.measure (mmPer256 : Nat) (t : Capture) (w : WheelState) : WheelState :=
  match w.lastPulse with
  | none => { w with measured := 0 }
  | some lp =>
    if 250000 ≤ since t lp then { w with lastPulse := none, period := none, measured := 0 }
    else
      match w.period with
      | none => { w with measured := 0 }
      | some p =>
        let v := speedMagnitude mmPer256 (if p < since t lp then since t lp else p)
        { w with measured := if w.forward then (v : Int) else -(v : Int) }

/-- Step 1 for both wheels. -/
def measureWheels (t : Capture) (s : State) : State :=
  { s with drive := { s.drive with wheels := s.drive.wheels.map (WheelState.measure s.plan.applied.mmPer256 t) } }

/-! ### Step 2: odometry and accumulators (R76, R78) -/

/-- The travel of a period: mean travel m and heading change (R76). -/
structure Travel where
  mean : Int
  turn : Int
deriving DecidableEq, Repr

/-- The travel of the two wheels' period pulse counts (R76). -/
def travelOf (left right : Int) (mmPer256 trackWidth : Nat) : Travel :=
  let dl := left * mmPer256
  let dr := right * mmPer256
  { mean := trunc (dl + dr) 2
    turn := trunc ((dr - dl) * 10430) ((trackWidth : Int) * 256) }

/-- The saturation of x and y (R76). -/
def clampPose (v : Int) : Int := clampI (-(2147483647 * 256)) (2147483647 * 256) v

/-- A coordinate after a rise: a rise of 0 leaves it, as a period without a pulse leaves the pose; any other saturates
(R76). A SET_POSE to −2^31 mm stands below the range until then (R77; DESIGN CHOICE, log entry 39). -/
def risen (v rise : Int) : Int := if rise = 0 then v else clampPose (v + rise)

/-- The table index of the mid-period heading (R76). -/
def midIndex (heading : BitVec 16) (turn : Int) : Nat := (heading + BitVec.ofInt 16 (trunc turn 2)).toNat / 64

/-- The pose advanced by a travel (R76). -/
def Drive.advance (d : Drive) (v : Travel) : Drive :=
  let k := midIndex d.heading v.turn
  { d with
    x := risen d.x (trunc (v.mean * cosineEntry k) 32768)
    y := risen d.y (trunc (v.mean * sineEntry k) 32768)
    heading := d.heading + BitVec.ofInt 16 v.turn }

/-- The previous control period chose the active kind's request (R78; DEDUCED, log entry 14). -/
def Choice.isKind : Choice → Bool
  | .zero => false
  | .reflex => false
  | .kind => true
  | .backoff => true

/-- The greatest value of a distance accumulator (R68). -/
def distanceTop : Nat := 1099511627775

/-- The saturation of the run turn (R68). -/
def clampTurn (v : Int) : Int := clampI (-2147483648) 2147483647 v

/-- The four accumulators advanced by a travel, while a segment is active (R78). -/
def Drive.accumulate (d : Drive) (v : Travel) : Drive :=
  let progress := !d.suspended && d.choice.isKind
  { d with
    segDist := satAdd distanceTop d.segDist v.mean.natAbs
    runDist := if progress then satAdd distanceTop d.runDist v.mean.natAbs else d.runDist
    runTurn := if progress then clampTurn (d.runTurn + v.turn) else d.runTurn
    runTime := if d.suspended then d.runTime else satAdd 4294967295 d.runTime 10 }

/-- The period pulse counts become 0. -/
def Drive.clearCounts (d : Drive) : Drive := { d with wheels := d.wheels.map (fun w => { w with count := 0 }) }

/-- The travel of the period about to be counted. -/
def State.travel (s : State) : Travel :=
  travelOf s.drive.wheels.left.count s.drive.wheels.right.count s.plan.applied.mmPer256 s.plan.applied.trackWidth

/-- Odometry and accumulators (R76, R78). -/
def odometryStep (v : Travel) (s : State) : State :=
  let d := (s.drive.advance v).clearCounts
  { s with drive := if s.plan.active.isSome then d.accumulate v else d }

/-- The Dock Unit takes the travel of the period (R175, R179); where the distances
saturate is DEDUCED, log entry 23. -/
def dockTravel (v : Travel) (s : State) : State :=
  match s.dock.run, s.dock.phase with
  | .dock _, some .near =>
    { s with dock := { s.dock with near := satAdd distanceTop s.dock.near v.mean.natAbs } }
  | .dock _, some .backoff =>
    if s.drive.choice = .backoff then
      { s with dock := { s.dock with back := satAdd distanceTop s.dock.back v.mean.natAbs } }
    else s
  | _, _ => s

/-- The reflex takes the travel of the period (R148). -/
def reflexTravel (v : Travel) (s : State) : State :=
  match s.contact.stage with
  | .backing =>
    { s with contact := { s.contact with
      record := { s.contact.record with distance := s.contact.record.distance + v.mean.natAbs } } }
  | .turning =>
    { s with contact := { s.contact with record := { s.contact.record with turned := s.contact.record.turned + v.turn } } }
  | .quiet => s
  | .stopping => s

/-- The Guard takes the travel of the period: escape distance and ESCAPED (R164). -/
def escapeStep (v : Travel) (s : State) : State :=
  if s.armed && !s.guard.recovery && decide (s.loops.posClass = .outsideAll) then
    let d := satAdd 4294967295 s.guard.escape v.mean.natAbs
    let s1 : State := { s with guard := { s.guard with escape := d } }
    if s.plan.applied.escapeLimit ≤ mmOf d then find .escaped s1 else s1
  else s

/-- Step 2 (R71). -/
def travelStep (v : Travel) (s : State) : State :=
  escapeStep v (reflexTravel v (dockTravel v (odometryStep v s)))

/-! ### Step 5: the reflex (R148, R149) -/

/-- The turn direction from the hit set and the captured ranges (R149). -/
def turnDirection (hits : Sources) (ranges : Two (Option Nat)) : LR :=
  if !hits.meets rightSources then .right
  else if !hits.meets leftSources then .left
  else
    match ranges.left, ranges.right with
    | some l, some r => if r < l then .left else .right
    | _, _ => .right

/-- What the reflex makes of its part of step 5: its request, if it is not QUIET, and whether it ends (R148, R151). -/
structure ReflexOut where
  state : State
  pair : Option Pair
  ends : Bool

/-- BACKING's request (R148). -/
def backPair (cap : Nat) : Pair := (-(minN 200 cap : Int), -(minN 200 cap : Int))

/-- TURNING's request (R148). -/
def turnAside (cap : Nat) : Option LR → Pair
  | some .left => (-(minN 200 cap : Int), (minN 200 cap : Int))
  | some .right => ((minN 200 cap : Int), -(minN 200 cap : Int))
  | none => ((minN 200 cap : Int), -(minN 200 cap : Int))

/-- Enter BACKING (R148). -/
def enterBacking (s : State) : State :=
  { s with contact := { s.contact with
      stage := .backing
      record := { s.contact.record with stageEntry := s.partTime, still := 0 } } }

/-- Enter TURNING (R148, R149). -/
def enterTurning (s : State) : State :=
  { s with contact := { s.contact with
      stage := .turning
      record := { s.contact.record with
        stageEntry := s.partTime
        still := 0
        turned := 0
        turn := some (turnDirection s.contact.record.hits s.contact.record.ranges) } } }

/-- The still time after a period: it stands when the cap is 0, rises by 10 ms without travel, else becomes 0 (R148;
DEDUCED, log entry 25). -/
def stillAfter (cap : Nat) (moved : Bool) (still : Nat) : Nat :=
  if cap = 0 then still else if moved then 0 else still + 10

/-- A stage that runs on: the still time, its trap, and the stage's request (R148); in the period of a STILL trap the stage
hands no pair, and the choice is made from the state the trap has left (DESIGN CHOICE, log entry 35). -/
def runStage (cap : Nat) (moved : Bool) (p : Pair) (s : State) : ReflexOut :=
  let n := stillAfter cap moved s.contact.record.still
  let s1 : State := { s with contact := { s.contact with record := { s.contact.record with still := n } } }
  if 2000 ≤ n then ⟨takeTrap .still s1, none, false⟩ else ⟨s1, some p, false⟩

/-- The reflex's part of step 5 (R148). -/
def reflexStep (cap : Nat) (v : Travel) (s : State) : ReflexOut :=
  match s.contact.stage with
  | .quiet => ⟨s, none, false⟩
  | .stopping =>
    if (decide (s.drive.wheels.left.measured = 0) && decide (s.drive.wheels.right.measured = 0)) ||
        decide (300 ≤ since s.partTime s.contact.record.stageEntry) then
      ⟨enterBacking s, some (backPair cap), false⟩
    else ⟨s, some (0, 0), false⟩
  | .backing =>
    if s.plan.applied.reflexBack ≤ mmOf s.contact.record.distance then
      let s1 := enterTurning s
      ⟨s1, some (turnAside cap s1.contact.record.turn), false⟩
    else runStage cap (decide (v.mean ≠ 0)) (backPair cap) s
  | .turning =>
    if s.plan.applied.reflexTurn ≤ s.contact.record.turned.natAbs then ⟨s, some (0, 0), true⟩
    else runStage cap (decide (v.turn ≠ 0)) (turnAside cap s.contact.record.turn) s

/-! ### Step 5: choice and rate limit (R72, R74) -/

/-- The first source that applies (R72). -/
def State.choose (s : State) (cap : Nat) (reflex : Option Pair) (kind : Request) : Choice × Pair :=
  if !s.armed || decide (cap = 0) then (.zero, (0, 0))
  else
    match reflex with
    | some p => (.reflex, p)
    | none =>
      match kind with
      | .pair p b =>
        if s.plan.active.isSome && !s.drive.suspended then (if b then .backoff else .kind, p) else (.zero, (0, 0))
      | .nothing => (.zero, (0, 0))
      | .ended => (.zero, (0, 0))

/-- The greater of two values (R1). -/
def maxI (a b : Int) : Int := if a ≤ b then b else a

/-- The rate limit of one wheel: ACCEL, request, target in force (R74). -/
def rateLimit (accel : Nat) (request target : Int) : Int :=
  if request = 0 then 0
  else if 0 < request then
    if target < 0 then minI request accel
    else if request ≤ target then request
    else minI request (target + accel)
  else
    if 0 < target then maxI request (-accel)
    else if target ≤ request then request
    else maxI request (target - accel)

/-- Set a wheel's target; the direction flag follows its sign (R69). -/
def WheelState.aim (accel : Nat) (request : Int) (w : WheelState) : WheelState :=
  let t := rateLimit accel (clampSpeed request) w.target
  { w with target := t, forward := if 0 < t then true else if t < 0 then false else w.forward }

/-- Both targets from a chosen pair (R72, R74). -/
def aimWheels (c : Choice) (p : Pair) (s : State) : State :=
  { s with drive := { s.drive with
      choice := c
      wheels := ⟨s.drive.wheels.left.aim s.accel p.1, s.drive.wheels.right.aim s.accel p.2⟩ } }

/-- Step 5 (R71, R72, R151). The active kind's part goes before the reflex's (DESIGN CHOICE, log entry 35). -/
def chooseStep (v : Travel) (s : State) : State :=
  let cap := s.gov.cap
  let k := requestStep cap s
  let r := reflexStep cap v k.1
  let c := r.state.choose cap r.pair k.2
  aimWheels c.1 c.2 (if r.ends then finishReflex r.state else r.state)

/-! ### Steps 6 and 7 (R75, R78) -/

/-- The speed loop of one wheel (R75). -/
def WheelState.drivenBy (kf ki : Nat) (w : WheelState) : WheelState :=
  if w.target = 0 ∧ w.measured = 0 then { w with integrator := 0, duty := 0 }
  else
    let i := clampI (-600) 600 (w.integrator + trunc ((w.target - w.measured) * ki) 256)
    { w with integrator := i, duty := clampDuty (trunc (w.target * kf) 256 + i) }

/-- Step 6 (R75). -/
def dutyStep (s : State) : State :=
  { s with drive := { s.drive with
      wheels := s.drive.wheels.map (WheelState.drivenBy s.plan.applied.kf s.plan.applied.ki) } }

/-- The motion direction of two targets (R78). -/
def motionOf (left right : Int) : Motion :=
  if 0 < left + right then .forward else if left + right < 0 then .reverse else .still

/-- Step 7: the motion direction is published, and pinging is judged (R78, R138). -/
def motionStep (s : State) : State :=
  judgePinging { s with drive := { s.drive with
    motion := motionOf s.drive.wheels.left.target s.drive.wheels.right.target } }

/-! ### Stall (R141) -/

/-- The contact source of a wheel's stall. -/
def stallSource : LR → Sources
  | .left => srcStallL
  | .right => srcStallR

/-- Set a wheel's stall start. -/
def setStall (i : LR) (t : Option Time) (s : State) : State :=
  { s with contact := { s.contact with stall := s.contact.stall.set i t } }

/-- The judgement of one wheel (R141). -/
def judgeStall (i : LR) (s : State) : State :=
  let w := s.drive.wheels.get i
  if s.armed && decide (900 ≤ w.duty.natAbs) && decide (w.measured = 0) then
    match s.contact.stall.get i with
    | none => setStall i (some s.partTime) s
    | some t => if 300 ≤ since s.partTime t then formContact (stallSource i) none (setStall i none s) else s
  else setStall i none s

/-! ### The control period (R71) -/

/-- What the port keeps of drive, governor and steering for the next snapshot (R195; DESIGN CHOICE, log entry 13). -/
def latch (s : State) : State :=
  { s with port := { s.port with latched := latchWords s.drive s.gov s.track } }

/-- One control period, its steps in order (R71, R141). -/
def controlPeriod (t : Capture) (pitch roll : Byte) (s : State) : State :=
  let s1 := measureWheels t { s with drive := { s.drive with timer := s.drive.timer + 10 } }
  let v := s1.travel
  let s2 := governStep pitch roll (stepEnds (travelStep v s1))
  latch (judgeStall .right (judgeStall .left (motionStep (dutyStep (chooseStep v s2)))))

end Sys2Proof.Machine
end

