-- ==== Sys2Proof/Machine/ReceiverCore.lean ====
section
/-! DEFINITION. The Wire Receiver: edges and pulses (R4..R6), blanking (R7..R9), the frame decoder (R10..R16), frames
(R17) and the self-check (R21..R24). -/

namespace Sys2Proof.Machine

/-! ### Width classes and gaps (R10) -/

/-- The width class of a pulse (R10). -/
inductive WidthClass where
  | short
  | long
  | start
  | malformed
deriving DecidableEq, Repr

/-- The class of a width in µs (R10). -/
def widthClass (w : Nat) : WidthClass :=
  if 30 ≤ w ∧ w ≤ 70 then .short
  else if 80 ≤ w ∧ w ≤ 120 then .long
  else if 170 ≤ w ∧ w ≤ 230 then .start
  else .malformed

/-- The bit a class carries, if any (R10). -/
def WidthClass.bit : WidthClass → Option Nat
  | .short => some 0
  | .long => some 1
  | .start => none
  | .malformed => none

/-- A gap is good (R10). -/
def goodGap (g : Nat) : Bool := decide (30 ≤ g) && decide (g ≤ 70)

/-- The number of 1 bits of an identity value 0..15 (R13). -/
def onesOf (v : Nat) : Nat := v % 2 + v / 2 % 2 + v / 4 % 2 + v / 8 % 2

/-- The polarity a sample shows, if any (R5). -/
def Sample.polarity : Sample → Option Polarity
  | .positive => some .positive
  | .negative => some .negative
  | .void => none

/-! ### The frame decoder (R11..R15) -/

/-- A pulse that has ended, as the decoder receives it (R6). -/
structure EndedPulse where
  leading : Capture
  trailing : Capture
  width : Nat
  sample : Option Polarity
  peak : Byte
deriving DecidableEq, Repr

/-- What the decoder makes of a pulse: the channel, and a completed frame with its code (R13). -/
abbrev Decoded := Channel × Option (Frame × Nat)

/-- The expiry of the gap timer after a trailing edge (R14). -/
def gapExpiry (trailing : Capture) : Capture := trailing + 71

/-- Break the frame in progress (R15). -/
def Channel.broken (c : Channel) : Channel :=
  { c with malformed := satAdd 65535 c.malformed 1, decoder := .hunt, gap := .stopped }

/-- A pulse judged in HUNT (R11). A pulse without a polarity sample begins no frame (DESIGN CHOICE, log entry 15). -/
def Channel.hunt (c : Channel) (p : EndedPulse) : Channel :=
  match widthClass p.width, p.sample with
  | .start, some q =>
    { c with
      decoder := .ident ⟨q, p.peak, 0, 0⟩
      prevTrailing := p.trailing
      gap := .running (gapExpiry p.trailing) }
  | _, _ => c

/-- The three tests of IDENT and PARITY, and the bit of a pulse that passes (R12, R13). -/
def Channel.bitOf (c : Channel) (f : Frame) (p : EndedPulse) : Option Nat :=
  if !goodGap (since p.leading c.prevTrailing) then none
  else if p.sample ≠ some f.start then none
  else (widthClass p.width).bit

/-- An identity bit is collected (R12). -/
def Channel.collect (c : Channel) (f : Frame) (b : Nat) (p : EndedPulse) : Channel :=
  let g : Frame := { f with bits := f.bits + 1, value := f.value * 2 + b }
  { c with
    decoder := if g.bits = 4 then .parity g else .ident g
    prevTrailing := p.trailing
    gap := .running (gapExpiry p.trailing) }

/-- A pulse that is no glitch goes to the decoder (R6, R11..R13, R15). -/
def Channel.decode (c : Channel) (p : EndedPulse) : Decoded :=
  match c.decoder with
  | .hunt => (c.hunt p, none)
  | .ident f =>
    match c.bitOf f p with
    | some b => (c.collect f b p, none)
    | none => (c.broken.hunt p, none)
  | .parity f =>
    match c.bitOf f p with
    | some b =>
      if (onesOf f.value + b) % 2 = 1 then ({ c with decoder := .hunt, gap := .stopped }, some (f, f.value))
      else (c.broken, none)
    | none => (c.broken.hunt p, none)

/-! ### Pulses (R5, R6) -/

/-- The gap timer stops when a pulse opens, keeping its expiry (R5). -/
def GapTimer.pause : GapTimer → GapTimer
  | .running e => .paused e
  | .paused e => .paused e
  | .stopped => .stopped

/-- After a glitch the gap timer runs on, or expires at once when its time has passed (R6). -/
def Channel.afterGlitch (c : Channel) (now : Capture) : Channel :=
  match c.gap with
  | .paused e => if due now e then c.broken else { c with gap := .running e }
  | .running _ => c
  | .stopped => c

/-- The pulse is a glitch: its width under 25 µs, or its sample VOID (R6). -/
def isGlitch (width : Nat) (sample : Option Sample) : Bool := decide (width < 25) || decide (sample = some .void)

/-- The open pulse is taken at a trailing edge or an interval's end, and judged; the pulse state becomes `after`
(R5, R6, R9). -/
def Channel.takePulse (c : Channel) (trailing : Capture) (after : Pulse) : Decoded :=
  match c.pulse with
  | .opened leading sample =>
    let c1 : Channel := { c with pulse := after, held := false, noted := false }
    let w := since trailing leading
    if isGlitch w sample then (c1.afterGlitch trailing, none)
    else c1.decode ⟨leading, trailing, w, sample.bind Sample.polarity, c.peak⟩
  | .none => (c, none)
  | .lost => (c, none)

/-- The over-length pulse is judged at once as if its width were 231 µs (R5). -/
def Channel.takeOverLength (c : Channel) : Decoded :=
  match c.pulse with
  | .opened leading sample =>
    let c1 : Channel := { c with pulse := .lost }
    if isGlitch 231 sample then (c1.afterGlitch (leading + 231), none)
    else c1.decode ⟨leading, leading + 231, 231, sample.bind Sample.polarity, c.peak⟩
  | .none => (c, none)
  | .lost => (c, none)

/-- A leading edge (R4, R5, R8, R9). One that comes inside the interval after its pulse's over-length, while the trailing
edge is still held back, is noted as it is for an OPEN pulse (DESIGN CHOICE, log entry 42). -/
def Channel.leadingEdge (c : Channel) (t : Capture) (blanked : Bool) : Channel :=
  match c.pulse with
  | .none =>
    if blanked then { c with pulse := .lost }
    else { c with pulse := .opened t none, peak := 0, gap := c.gap.pause }
  | .opened _ _ => if c.held && blanked then { c with noted := true } else c
  | .lost => if c.held && blanked then { c with noted := true } else c

/-- The pulse state after a held trailing edge is taken (R5, R9). -/
def Channel.afterHeld (c : Channel) : Pulse := if c.noted then .lost else .none

/-- The polarity sample of a pulse whose real end comes at `t` and is held back: VOID where that is before the sample point,
25 µs after the leading edge (R9), also where a blanked leading edge brings the level out of the band again before that point
(DESIGN CHOICE, log entry 41). -/
def heldSample (sample : Option Sample) (leading t : Capture) : Option Sample :=
  if since t leading < 25 then some .void else sample

/-- A trailing edge (R4, R5, R9). A second one while one is held back ends the noted pulse (DESIGN CHOICE, log entry 15). -/
def Channel.trailingEdge (c : Channel) (t : Capture) (peak : Byte) (blanked : Bool) : Decoded :=
  match c.pulse with
  | .none => (c, none)
  | .lost => if c.held && c.noted then ({ c with noted := false }, none) else ({ c with pulse := .none }, none)
  | .opened leading sample =>
    if c.held then ({ c with noted := false }, none)
    else if blanked then
      ({ c with pulse := .opened leading (heldSample sample leading t), held := true, peak := peak }, none)
    else Channel.takePulse { c with peak := peak } t .none

/-- A held trailing edge is taken at the interval's end; a pulse ended meanwhile by its over-length is not (R5, R9): the
trailing edge makes it NONE, or leaves it LOST where a leading edge was noted since (DESIGN CHOICE, log entry 42). -/
def Channel.intervalEnd (c : Channel) (finish : Capture) : Decoded :=
  if !c.held then (c, none)
  else
    match c.pulse with
    | .opened _ _ => c.takePulse finish c.afterHeld
    | .none => ({ c with held := false, noted := false }, none)
    | .lost => ({ c with pulse := c.afterHeld, held := false, noted := false }, none)

/-- The gap timer expires, if it runs and its time has come (R14). -/
def Channel.gapEnd (c : Channel) (t : Capture) : Channel :=
  match c.gap with
  | .running e => if due t e then c.broken else c
  | .paused _ => c
  | .stopped => c

/-- The polarity sample is taken, once, from its point on, as the level stands (R5). A pulse whose real end came before the
point has its sample already, VOID (R9). -/
def Channel.samplePoint (c : Channel) (t : Capture) (level : Level) : Channel :=
  match c.pulse with
  | .opened leading none =>
    if due t (leading + 25) then
      { c with pulse := .opened leading (some
          (match level with
           | .positive => .positive
           | .negative => .negative
           | .inside => .void)) }
    else c
  | .opened _ (some _) => c
  | .none => c
  | .lost => c

/-! ### Frames (R17, R22) -/

/-- Put a channel in force. -/
def setChannel (i : Coil) (c : Channel) (s : State) : State :=
  { s with recv := { s.recv with channels := s.recv.channels.set i c } }

/-- The lowest-numbered loop whose entry equals the code; 15 matches none (R17). -/
def loopOfCode (m : Four Nat) (code : Nat) : Option Loop :=
  if code = 15 then none
  else if m.l0 = code then some 0
  else if m.l1 = code then some 1
  else if m.l2 = code then some 2
  else if m.l3 = code then some 3
  else none

/-- A foreign frame is counted (R17). -/
def Channel.countForeign (c : Channel) (code : Nat) : Channel :=
  { c with foreign := satAdd 65535 c.foreign 1, lastForeign := some code }

/-- Count a foreign frame on a coil (R17). -/
def foreignFrame (i : Coil) (code : Nat) (s : State) : State :=
  setChannel i ((s.recv.channels.get i).countForeign code) s

/-- A self-check runs (R21). -/
def State.checking (s : State) : Bool := decide (s.recv.check.result = .running)


/-- The polarity the internal source sends in the interval begun last (R22). -/
def Check.sent (c : Check) : Polarity := if c.begun ≤ 4 then .positive else .negative

/-- A code-15 frame during the check (R22). -/
def CheckCoil.decoded15 (c : CheckCoil) (p sent : Polarity) : CheckCoil :=
  { c with decoded := c.decoded + 1, mismatch := if p = sent then c.mismatch else c.mismatch + 1 }

/-- A complete frame during the check (R22). The counts reach the check record's words when the record is written next, at
the check's end or its abandonment (DESIGN CHOICE, log entry 32). -/
def checkFrame (i : Coil) (f : Frame) (code : Nat) (s : State) : State :=
  if code = 15 then
    { s with recv := { s.recv with check := { s.recv.check with
        coils := s.recv.check.coils.set i ((s.recv.check.coils.get i).decoded15 f.start s.recv.check.sent) } } }
  else foreignFrame i code s

/-- A complete frame is looked up and reported or counted as foreign (R17). -/
def completeFrame (i : Coil) (f : Frame) (code : Nat) (s : State) : State :=
  if s.checking then checkFrame i f code s
  else
    match loopOfCode s.plan.applied.loopMap code with
    | none => foreignFrame i code s
    | some n => frameReport ⟨i, n, f.start, f.amplitude⟩ s

/-- Put a channel's outcome in force and hand on a frame it completed (R13, R17). -/
def takeDecoded (i : Coil) (d : Decoded) (s : State) : State :=
  let s1 := setChannel i d.1 s
  match d.2 with
  | none => s1
  | some (f, code) => completeFrame i f code s1

/-! ### The internal source (R21, R22) -/

/-- The frame of the internal source: each pulse by the µs at which it begins and ends, from the start of the start mark
on: 200 µs, then four long identity pulses and a long parity pulse, 50 µs apart (R22). -/
def sourcePulses : List (Nat × Nat) := [(0, 200), (250, 350), (400, 500), (550, 650), (700, 800), (850, 950)]

/-- The capture time at which the start mark of the interval begun last begins: 5 ms into an interval that begins 25 ms
after the one before (R22; the millisecond's place on the capture count is DEDUCED, log entry 38). -/
def Check.markStart (c : Check) : Capture := timebaseOf (c.start + BitVec.ofNat 32 (25 * (c.begun - 1) + 5))

/-- The µs from the start of the start mark to a capture time. -/
def Check.sourceTime (c : Check) (t : Capture) : Nat := since t c.markStart

/-- The internal source sends a leading edge at a capture time (R22). -/
def Check.sendsLeading (c : Check) (t : Capture) : Bool :=
  decide (0 < c.begun) && sourcePulses.any (fun p => decide (p.1 = c.sourceTime t))

/-- The internal source sends a trailing edge at a capture time (R22). -/
def Check.sendsTrailing (c : Check) (t : Capture) : Bool :=
  decide (0 < c.begun) && sourcePulses.any (fun p => decide (p.2 = c.sourceTime t))

/-- The sign of a polarity's pulses at the comparator (spec 01 section 1.4). -/
def Polarity.level : Polarity → Level
  | .positive => .positive
  | .negative => .negative

/-- The level the internal source sends at a capture time (R22). -/
def Check.sourceLevel (c : Check) (t : Capture) : Level :=
  if decide (0 < c.begun) && sourcePulses.any (fun p => decide (p.1 ≤ c.sourceTime t) && decide (c.sourceTime t < p.2))
  then c.sent.level else .inside

/-- A leading edge at `t` reaches the channels: a coil's, or while a check runs the internal source's alone (R21, R22). -/
def State.hearsLeading (s : State) (t : Capture) : Bool := !s.checking || s.recv.check.sendsLeading t

/-- A trailing edge at `t` reaches the channels (R21, R22). -/
def State.hearsTrailing (s : State) (t : Capture) : Bool := !s.checking || s.recv.check.sendsTrailing t

/-- The level the channels' comparators show at `t`: the coil's, or while a check runs the internal source's (R21, R22). -/
def State.heardLevel (s : State) (t : Capture) (level : Level) : Level :=
  if s.checking then s.recv.check.sourceLevel t else level

/-! ### Edges at a capture time -/

/-- The capture time lies inside the open blanking interval (R7). -/
def State.blanked (s : State) (t : Capture) : Bool :=
  match s.recv.blankEnd with
  | none => false
  | some e => !due t e

/-- The end of a blanking interval, channel by channel: LEFT, then RIGHT, then REAR, each with all that follows from its
frame (R9; the order is DESIGN CHOICE, log entry 33). -/
def closeInterval (finish : Capture) (s : State) : State :=
  let s0 : State := { s with recv := { s.recv with blankEnd := none } }
  let s1 := takeDecoded .left ((s0.recv.channels.get .left).intervalEnd finish) s0
  let s2 := takeDecoded .right ((s1.recv.channels.get .right).intervalEnd finish) s1
  takeDecoded .rear ((s2.recv.channels.get .rear).intervalEnd finish) s2

/-- Before an edge at `t`: an interval over by then closes, so a held trailing edge is taken before any other edge that
carries the same capture time (R9). -/
def settleInterval (t : Capture) (s : State) : State :=
  match s.recv.blankEnd with
  | none => s
  | some e => if due t e then closeInterval e s else s

/-- A leading edge at `t`, if it reaches the channel: the interval and a gap timer whose time has come go first (R4, R5,
R8, R9, R14). -/
def leadingAt (i : Coil) (t : Capture) (s : State) : State :=
  if s.hearsLeading t then
    let s1 := settleInterval t s
    setChannel i (((s1.recv.channels.get i).gapEnd t).leadingEdge t (s1.blanked t)) s1
  else s

/-- A trailing edge at `t`, if it reaches the channel (R4, R5, R9). -/
def trailingAt (i : Coil) (t : Capture) (peak : Byte) (s : State) : State :=
  if s.hearsTrailing t then
    let s1 := settleInterval t s
    takeDecoded i ((s1.recv.channels.get i).trailingEdge t peak (s1.blanked t)) s1
  else s

/-- The output produces switching edges: its duty is neither at rest nor fully on (R7; DEDUCED, log entry 21). -/
def State.outputSwitches (s : State) : PwmOutput → Bool
  | .leftWheel => decide (s.drive.wheels.left.duty ≠ 0) && decide (s.drive.wheels.left.duty.natAbs < 1000)
  | .rightWheel => decide (s.drive.wheels.right.duty ≠ 0) && decide (s.drive.wheels.right.duty.natAbs < 1000)
  | .blade => decide (s.blade.duty ≠ 0) && decide (s.blade.duty < 1000)

/-- A switching edge opens or extends the blanking interval (R7; DEDUCED, log entry 21). -/
def switchingAt (o : PwmOutput) (t : Capture) (s : State) : State :=
  let s1 := settleInterval t s
  if !s1.outputSwitches o || decide (s1.plan.applied.blank = 0) then s1
  else { s1 with recv := { s1.recv with blankEnd := some (t + BitVec.ofNat 32 s1.plan.applied.blank) } }

/-! ### The self-check (R21..R24) -/

/-- Discard any pulse or frame in progress without counting it (R21, R23). -/
def Channel.discard (c : Channel) : Channel :=
  { c with pulse := .none, held := false, noted := false, decoder := .hunt, gap := .stopped }

/-- Discard in all three channels. -/
def discardAll (s : State) : State := { s with recv := { s.recv with channels := s.recv.channels.map Channel.discard } }

/-- A check begins (R21, R29). -/
def beginCheck (s : State) : State :=
  let s1 := discardAll s
  writeCheckRecord { s1 with
    recv := { s1.recv with check :=
      { result := .running
        start := s.partTime
        finish := s1.recv.check.finish
        coils := ⟨initCheckCoil, initCheckCoil, initCheckCoil⟩
        begun := 0 } }
    loops := { s1.loops with checkFlag := true, spoiled := true } }

/-- The verdict on a coil (R23). -/
def CheckCoil.judged (c : CheckCoil) : CheckCoil :=
  { c with verdict := if 7 ≤ c.decoded ∧ c.mismatch = 0 then .pass else .fail }

/-- All three coils pass (R23). -/
def checkPasses (c : Three CheckCoil) : Bool :=
  decide (c.left.verdict = .pass) && decide (c.right.verdict = .pass) && decide (c.rear.verdict = .pass)

/-- The check ends (R23). -/
def finishCheck (s : State) : State :=
  let s1 := discardAll s
  let coils := s1.recv.check.coils.map CheckCoil.judged
  post .checkDone (writeCheckRecord { s1 with
    recv := { s1.recv with check := { s1.recv.check with
      result := if checkPasses coils then .pass else .fail
      finish := s.partTime
      coils := coils } }
    loops := { s1.loops with checkFlag := false }
    port := { s1.port with inHand := .none } })

/-- The check record after an abandonment at a part time; a check that does not run is kept (R24). -/
def Check.abandonedAt (c : Check) (now : Time) : Check :=
  if c.result = .running then { c with result := .abandoned, finish := now } else c

/-- The check record after PIN and STROBE, by whether the reset found a check running (R24). -/
def Check.afterPin (c : Check) (abandoned : Bool) : Check :=
  if abandoned then { c with result := .abandoned, start := 0, finish := 0, begun := 0 } else initCheck

end Sys2Proof.Machine
end

