-- ==== Sys2Proof/Machine/RequestCore.lean ====
section
/-! DEFINITION. Requests: the arrival (R189), its judgement (R190), the owners' judgements and effects (R21, R58, R60,
R77, R129, R146, R158, R159, R161, R168, R182, R183), RESTART (R170, R171), and the end of a reset (R169). -/

namespace Sys2Proof.Machine

/-! ### ARM, DISARM, CLEAR_TRIP (R158, R159, R161, R168) -/

/-- The result of an ARM by the first row that applies (R158). -/
def State.judgeArm (s : State) : Result :=
  if s.port.args.a0 ≠ 0 ∧ s.port.args.a0 ≠ 1 then .badArgument
  else if s.guard.machine ≠ .safe then .refusedState
  else if s.standsLift then .refusedCondition reasonLifted
  else if s.standsTilt then .refusedCondition reasonTilted
  else if s.standsStopKey then .refusedCondition reasonStopKey
  else if s.standsNoSignal then .refusedCondition reasonNoPerimeter
  else if s.blade.state ≠ .off ∧ s.blade.state ≠ .lockedOut then .refusedCondition reasonBladeBusy
  else if s.port.args.a0 = 0 ∧ s.loops.posClass = .outsideAll then .refusedCondition reasonOutside
  else .done

/-- Steps 2 to 4 of a taken ARM (R159). -/
def armGuard (s : State) : State :=
  { s with guard := { s.guard with
      escape := 0
      recovery := decide (s.port.args.a0 = 1) && decide (s.loops.posClass ≠ .insideAll)
      silence := some (s.partTime + BitVec.ofNat 32 s.hostSilence) } }

/-- A taken ARM (R138, R159). -/
def takeArm (s : State) : State := judgePinging (setMachine .armed (armGuard (applyIfStaged s)))

/-- The ARM request (R158). -/
def askArm (count : BitVec 8) (s : State) : State :=
  if s.judgeArm = .done then answerWith 1 .done count (takeArm s) else answerWith 1 s.judgeArm count s

/-- The DISARM request (R161). -/
def askDisarm (count : BitVec 8) (s : State) : State :=
  match s.guard.machine with
  | .armed => answerWith 2 .done count (leaveArmed .disarm .safe s)
  | .safe => answerWith 2 .done count s
  | .tripped => answerWith 2 .refusedState count s
  | .parked => answerWith 2 .refusedState count s
  | .start => answerWith 2 .notReady count s

/-- One of the four standing conditions holds (R155, R168). -/
def State.stands (s : State) : Bool := s.standsLift || s.standsTilt || s.standsStopKey || s.standsNoSignal

/-- A taken CLEAR_TRIP (R168). -/
def takeClearTrip (s : State) : State :=
  setMachine .safe (writeTripRecord { s with guard := { s.guard with
    trip := { s.guard.trip with cleared := true, clearTime := some s.partTime } } })

/-- The CLEAR_TRIP request (R168). -/
def askClearTrip (count : BitVec 8) (s : State) : State :=
  if s.guard.machine ≠ .tripped then answerWith 3 .refusedState count s
  else if s.stands then answerWith 3 (.refusedCondition reasonStillPresent) count s
  else answerWith 3 .done count (takeClearTrip s)

/-! ### PLAN_START, PLAN_STOP (R58..R60) -/

/-- A taken PLAN_START by plan state (R58, R59). -/
def takePlanStart (h : Slot) (s : State) : State :=
  match s.plan.state with
  | .idle => activate h s
  | .waitingNext => activate h s
  | .held => activate h s
  | .running =>
    match s.plan.active with
    | none => { s with plan := { s.plan with deferred := some h } }
    | some _ =>
      let s1 := (settleEnd .preempted s).1
      if s1.contact.stage = .quiet then activate h s1
      else startHold { s1 with plan := { s1.plan with deferred := some h } }

/-- The PLAN_START request (R58). -/
def askPlanStart (count : BitVec 8) (s : State) : State :=
  match slotOfWord s.port.args.a0 with
  | none => answerWith 4 .badArgument count s
  | some h =>
    if !s.armed then answerWith 4 .refusedState count s
    else if s.slotState h ≠ slotQueued then answerWith 4 (.refusedCondition reasonNotQueued) count s
    else answerWith 4 .done count (takePlanStart h s)

/-- The effect of a PLAN_STOP (R60). -/
def takePlanStop (s : State) : State :=
  match s.plan.state, s.plan.active with
  | .idle, _ => s
  | _, some _ => (settleEnd .stopped s).1
  | _, none => becomeIdle s

/-- The PLAN_STOP request (R60). -/
def askPlanStop (count : BitVec 8) (s : State) : State := answerWith 5 .done count (takePlanStop s)

/-! ### SET_POSE (R77) -/

/-- The heading reference after a SET_POSE: moved with the heading while a ROLL is active (R77). -/
def State.movedRef (s : State) (heading : BitVec 16) : BitVec 16 :=
  if s.activeKind = some .roll then s.drive.headingRef + (heading - s.drive.heading) else s.drive.headingRef

/-- A taken SET_POSE (R77). -/
def takeSetPose (s : State) : State :=
  let a := s.port.args
  { s with drive := { s.drive with
      x := (join32 a.a0 a.a1).toInt * 256
      y := (join32 a.a2 a.a3).toInt * 256
      heading := a.a4
      headingRef := s.movedRef a.a4 } }

/-- The SET_POSE request (R77). -/
def askSetPose (count : BitVec 8) (s : State) : State := answerWith 6 .done count (takeSetPose s)

/-! ### CLEAR_CONTACTS, BLADE_UNLOCK (R129, R146) -/

/-- The CLEAR_CONTACTS request (R146). -/
def askClearContacts (count : BitVec 8) (s : State) : State := answerWith 7 .done count (noteContacts (setList [] s))

/-- The BLADE_UNLOCK request (R129). -/
def askBladeUnlock (count : BitVec 8) (s : State) : State :=
  if s.blade.state = .lockedOut then answerWith 8 .done count (offAndJudge s)
  else answerWith 8 .refusedState count s

/-! ### PARK, WAKE (R182, R183) -/

/-- The result of a PARK by the first row that applies (R182). -/
def State.judgePark (s : State) : Result :=
  if s.guard.machine ≠ .safe ∧ s.guard.machine ≠ .armed then .refusedState
  else if s.plan.state ≠ .idle then .refusedCondition reasonPlanBusy
  else if !s.contactPresent then .refusedCondition reasonNoContact
  else if s.loops.recs.l0.coils.rear.state = .lost then .refusedCondition reasonStationSilent
  else .done

/-- The PARK request (R182). -/
def askPark (count : BitVec 8) (s : State) : State :=
  if s.judgePark = .done then answerWith 9 .done count (takePark s) else answerWith 9 s.judgePark count s

/-- The WAKE request (R183). -/
def askWake (count : BitVec 8) (s : State) : State :=
  if s.parked then answerWith 10 .done count (wakeUp .wake s) else answerWith 10 .refusedState count s

/-! ### SELF_CHECK (R21) -/

/-- The SELF_CHECK request (R21, R190). -/
def askSelfCheck (count : BitVec 8) (s : State) : State :=
  if s.guard.machine = .safe then
    let s1 := beginCheck s
    answerWith requestSelfCheck .done count { s1 with port := { s1.port with inHand := .selfCheck count } }
  else answerWith requestSelfCheck .refusedState count s

/-! ### RESTART (R170, R171) -/

/-- The reset record after a reset other than POWER (R171). -/
def Guard.recordAfter (g : Guard) (cause : ResetCause) : ResetRecord where
  cause := cause
  parked := decide (g.machine = .parked)
  trip := if g.machine = .tripped then g.trip.first else none
  count := satAdd 255 g.resetRecord.count 1

/-- The trip record after RESTART: cleared when the machine was TRIPPED (R167). -/
def Guard.tripAfterRestart (g : Guard) (now : Time) : TripRecord :=
  if g.machine = .tripped then { g.trip with cleared := true, clearTime := some now } else g.trip

/-- The dock record after RESTART (R183). -/
def State.dockAfterRestart (s : State) : DockRecord :=
  if s.parked then { s.dock.record with wakeReason := .reset, wakeTime := some s.partTime } else s.dock.record

/-- The Blade Controller after RESTART (R117, R133). -/
def Blade.afterRestart (b : Blade) (now : Time) (t : Capture) : Blade :=
  { b with
    state := .braking
    jamPhase := none
    final := false
    duty := 0
    brake := true
    spinupEntry := 0
    lowStart := none
    brakeTimer := some (now + 2000)
    brakeStart := some t
    waitTimer := none
    effective := .off
    load := 0 }

/-- The Drive Controller after RESTART (R68, R73). -/
def Drive.afterRestart (d : Drive) : Drive :=
  { d with
    wheels := d.wheels.map WheelState.zeroed
    x := 0
    y := 0
    heading := 0
    segDist := 0
    runDist := 0
    runTurn := 0
    runTime := 0
    headingRef := 0
    suspended := false
    motion := .still
    choice := .zero }

/-- The Plan Engine after RESTART (R43). -/
def Plan.afterRestart (p : Plan) : Plan :=
  { initPlan with activation := p.activation, applied := p.applied, appliedGen := p.appliedGen }

/-- The Exchange Port after RESTART, but for the refreshes (R185, R196). -/
def Port.afterRestart (p : Port) (count : BitVec 8) (now : Time) : Port :=
  { p with
    faults := 0
    inHand := .restart count
    snapshot := ⟨none, false⟩
    loopTable := ⟨none, false⟩
    contactList := ⟨none, false⟩
    snapTimer := now + 50 }

/-- The header cells of the cleared notice state (R197). -/
def clearedNoticeCells (n : Notices) : List (Nat × Word) :=
  Source.all.flatMap (fun a => sourceCells a (n.get a))

/-- When the machine was ARMED, the active segment is ended CUT RESTART with its results written (R61, R170). -/
def endForRestart (s : State) : State := if s.plan.active.isSome then (settleEnd .restart s).1 else s

/-- The blocks after RESTART (R170). -/
def blocksAfterRestart (count : BitVec 8) (s : State) : State :=
  { s with
    recv := initReceiver (s.recv.check.abandonedAt s.partTime)
    loops := initLoops s.plan.applied.loopMap s.partTime
    plan := s.plan.afterRestart
    drive := s.drive.afterRestart
    track := idleTrack
    blade := s.blade.afterRestart s.partTime s.timebase
    contact := initContact s.pins s.partTime
    guard := initGuard s.pins s.partTime false (s.guard.tripAfterRestart s.partTime) (s.guard.recordAfter .restart)
    dock := initDock s.partTime s.dockAfterRestart
    port := s.port.afterRestart count s.partTime
    notice := initNotices s.notice.atnEnable s.notice.ackMode }

/-- The words the blocks rewrite at RESTART (R170, R171, R185, R194, R197). -/
def restartCells (s : State) : List (Nat × Word) :=
  [(addrMachineState, s.guard.machine.code), (addrFaults, wordN s.port.faults)] ++
  resetRecordCells s.guard.resetRecord ++ clearedNoticeCells s.notice ++ tripCells s.guard.trip ++
  bladeCells s.blade ++ dockCells s.dock ++ checkCells s.recv.check

/-- Start the refresh of all three mirrors (R196). -/
def startAll (s : State) : State := startRefresh .contactList (startRefresh .loopTable (startRefresh .snapshot s))

/-- A taken RESTART (R170). -/
def takeRestart (count : BitVec 8) (s : State) : State :=
  let s1 := blocksAfterRestart count (endForRestart s)
  startAll (s1.putAll (restartCells s1))

/-! ### Arrival and judgement (R189, R190) -/

/-- The owner judges and acts (R190). -/
def askOwner (code : Word) (count : BitVec 8) (s : State) : State :=
  match code.toNat with
  | 1 => askArm count s
  | 2 => askDisarm count s
  | 3 => askClearTrip count s
  | 4 => askPlanStart count s
  | 5 => askPlanStop count s
  | 6 => askSetPose count s
  | 7 => askClearContacts count s
  | 8 => askBladeUnlock count s
  | 9 => askPark count s
  | 10 => askWake count s
  | 11 => askSelfCheck count s
  | 12 => takeRestart count s
  | _ => answerWith code .unknown count s

/-- A SELF_CHECK is the request in hand (R190). -/
def InHand.isCheck : InHand → Bool
  | .selfCheck _ => true
  | .restart _ => false
  | .none => false

/-- The judgement of an arrival (R190). -/
def judgeRequest (code : Word) (count : BitVec 8) (s : State) : State :=
  if s.guard.machine = .start then answerWith code .notReady count s
  else if s.port.inHand.isCheck && decide (code ≠ requestRestart) then answerWith code .busy count s
  else askOwner code count s

/-- Steps 1 to 3 of an arrival: the request word, the count, the captured arguments (R189). -/
def takeArrival (code : Word) (s : State) : State :=
  { s with
    mem := s.mem.write addrRequest code
    port := { s.port with requestCount := s.port.requestCount + 1, args := s.argWords } }

/-- An arrival (R189). -/
def arrival (code : Word) (s : State) : State :=
  let s1 := takeArrival code s
  judgeRequest code s1.port.requestCount s1

/-- The arrival is a RESTART that will be taken: it starts the refreshes of all mirrors itself (R196). -/
def State.restarts (s : State) (code : Word) : Bool :=
  decide (code = requestRestart) && decide (s.guard.machine ≠ .start)

/-- An arrival as an event of the running part. -/
def State.requestEvent (s : State) (code : Word) : State :=
  s.whenRunning (fun a => a.noting (fun b => if b.restarts code then arrival code b else startMirrors false b (arrival code b)))

/-! ### Resets (R24, R169, R171, R187) -/

/-- A reset begins: the part is deaf until its end, and the attention line is deasserted (R169, R199). -/
def beginReset (cause : ResetCause) (s : State) : State :=
  { s with
    resetting := some ⟨cause, s.checking⟩
    notice := { s.notice with line := false } }

/-- A PIN or STROBE that comes while another reset lasts has no further effect (R187; DESIGN CHOICE, log entry 12). -/
def beginUnlessResetting (cause : ResetCause) (s : State) : State :=
  match s.resetting with
  | none => beginReset cause s
  | some _ => s

/-- The reset record at a reset's end (R171). -/
def State.recordAtEnd (s : State) (cause : ResetCause) : ResetRecord :=
  if cause = .power then ⟨.power, false, none, 0⟩ else s.guard.recordAfter cause

/-- The check record at a reset's end (R24). -/
def State.checkAtEnd (s : State) (r : Resetting) : Check :=
  if r.cause = .power then initCheck else s.recv.check.afterPin r.abandoned

/-- The host scratch area at a reset's end (R169, R207). -/
def State.scratchAtEnd (s : State) (cause : ResetCause) : Memory :=
  if cause = .power then [] else scratchOf s.mem

/-- The reset ends (R169): the initial state, with what the reset keeps. -/
def endReset (s : State) : State :=
  match s.resetting with
  | none => s
  | some r =>
    State.initial r.cause (s.recordAtEnd r.cause) s.pins (s.checkAtEnd r) (s.scratchAtEnd r.cause) s.pending

end Sys2Proof.Machine
end

