-- ==== Sys2Proof/Machine/PortCore.lean ====
section
/-! DEFINITION. The Exchange Port's host writes (R41, R188, R189, R192), mirror refreshes (R195, R196) and part-time
words (R194), and the Notice Unit's registers (R200..R202). -/

namespace Sys2Proof.Machine

/-! ### Time -/

/-- The capture time a command brings is the count as it stands (DESIGN CHOICE, log entry 1). -/
def State.atTime (s : State) (t : Capture) : State := { s with timebase := t }

/-- A millisecond begins: the part time, its two header words, the capture count (R2, R194). -/
def tick (s : State) : State :=
  let p := s.partTime + 1
  { s with
    partTime := p
    timebase := timebaseOf p
    mem := s.mem.writeAll [(addrPartTime, loWord p), (addrPartTime + 1, hiWord p)] }

/-- The next single-word write of a mirror's refresh, in rising address order (R195). -/
def writeNext (m : Mirror) (s : State) : State :=
  match (s.port.refresh m).writing with
  | none => s
  | some [] => s
  | some (c :: cs) =>
    { s with
      port := s.port.setRefresh m { s.port.refresh m with writing := some cs }
      mem := s.mem.write c.1 c.2 }

/-- A microsecond in which nothing comes: the capture count runs on (R3; DESIGN CHOICE, log entry 1), and each refresh
that is WRITING writes its next word (R195; the pace is DESIGN CHOICE, log entry 37). -/
def microsecond (s : State) : State :=
  writeNext .contactList (writeNext .loopTable (writeNext .snapshot { s with timebase := s.timebase + 1 }))

/-- The block idles on an empty queue, for a microsecond, unless a reset lasts. -/
def idle (s : State) : State := s.whenRunning microsecond

/-! ### Host writes (R41, R188, R192) -/

/-- A dropped write: counted, written into the header, posted (R188). -/
def dropWrite (a : Nat) (s : State) : State :=
  let n := satAdd 65535 s.port.faults 1
  post (.writeDropped a)
    { s with port := { s.port with faults := n }, mem := s.mem.write addrFaults (wordN n) }

/-- The first word of the slot an address of the slot area falls in (R40). -/
def slotBaseOf (a : Nat) : Nat := a - a % 32

/-- A host write into a slot is taken: the slot is not ACTIVE, and its state word takes only 0 or 1 (R41). -/
def State.slotWriteTaken (s : State) (a : Nat) (v : Word) : Bool :=
  decide (s.word (slotBaseOf a) ≠ slotActive) && (decide (a % 32 ≠ 0) || decide (v.toNat ≤ 1))

/-- A write to the heartbeat word (R165, R192). -/
def heartbeat (v : Word) (s : State) : State :=
  let s1 := s.put addrHeartbeat v
  if s.armed && decide (v ≠ s.word addrHeartbeat) then
    { s1 with guard := { s1.guard with silence := some (s.partTime + BitVec.ofNat 32 s.hostSilence) } }
  else s1

/-- A taken write to a live setting; NOTICE_ENABLE has the line judged (R193, R199). -/
def writeLive (a : Nat) (v : Word) (s : State) : State :=
  if a = addrNoticeEnable then judgeLine (s.put a v) else s.put a v

/-! ### Registers (R200..R202) -/

/-- End service of the highest-ranked source under service (R201). -/
def endService (s : State) : State :=
  match s.notice.serviceSource with
  | none => s
  | some src => setSource src { s.notice.get src with service := false } s

/-- Clear the pending flag and the count of a source (R201). -/
def clearSource (src : Source) (s : State) : State :=
  setSource src { s.notice.get src with pending := false, count := 0 } s

/-- SERVICE with a source number; any other value is ignored (R201). -/
def serviceNumber (v : Word) (s : State) : State :=
  match Source.ofWord v with
  | none => s
  | some src => clearSource src s

/-- A write to SERVICE (R201). -/
def writeService (v : Word) (s : State) : State := if v = 0x0080 then endService s else serviceNumber v s

/-- A write to PORTCTL stores its two bits (R202). -/
def writePortctl (v : Word) (s : State) : State :=
  judgeLine { s with notice := { s.notice with atnEnable := v.getLsbD 0, ackMode := v.getLsbD 1 } }

/-- The acknowledgement of a source: pending clears, under service sets, the count becomes 0 (R200). -/
def acknowledge (src : Source) (s : State) : State :=
  setSource src { s.notice.get src with pending := false, service := true, count := 0 } s

/-- Drive a word on the data lines (R200); the field that holds it is a DESIGN CHOICE, log entry 6. -/
def driveLines (w : Word) (s : State) : State := { s with port := { s.port with dataLines := w } }

/-- The source a read of ATTENTION shows, by ACK_MODE (R200). -/
def State.attentionSource (s : State) : Option Source :=
  if s.notice.ackMode then s.notice.peekSource s.noticeEnable else s.notice.ackSource s.noticeEnable

/-- The word a host read of an address drives on the data lines (R186): the word as it stands, or the register's
(R200..R202); 0 while a reset lasts. -/
def State.hostRead (s : State) (a : Nat) : Word :=
  match s.resetting with
  | some _ => 0
  | none =>
    if a = 0xFFC then attentionWord s.notice s.attentionSource
    else if a = 0xFFD then s.notice.serviceWord
    else if a = 0xFFE then s.notice.portctlWord
    else if a = 0xFFF then Config.identWord
    else s.word a

/-- What a read of ATTENTION does besides: in acknowledge mode the source it shows is acknowledged (R200). -/
def readAttention (s : State) : State :=
  if s.notice.ackMode then s
  else
    match s.attentionSource with
    | none => s
    | some src => acknowledge src s

/-- The effect of a host read of an address on the part: none, but for ATTENTION's (R186, R200). A read while a reset
lasts is not taken (R186). -/
def readEffect (a : Nat) (s : State) : State :=
  match s.resetting with
  | some _ => s
  | none => if a = 0xFFC then readAttention s else s

/-- A host read of an address: the word is driven, and the read's effect follows (R186). -/
def hostReadEvent (a : Nat) (s : State) : State := driveLines (s.hostRead a) (readEffect a s)

/-- A read of ATTENTION; both rows are this read (R200; DESIGN CHOICE, log entry 28). -/
def attentionAccess (s : State) : State := hostReadEvent 0xFFC s

/-- A write to a register (R186, R200..R202); ATTENTION and IDENT ignore it. -/
def writeRegister (a : Nat) (v : Word) (s : State) : State :=
  if a = 0xFFD then writeService v s else if a = 0xFFE then writePortctl v s else s

/-- A host write by the area its address falls in (R188). The request word with a non-zero value is an arrival and is
not taken here. -/
def hostWrite (a : Nat) (v : Word) (s : State) : State :=
  match areaOf a with
  | .header => dropWrite a s
  | .command => if a = addrHeartbeat then heartbeat v s else s.put a v
  | .live => writeLive a v s
  | .staged => s.put a v
  | .applied => dropWrite a s
  | .snapshot => dropWrite a s
  | .loopTable => dropWrite a s
  | .contactList => dropWrite a s
  | .records => dropWrite a s
  | .slots => if s.slotWriteTaken a v then s.put a v else dropWrite a s
  | .scratch => s.put a v
  | .registers => writeRegister a v s

/-- A write of any word at any address: an arrival, or a write by area (R188, R189). -/
def State.hostWriteEvent (s : State) (a : Nat) (v : Word) : State :=
  if a = addrRequest ∧ v ≠ 0 then s.requestEvent v else s.event (hostWrite a v)

/-! ### Mirrors (R195, R196) -/

/-- A refresh ends: the fields still to be written and CLOSE are written, and a noted cause starts the next one (R195,
R196); that it ends within 200 µs is left out (DESIGN CHOICE, log entry 30). -/
def endRefresh (m : Mirror) (s : State) : State :=
  match (s.port.refresh m).writing with
  | none => s
  | some copy =>
    let s1 : State := { s with
      port := s.port.setRefresh m ⟨none, false⟩
      mem := (s.mem.writeAll copy).write (mirrorClose m) (s.word (mirrorOpen m)) }
    if (s.port.refresh m).again then startRefresh m s1 else s1

/-- The snapshot timer expires (R196). -/
def snapshotExpiry (s : State) : State :=
  if due s.partTime s.port.snapTimer then
    startRefresh .snapshot { s with port := { s.port with snapTimer := s.port.snapTimer + s.snapshotPeriod } }
  else s

end Sys2Proof.Machine
end

