-- ==== Sys2Proof/Machine/BladeCommands.lean ====
section
/-! DEFINITION. The commands of the Blade Controller (R118, R119, R127, R131). -/

namespace Sys2Proof.Machine

/-- The blade period timer expires (R119). -/
def bladeExpiry (t : Capture) (s : State) : State := if due s.partTime s.blade.timer then bladePeriod t s else s

/-- BLADE_PERIOD (R119). -/
def execBladePeriod (t : Capture) (s : State) : Host.Outcome State Fault Refusal :=
  .next (s.event (fun a => bladeExpiry t (a.atTime t)))

/-- A Hall pulse (R118). -/
def hallPulse (t : Capture) (s : State) : State := { s with blade := s.blade.pulse t }

/-- HALL_PULSE (R118). -/
def execHallPulse (t : Capture) (s : State) : Host.Outcome State Fault Refusal :=
  .next (s.event (fun a => hallPulse t (a.atTime t)))

/-- The brake timer expires (R131). -/
def brakeExpiry (s : State) : State := if dueOpt s.partTime s.blade.brakeTimer then slowBrake s else s

/-- BRAKE_SLOW (R131). -/
def execBrakeSlow (s : State) : Host.Outcome State Fault Refusal := .next (s.event brakeExpiry)

/-- The wait timer expires: the directive is judged, and the blade retries or is OFF (R127). -/
def waitExpiry (s : State) : State := if dueOpt s.partTime s.blade.waitTimer then offAndJudge s else s

/-- WAIT_TIMER_EXPIRY (R127). -/
def execWaitTimerExpiry (s : State) : Host.Outcome State Fault Refusal := .next (s.event waitExpiry)

end Sys2Proof.Machine
end

