-- ==== Sys2Proof/Machine/Contacts.lean ====
section
/-! DEFINITION. The commands of the Contact Unit (R137..R140). -/

namespace Sys2Proof.Machine

/-- The level of an edge's input after it. -/
def edgeLevel : Edge → Bool
  | .closing => true
  | .opening => false

/-- The level of a bump input. -/
def setBumpPin (i : LR) (e : Edge) (s : State) : State :=
  { s with pins := { s.pins with bump := s.pins.bump.set i (edgeLevel e) } }

/-- Put a debounce state and its timer in force. -/
def setBump (i : LR) (d : Debounce) (t : Option Time) (s : State) : State :=
  { s with contact := { s.contact with bump := s.contact.bump.set i d, bumpTimer := s.contact.bumpTimer.set i t } }

/-- An edge of a bump input (R137). -/
def bumpEdge (i : LR) (e : Edge) (s : State) : State :=
  match e, s.contact.bump.get i with
  | .closing, .opened => setBump i .closing (some (s.partTime + 20)) s
  | .opening, .closing => setBump i .opened none s
  | .opening, .closed => setBump i .opened none s
  | _, _ => s

/-- BUMP_EDGE (R137). -/
def execBumpEdge (i : LR) (e : Edge) (s : State) : Host.Outcome State Fault Refusal :=
  .next ((setBumpPin i e s).event (bumpEdge i e))

/-- The contact source of a bump input. -/
def bumpSource : LR → Sources
  | .left => srcBumpL
  | .right => srcBumpR

/-- The bump debounce timer expires: CLOSED, and a contact while ARMED (R137). -/
def bumpExpiry (i : LR) (s : State) : State :=
  if dueOpt s.partTime (s.contact.bumpTimer.get i) then formArmed (bumpSource i) none (setBump i .closed none s) else s

/-- BUMP_DEBOUNCE_EXPIRY (R137). -/
def execBumpDebounceExpiry (i : LR) (s : State) : Host.Outcome State Fault Refusal := .next (s.event (bumpExpiry i))

/-- The ping timer expires: the sensors alternate (R138). -/
def pingExpiry (s : State) : State :=
  match s.contact.pingTimer with
  | none => s
  | some e =>
    if due s.partTime e then triggerNext { s with contact := { s.contact with pingTimer := some (e + 40) } } else s

/-- PING_TIMER_EXPIRY (R138). -/
def execPingTimerExpiry (s : State) : Host.Outcome State Fault Refusal := .next (s.event pingExpiry)

/-- Put a sonar channel in force. -/
def setSonar (i : LR) (c : Sonar) (s : State) : State :=
  { s with contact := { s.contact with sonar := s.contact.sonar.set i c } }

/-- The trigger pulse ends: the window opens (R139); the pulse's length is left out (DESIGN CHOICE, log entry 30). -/
def triggerEnd (i : LR) (t : Capture) (s : State) : State :=
  if (s.contact.sonar.get i).trigger then
    setSonar i { s.contact.sonar.get i with trigger := false, window := .listen t } s
  else s

/-- TRIGGER_PULSE_END (R139). -/
def execTriggerPulseEnd (i : LR) (t : Capture) (s : State) : Host.Outcome State Fault Refusal :=
  .next (s.event (fun a => triggerEnd i t (a.atTime t)))

/-- The contact source of a sonar sensor. -/
def sonarSource : LR → Sources
  | .left => srcSonarL
  | .right => srcSonarR

/-- The range is close: present and below SONAR_STOP (R140). -/
def State.isClose (s : State) : Option Nat → Bool
  | none => false
  | some r => decide (r < s.plan.applied.sonarStop)

/-- A ping is complete with a range: the window is IDLE and the close count is judged (R139, R140). -/
def completePing (i : LR) (range : Option Nat) (s : State) : State :=
  let c := s.contact.sonar.get i
  let close := s.isClose range
  let first := decide (c.close = 0)
  let s1 := setSonar i { c with window := .idle, range := range, close := if close && first then 1 else 0 } s
  if close && !first && decide (s.activeKind ≠ some .dock) then formArmed (sonarSource i) range s1 else s1

/-- The range of an echo after a time in µs (R139). -/
def echoRange (dt : Nat) : Nat := dt * 343 / 2000

/-- An echo edge (R139). A later edge than 24,000 µs finds the window closed (DESIGN CHOICE, log entry 26). -/
def echoEdge (i : LR) (t : Capture) (s : State) : State :=
  match (s.contact.sonar.get i).window with
  | .idle => s
  | .listen o =>
    if since t o < 1200 then s
    else if since t o ≤ 24000 then completePing i (some (echoRange (since t o))) s
    else completePing i none s

/-- ECHO_EDGE (R139). -/
def execEchoEdge (i : LR) (t : Capture) (s : State) : Host.Outcome State Fault Refusal :=
  .next (s.event (fun a => echoEdge i t (a.atTime t)))

/-- The window closes 24,000 µs after it opened (R139). -/
def listenTimeout (i : LR) (t : Capture) (s : State) : State :=
  match (s.contact.sonar.get i).window with
  | .idle => s
  | .listen o => if 24000 ≤ since t o then completePing i none s else s

/-- LISTEN_TIMEOUT (R139). -/
def execListenTimeout (i : LR) (t : Capture) (s : State) : Host.Outcome State Fault Refusal :=
  .next (s.event (fun a => listenTimeout i t (a.atTime t)))

end Sys2Proof.Machine
end

