-- ==== Sys2Proof/Machine/DockCommands.lean ====
section
/-! DEFINITION. The command of the Dock Unit's sample timer (R173). -/

namespace Sys2Proof.Machine

/-- The sample timer expires (R173). -/
def sampleExpiry (v : Byte) (s : State) : State := if due s.partTime s.dock.timer then contactSample v s else s

/-- CONTACT_SAMPLE (R173). -/
def execContactSample (v : Byte) (s : State) : Host.Outcome State Fault Refusal := .next (s.event (sampleExpiry v))

end Sys2Proof.Machine
end

