-- ==== Sys2Proof/Machine/Drive.lean ====
section
/-! DEFINITION. The commands of the Drive Controller and the Plan Engine's timers (R56, R63, R69, R71). -/

namespace Sys2Proof.Machine

/-- The control period timer expires (R71). -/
def controlExpiry (t : Capture) (pitch roll : Byte) (s : State) : State :=
  if due s.partTime s.drive.timer then controlPeriod t pitch roll s else s

/-- CONTROL_PERIOD (R71). -/
def execControlPeriod (t : Capture) (pitch roll : Byte) (s : State) : Host.Outcome State Fault Refusal :=
  .next (s.event (fun a => controlExpiry t pitch roll (a.atTime t)))

/-- An encoder pulse is accepted: none before, or 200 µs or more after the previous one (R69). -/
def WheelState.accepts (w : WheelState) (t : Capture) : Bool :=
  match w.lastPulse with
  | none => true
  | some lp => decide (200 ≤ since t lp)

/-- The period after an accepted pulse (R69), also when it is above 250,000 µs (DESIGN CHOICE, log entry 36). -/
def WheelState.nextPeriod (w : WheelState) (t : Capture) : Option Nat :=
  match w.lastPulse with
  | none => none
  | some lp => some (since t lp)

/-- An encoder pulse (R69). -/
def WheelState.pulse (w : WheelState) (t : Capture) : WheelState :=
  if w.accepts t then
    { w with
      lastPulse := some t
      period := w.nextPeriod t
      count := clampI (-255) 255 (if w.forward then w.count + 1 else w.count - 1) }
  else w

/-- A pulse of a wheel's encoder. -/
def encoderPulse (i : LR) (t : Capture) (s : State) : State :=
  { s with drive := { s.drive with wheels := s.drive.wheels.set i ((s.drive.wheels.get i).pulse t) } }

/-- ENCODER_PULSE (R69). -/
def execEncoderPulse (i : LR) (t : Capture) (s : State) : Host.Outcome State Fault Refusal :=
  .next (s.event (fun a => encoderPulse i t (a.atTime t)))

/-- The waiting-check timer expires (R45, R56). -/
def waitingCheck (s : State) : State :=
  match s.plan.waitTimer, s.plan.waiting with
  | some e, some h =>
    if due s.partTime e then
      if s.slotState h = slotQueued ∨ s.armed = false then activate h s
      else { s with plan := { s.plan with waitTimer := some (e + 10) } }
    else s
  | _, _ => s

/-- WAITING_CHECK (R56). -/
def execWaitingCheck (s : State) : Host.Outcome State Fault Refusal := .next (s.event waitingCheck)

/-- The hold timer expires: the standing directive becomes OFF (R63). -/
def holdExpiry (s : State) : State :=
  if dueOpt s.partTime s.plan.holdTimer then handStanding .off { s with plan := { s.plan with holdTimer := none } }
  else s

/-- HOLD_TIMER_EXPIRY (R63). -/
def execHoldTimerExpiry (s : State) : Host.Outcome State Fault Refusal := .next (s.event holdExpiry)

end Sys2Proof.Machine
end

