-- ==== Sys2Proof/Machine/GuardCommands.lean ====
section
/-! DEFINITION. The commands of the Guard (R162, R163, R165). -/

namespace Sys2Proof.Machine

/-- The level of a lift input. -/
def setLiftPin (i : LR) (e : Edge) (s : State) : State :=
  { s with pins := { s.pins with lift := s.pins.lift.set i (edgeLevel e) } }

/-- Put a lift debounce state and its timer in force. -/
def setLift (i : LR) (d : Debounce) (t : Option Time) (s : State) : State :=
  { s with guard := { s.guard with lift := s.guard.lift.set i d, liftTimer := s.guard.liftTimer.set i t } }

/-- An edge of a lift input (R162). -/
def liftEdge (i : LR) (e : Edge) (s : State) : State :=
  match e, s.guard.lift.get i with
  | .closing, .opened => setLift i .closing (some (s.partTime + 100)) s
  | .opening, .closing => setLift i .opened none s
  | .opening, .closed => setLift i .opened none s
  | _, _ => s

/-- LIFT_EDGE (R162). -/
def execLiftEdge (i : LR) (e : Edge) (s : State) : Host.Outcome State Fault Refusal :=
  .next ((setLiftPin i e s).event (liftEdge i e))

/-- The lift debounce timer expires: CLOSED, and LIFT is found (R162). -/
def liftExpiry (i : LR) (s : State) : State :=
  if dueOpt s.partTime (s.guard.liftTimer.get i) then find .lift (setLift i .closed none s) else s

/-- LIFT_DEBOUNCE_EXPIRY (R162). -/
def execLiftDebounceExpiry (i : LR) (s : State) : Host.Outcome State Fault Refusal := .next (s.event (liftExpiry i))

/-- The level of the stop key. -/
def setStopPin (e : Edge) (s : State) : State := { s with pins := { s.pins with stopKey := (edgeLevel e) } }

/-- An edge of the stop key: its closing finds STOP_KEY (R162). -/
def stopEdge (e : Edge) (s : State) : State :=
  match e with
  | .closing => find .stopKey s
  | .opening => s

/-- STOP_KEY_EDGE (R162). -/
def execStopKeyEdge (e : Edge) (s : State) : Host.Outcome State Fault Refusal :=
  .next ((setStopPin e s).event (stopEdge e))

/-- The no-signal timer expires (R163). -/
def noSignalExpiry (s : State) : State :=
  if dueOpt s.partTime s.guard.noSignal then find .noSignal { s with guard := { s.guard with noSignal := none } } else s

/-- NO_SIGNAL_TIMER_EXPIRY (R163). -/
def execNoSignalTimerExpiry (s : State) : Host.Outcome State Fault Refusal := .next (s.event noSignalExpiry)

/-- The silence timer expires (R165). -/
def silenceExpiry (s : State) : State :=
  if dueOpt s.partTime s.guard.silence then find .hostSilent { s with guard := { s.guard with silence := none } } else s

/-- SILENCE_TIMER_EXPIRY (R165). -/
def execSilenceTimerExpiry (s : State) : Host.Outcome State Fault Refusal := .next (s.event silenceExpiry)

end Sys2Proof.Machine
end

