-- ==== Sys2Proof/Machine/Port.lean ====
section
/-! DEFINITION. The port's commands: host writes, the mirrors, the part time (R186, R188, R192, R194..R196). -/

namespace Sys2Proof.Machine

/-- HEARTBEAT_WRITE (R192). -/
def execHeartbeatWrite (v : Word) (s : State) : Host.Outcome State Fault Refusal := .next (s.event (heartbeat v))

/-- HOST_WRITE (R188). -/
def execHostWrite (a : BitVec 12) (v : Word) (s : State) : Host.Outcome State Fault Refusal :=
  .next (s.hostWriteEvent a.toNat v)

/-- SNAPSHOT_TIMER_EXPIRY (R196). -/
def execSnapshotTimerExpiry (s : State) : Host.Outcome State Fault Refusal := .next (s.whenRunning snapshotExpiry)

/-- REFRESH_END (R195). -/
def execRefreshEnd (m : Mirror) (s : State) : Host.Outcome State Fault Refusal := .next (s.whenRunning (endRefresh m))

/-- PART_TIME_TICK (R194). -/
def execPartTimeTick (s : State) : Host.Outcome State Fault Refusal := .next (s.whenRunning tick)

end Sys2Proof.Machine
end

