-- ==== Sys2Proof/Machine/Registers.lean ====
section
/-! DEFINITION. The commands of the Notice Unit's registers (R200..R202). -/

namespace Sys2Proof.Machine

/-- ATTENTION_ACK: a read of ATTENTION (R200). The mode is PORTCTL's: in peek mode the read peeks. -/
def execAttentionAck (s : State) : Host.Outcome State Fault Refusal := .next (attentionAccess s)

/-- ATTENTION_PEEK: a read of ATTENTION (R200). The mode is PORTCTL's: in acknowledge mode the read acknowledges. -/
def execAttentionPeek (s : State) : Host.Outcome State Fault Refusal := .next (attentionAccess s)

/-- SERVICE_END (R201). -/
def execServiceEnd (s : State) : Host.Outcome State Fault Refusal := .next (s.event endService)

/-- SERVICE_CLEAR (R201). -/
def execServiceClear (source : Word) (s : State) : Host.Outcome State Fault Refusal :=
  .next (s.event (serviceNumber source))

/-- PORTCTL_WRITE (R202). -/
def execPortctlWrite (v : Word) (s : State) : Host.Outcome State Fault Refusal := .next (s.event (writePortctl v))

end Sys2Proof.Machine
end

