-- ==== Sys2Proof/Machine/Requests.lean ====
section
/-! DEFINITION. The requests: each row is the arrival of its code (R189, R190, R205). -/

namespace Sys2Proof.Machine

/-- ARM (R158, R159). -/
def execArm (s : State) : Host.Outcome State Fault Refusal := .next (s.requestEvent 1)

/-- DISARM (R161). -/
def execDisarm (s : State) : Host.Outcome State Fault Refusal := .next (s.requestEvent 2)

/-- CLEAR_TRIP (R168). -/
def execClearTrip (s : State) : Host.Outcome State Fault Refusal := .next (s.requestEvent 3)

/-- PLAN_START (R58). -/
def execPlanStart (s : State) : Host.Outcome State Fault Refusal := .next (s.requestEvent 4)

/-- PLAN_STOP (R60). -/
def execPlanStop (s : State) : Host.Outcome State Fault Refusal := .next (s.requestEvent 5)

/-- SET_POSE (R77). -/
def execSetPose (s : State) : Host.Outcome State Fault Refusal := .next (s.requestEvent 6)

/-- CLEAR_CONTACTS (R146). -/
def execClearContacts (s : State) : Host.Outcome State Fault Refusal := .next (s.requestEvent 7)

/-- BLADE_UNLOCK (R129). -/
def execBladeUnlock (s : State) : Host.Outcome State Fault Refusal := .next (s.requestEvent 8)

/-- PARK (R182). -/
def execPark (s : State) : Host.Outcome State Fault Refusal := .next (s.requestEvent 9)

/-- WAKE (R183). -/
def execWake (s : State) : Host.Outcome State Fault Refusal := .next (s.requestEvent 10)

/-- SELF_CHECK (R21). -/
def execSelfCheck (s : State) : Host.Outcome State Fault Refusal := .next (s.requestEvent requestSelfCheck)

/-- RESTART (R170). -/
def execRestart (s : State) : Host.Outcome State Fault Refusal := .next (s.requestEvent requestRestart)

/-- UNKNOWN_REQUEST (R190). Code 0 is no arrival: it is stored (R189); one of the twelve acts as its own row. -/
def execUnknownRequest (code : Word) (s : State) : Host.Outcome State Fault Refusal :=
  .next (s.hostWriteEvent addrRequest code)

end Sys2Proof.Machine
end

