-- ==== Sys2Proof/Machine/Resets.lean ====
section
/-! DEFINITION. The commands POWER, PIN, STROBE and RESET_END (R169, R171, R187). -/

namespace Sys2Proof.Machine

/-- POWER: power-on begins a POWER reset, whatever lasts (R169). -/
def execPower (s : State) : Host.Outcome State Fault Refusal := .next (beginReset .power s)

/-- PIN: the reset pin is asserted (R169). -/
def execPin (s : State) : Host.Outcome State Fault Refusal := .next (beginUnlessResetting .pin s)

/-- STROBE: a strobe collision (R187). -/
def execStrobe (s : State) : Host.Outcome State Fault Refusal := .next (beginUnlessResetting .strobe s)

/-- RESET_END: the reset that lasts ends (R169). -/
def execResetEnd (s : State) : Host.Outcome State Fault Refusal := .next (endReset s)

end Sys2Proof.Machine
end

