-- ==== Sys2Proof/Machine/Wire.lean ====
section
/-! DEFINITION. The commands of the Wire Receiver and the Loop Table (R4..R9, R14, R22, R23, R29). -/

namespace Sys2Proof.Machine

/-- COMPARATOR_LEADING_EDGE (R4, R5, R8). -/
def execComparatorLeadingEdge (i : Coil) (t : Capture) (s : State) : Host.Outcome State Fault Refusal :=
  .next (s.event (fun a => leadingAt i t (a.atTime t)))

/-- COMPARATOR_TRAILING_EDGE (R4, R5, R9). -/
def execComparatorTrailingEdge (i : Coil) (t : Capture) (peak : Byte) (s : State) :
    Host.Outcome State Fault Refusal :=
  .next (s.event (fun a => trailingAt i t peak (a.atTime t)))

/-- POLARITY_SAMPLE (R5). -/
def execPolaritySample (i : Coil) (t : Capture) (level : Level) (s : State) : Host.Outcome State Fault Refusal :=
  .next (s.event (fun a => setChannel i ((a.recv.channels.get i).samplePoint t (a.heardLevel t level)) (a.atTime t)))

/-- The over-length time of a channel's open pulse has come (R5). -/
def Channel.overLong (c : Channel) (t : Capture) : Bool :=
  match c.pulse with
  | .opened leading _ => due t (leading + 231)
  | .none => false
  | .lost => false

/-- OVER_LENGTH_EXPIRY (R5). -/
def overLengthAt (i : Coil) (t : Capture) (s : State) : State :=
  if (s.recv.channels.get i).overLong t then takeDecoded i (s.recv.channels.get i).takeOverLength s else s

/-- OVER_LENGTH_EXPIRY (R5). -/
def execOverLengthExpiry (i : Coil) (t : Capture) (s : State) : Host.Outcome State Fault Refusal :=
  .next (s.event (fun a => overLengthAt i t (a.atTime t)))

/-- SWITCHING_EDGE (R7). -/
def execSwitchingEdge (o : PwmOutput) (t : Capture) (s : State) : Host.Outcome State Fault Refusal :=
  .next (s.event (fun a => switchingAt o t (a.atTime t)))

/-- BLANKING_END (R9). -/
def execBlankingEnd (t : Capture) (s : State) : Host.Outcome State Fault Refusal :=
  .next (s.event (fun a => settleInterval t (a.atTime t)))

/-- GAP_TIMER_EXPIRY (R14). -/
def execGapTimerExpiry (i : Coil) (t : Capture) (s : State) : Host.Outcome State Fault Refusal :=
  .next (s.event (fun a => setChannel i ((a.recv.channels.get i).gapEnd t) (a.atTime t)))

/-- The next interval of a check begins, once its time has come: the internal source is set to send its frame 5 ms on,
whose edges then reach all three channels (R22; DEDUCED, log entries 9 and 38). -/
def beginInterval (s : State) : State :=
  if s.checking && decide (s.recv.check.begun < 8) &&
      decide (25 * s.recv.check.begun ≤ since s.partTime s.recv.check.start) then
    { s with recv := { s.recv with check := { s.recv.check with begun := s.recv.check.begun + 1 } } }
  else s

/-- CHECK_INTERVAL (R22). -/
def execCheckInterval (s : State) : Host.Outcome State Fault Refusal := .next (s.event beginInterval)

/-- The check ends once 200 ms have passed since its start (R23). -/
def checkEnd (s : State) : State :=
  if s.checking && decide (200 ≤ since s.partTime s.recv.check.start) then finishCheck s else s

/-- CHECK_END (R23). -/
def execCheckEnd (s : State) : Host.Outcome State Fault Refusal := .next (s.event checkEnd)

/-- The period of the next presence window (R29). -/
def State.windowPeriod (s : State) : Time := if s.parked then 2000 else 500

/-- The REAR sub-record of loop 0 entering LOST while PARKED is the station-silent wake (R35, R183). -/
def stationSilent (before after : State) : Bool :=
  before.parked && decide (before.loops.recs.l0.coils.rear.state ≠ .lost) &&
    decide (after.loops.recs.l0.coils.rear.state = .lost)

/-- A judged window (R28..R32, R34, R35, R157, R183). -/
def judgedWindow (s : State) : State :=
  let s1 := publishNear (publishClass (testWatch (recomputeLoops (judgeWindows s))))
  noteWindow (if stationSilent s s1 then wakeUp .stationSilent s1 else s1)

/-- The window timer expires (R29). -/
def windowExpiry (s : State) : State :=
  let s1 : State := { s with loops := { s.loops with windowTimer := s.loops.windowTimer + s.windowPeriod } }
  if s.loops.checkFlag then clearWindows s1
  else if s.loops.spoiled then clearWindows { s1 with loops := { s1.loops with spoiled := false } }
  else judgedWindow s1

/-- The expiry, with the refresh that every window expiry starts (R38). -/
def windowEvent (s : State) : State :=
  if due s.partTime s.loops.windowTimer then startMirrors true s (windowExpiry s) else s

/-- WINDOW_EXPIRY (R29). -/
def execWindowExpiry (s : State) : Host.Outcome State Fault Refusal :=
  .next (s.whenRunning (fun a => a.noting windowEvent))

end Sys2Proof.Machine
end

