-- ==== Sys2Proof/Machine/Dispatch.lean ====
section
/-! DEFINITION. One arm per command. -/

namespace Sys2Proof.Machine

/-- The effect of a command on everything but the queue. -/
def exec (i : Instr) (s : State) : Host.Outcome State Fault Refusal :=
  match i with
  | .power => Sys2Proof.Machine.execPower s
  | .pin => Sys2Proof.Machine.execPin s
  | .strobe => Sys2Proof.Machine.execStrobe s
  | .resetEnd => Sys2Proof.Machine.execResetEnd s
  | .comparatorLeadingEdge coil t => Sys2Proof.Machine.execComparatorLeadingEdge coil t s
  | .comparatorTrailingEdge coil t peak => Sys2Proof.Machine.execComparatorTrailingEdge coil t peak s
  | .polaritySample coil t level => Sys2Proof.Machine.execPolaritySample coil t level s
  | .overLengthExpiry coil t => Sys2Proof.Machine.execOverLengthExpiry coil t s
  | .switchingEdge output t => Sys2Proof.Machine.execSwitchingEdge output t s
  | .blankingEnd t => Sys2Proof.Machine.execBlankingEnd t s
  | .gapTimerExpiry coil t => Sys2Proof.Machine.execGapTimerExpiry coil t s
  | .checkInterval => Sys2Proof.Machine.execCheckInterval s
  | .checkEnd => Sys2Proof.Machine.execCheckEnd s
  | .windowExpiry => Sys2Proof.Machine.execWindowExpiry s
  | .controlPeriod t pitch roll => Sys2Proof.Machine.execControlPeriod t pitch roll s
  | .encoderPulse wheel t => Sys2Proof.Machine.execEncoderPulse wheel t s
  | .waitingCheck => Sys2Proof.Machine.execWaitingCheck s
  | .holdTimerExpiry => Sys2Proof.Machine.execHoldTimerExpiry s
  | .bladePeriod t => Sys2Proof.Machine.execBladePeriod t s
  | .hallPulse t => Sys2Proof.Machine.execHallPulse t s
  | .brakeSlow => Sys2Proof.Machine.execBrakeSlow s
  | .waitTimerExpiry => Sys2Proof.Machine.execWaitTimerExpiry s
  | .bumpEdge side edge => Sys2Proof.Machine.execBumpEdge side edge s
  | .bumpDebounceExpiry side => Sys2Proof.Machine.execBumpDebounceExpiry side s
  | .pingTimerExpiry => Sys2Proof.Machine.execPingTimerExpiry s
  | .echoEdge sensor t => Sys2Proof.Machine.execEchoEdge sensor t s
  | .listenTimeout sensor t => Sys2Proof.Machine.execListenTimeout sensor t s
  | .liftEdge input edge => Sys2Proof.Machine.execLiftEdge input edge s
  | .liftDebounceExpiry input => Sys2Proof.Machine.execLiftDebounceExpiry input s
  | .stopKeyEdge edge => Sys2Proof.Machine.execStopKeyEdge edge s
  | .noSignalTimerExpiry => Sys2Proof.Machine.execNoSignalTimerExpiry s
  | .silenceTimerExpiry => Sys2Proof.Machine.execSilenceTimerExpiry s
  | .contactSample voltage => Sys2Proof.Machine.execContactSample voltage s
  | .arm => Sys2Proof.Machine.execArm s
  | .disarm => Sys2Proof.Machine.execDisarm s
  | .clearTrip => Sys2Proof.Machine.execClearTrip s
  | .planStart => Sys2Proof.Machine.execPlanStart s
  | .planStop => Sys2Proof.Machine.execPlanStop s
  | .setPose => Sys2Proof.Machine.execSetPose s
  | .clearContacts => Sys2Proof.Machine.execClearContacts s
  | .bladeUnlock => Sys2Proof.Machine.execBladeUnlock s
  | .park => Sys2Proof.Machine.execPark s
  | .wake => Sys2Proof.Machine.execWake s
  | .selfCheck => Sys2Proof.Machine.execSelfCheck s
  | .restart => Sys2Proof.Machine.execRestart s
  | .unknownRequest code => Sys2Proof.Machine.execUnknownRequest code s
  | .heartbeatWrite value => Sys2Proof.Machine.execHeartbeatWrite value s
  | .hostWrite addr value => Sys2Proof.Machine.execHostWrite addr value s
  | .attentionAck => Sys2Proof.Machine.execAttentionAck s
  | .attentionPeek => Sys2Proof.Machine.execAttentionPeek s
  | .serviceEnd => Sys2Proof.Machine.execServiceEnd s
  | .serviceClear source => Sys2Proof.Machine.execServiceClear source s
  | .portctlWrite value => Sys2Proof.Machine.execPortctlWrite value s
  | .snapshotTimerExpiry => Sys2Proof.Machine.execSnapshotTimerExpiry s
  | .refreshEnd mirror => Sys2Proof.Machine.execRefreshEnd mirror s
  | .partTimeTick => Sys2Proof.Machine.execPartTimeTick s
  | .triggerPulseEnd sensor t => Sys2Proof.Machine.execTriggerPulseEnd sensor t s

end Sys2Proof.Machine
end

