-- ==== Sys2Proof/WellFormed.lean ====
section
/-! DEFINITION. Which terms stand for a command of the table: an operand the row's own words exclude makes
the term ill-formed. `exec` is total all the same: an ill-formed host write acts as the row it belongs to. -/

namespace Sys2Proof

/-- UNKNOWN_REQUEST carries a code that is neither 0 (no request, R189) nor one of the twelve (R205). -/
def unknownCodeOk (code : Word) : Bool := decide (12 < code.toNat)

/-- HOST_WRITE goes to a word with no row of its own: not the heartbeat word, not a request code, not
PORTCTL, and not one of the SERVICE commands. -/
def hostWriteOk (addr : BitVec 12) (value : Word) : Bool :=
  addr != 0x040 && !(addr == 0x041 && value != 0) && addr != 0xFFE &&
    !(addr == 0xFFD && (value == 0x0080 || decide (value.toNat ≤ 6)))

/-- SERVICE_CLEAR names one of the seven sources (R201). -/
def serviceSourceOk (source : Word) : Bool := decide (source.toNat ≤ 6)

/-- Every check on the operands of a command; a row without one admits every value of its type. -/
def Instr.wellFormed : Instr → Bool
  | .unknownRequest code => unknownCodeOk code
  | .hostWrite addr value => hostWriteOk addr value
  | .serviceClear source => serviceSourceOk source
  | .power | .pin | .strobe | .resetEnd | .comparatorLeadingEdge _ _ | .comparatorTrailingEdge _ _ _
  | .polaritySample _ _ _ | .overLengthExpiry _ _ | .switchingEdge _ _ | .blankingEnd _
  | .gapTimerExpiry _ _ | .checkInterval | .checkEnd | .windowExpiry | .controlPeriod _ _ _
  | .encoderPulse _ _ | .waitingCheck | .holdTimerExpiry | .bladePeriod _ | .hallPulse _ | .brakeSlow
  | .waitTimerExpiry | .bumpEdge _ _ | .bumpDebounceExpiry _ | .pingTimerExpiry | .echoEdge _ _
  | .listenTimeout _ _ | .liftEdge _ _ | .liftDebounceExpiry _ | .stopKeyEdge _ | .noSignalTimerExpiry
  | .silenceTimerExpiry | .contactSample _ | .arm | .disarm | .clearTrip | .planStart | .planStop
  | .setPose | .clearContacts | .bladeUnlock | .park | .wake | .selfCheck | .restart | .heartbeatWrite _
  | .attentionAck | .attentionPeek | .serviceEnd | .portctlWrite _ | .snapshotTimerExpiry | .refreshEnd _
  | .partTimeTick | .triggerPulseEnd _ _ => true

end Sys2Proof
end

