-- ==== Sys2Proof/Laws/PerInstr.lean ====
section
/-! SUPPORT. One lemma per command: the write a well-formed row is reads back as that row. -/

namespace Sys2Proof.Laws.HostWriteRow

/-- The write a well-formed row is, if it is one, reads back as that row. -/
def Statement (i : Instr) : Prop :=
  ∀ (a : BitVec 12) (v : Word), i.wellFormed = true → writeOfRow i = some (a, v) → rowOfWrite a v = i

theorem power : Statement .power := by
  rintro a v - hv
  cases hv

theorem pin : Statement .pin := by
  rintro a v - hv
  cases hv

theorem strobe : Statement .strobe := by
  rintro a v - hv
  cases hv

theorem resetEnd : Statement .resetEnd := by
  rintro a v - hv
  cases hv

theorem comparatorLeadingEdge (coil : Coil) (t : Capture) : Statement (.comparatorLeadingEdge coil t) := by
  rintro a v - hv
  cases hv

theorem comparatorTrailingEdge (coil : Coil) (t : Capture) (peak : Byte) : Statement (.comparatorTrailingEdge coil t peak) := by
  rintro a v - hv
  cases hv

theorem polaritySample (coil : Coil) (t : Capture) (level : Level) : Statement (.polaritySample coil t level) := by
  rintro a v - hv
  cases hv

theorem overLengthExpiry (coil : Coil) (t : Capture) : Statement (.overLengthExpiry coil t) := by
  rintro a v - hv
  cases hv

theorem switchingEdge (output : PwmOutput) (t : Capture) : Statement (.switchingEdge output t) := by
  rintro a v - hv
  cases hv

theorem blankingEnd (t : Capture) : Statement (.blankingEnd t) := by
  rintro a v - hv
  cases hv

theorem gapTimerExpiry (coil : Coil) (t : Capture) : Statement (.gapTimerExpiry coil t) := by
  rintro a v - hv
  cases hv

theorem checkInterval : Statement .checkInterval := by
  rintro a v - hv
  cases hv

theorem checkEnd : Statement .checkEnd := by
  rintro a v - hv
  cases hv

theorem windowExpiry : Statement .windowExpiry := by
  rintro a v - hv
  cases hv

theorem controlPeriod (t : Capture) (pitch roll : Byte) : Statement (.controlPeriod t pitch roll) := by
  rintro a v - hv
  cases hv

theorem encoderPulse (wheel : LR) (t : Capture) : Statement (.encoderPulse wheel t) := by
  rintro a v - hv
  cases hv

theorem waitingCheck : Statement .waitingCheck := by
  rintro a v - hv
  cases hv

theorem holdTimerExpiry : Statement .holdTimerExpiry := by
  rintro a v - hv
  cases hv

theorem bladePeriod (t : Capture) : Statement (.bladePeriod t) := by
  rintro a v - hv
  cases hv

theorem hallPulse (t : Capture) : Statement (.hallPulse t) := by
  rintro a v - hv
  cases hv

theorem brakeSlow : Statement .brakeSlow := by
  rintro a v - hv
  cases hv

theorem waitTimerExpiry : Statement .waitTimerExpiry := by
  rintro a v - hv
  cases hv

theorem bumpEdge (side : LR) (edge : Edge) : Statement (.bumpEdge side edge) := by
  rintro a v - hv
  cases hv

theorem bumpDebounceExpiry (side : LR) : Statement (.bumpDebounceExpiry side) := by
  rintro a v - hv
  cases hv

theorem pingTimerExpiry : Statement .pingTimerExpiry := by
  rintro a v - hv
  cases hv

theorem echoEdge (sensor : LR) (t : Capture) : Statement (.echoEdge sensor t) := by
  rintro a v - hv
  cases hv

theorem listenTimeout (sensor : LR) (t : Capture) : Statement (.listenTimeout sensor t) := by
  rintro a v - hv
  cases hv

theorem liftEdge (input : LR) (edge : Edge) : Statement (.liftEdge input edge) := by
  rintro a v - hv
  cases hv

theorem liftDebounceExpiry (input : LR) : Statement (.liftDebounceExpiry input) := by
  rintro a v - hv
  cases hv

theorem stopKeyEdge (edge : Edge) : Statement (.stopKeyEdge edge) := by
  rintro a v - hv
  cases hv

theorem noSignalTimerExpiry : Statement .noSignalTimerExpiry := by
  rintro a v - hv
  cases hv

theorem silenceTimerExpiry : Statement .silenceTimerExpiry := by
  rintro a v - hv
  cases hv

theorem contactSample (voltage : Byte) : Statement (.contactSample voltage) := by
  rintro a v - hv
  cases hv

theorem arm : Statement .arm := by
  rintro a v - hv
  cases hv
  rfl

theorem disarm : Statement .disarm := by
  rintro a v - hv
  cases hv
  rfl

theorem clearTrip : Statement .clearTrip := by
  rintro a v - hv
  cases hv
  rfl

theorem planStart : Statement .planStart := by
  rintro a v - hv
  cases hv
  rfl

theorem planStop : Statement .planStop := by
  rintro a v - hv
  cases hv
  rfl

theorem setPose : Statement .setPose := by
  rintro a v - hv
  cases hv
  rfl

theorem clearContacts : Statement .clearContacts := by
  rintro a v - hv
  cases hv
  rfl

theorem bladeUnlock : Statement .bladeUnlock := by
  rintro a v - hv
  cases hv
  rfl

theorem park : Statement .park := by
  rintro a v - hv
  cases hv
  rfl

theorem wake : Statement .wake := by
  rintro a v - hv
  cases hv
  rfl

theorem selfCheck : Statement .selfCheck := by
  rintro a v - hv
  cases hv
  rfl

theorem restart : Statement .restart := by
  rintro a v - hv
  cases hv
  rfl

theorem unknownRequest (code : Word) : Statement (.unknownRequest code) := by
  rintro a v hw hv
  cases hv
  simp only [Instr.wellFormed, unknownCodeOk, decide_eq_true_eq] at hw
  have h0 : code ≠ 0 := by rintro rfl; simp at hw
  have hr : requestRow code = .unknownRequest code := by
    unfold requestRow
    split <;> first | rfl | omega
  unfold rowOfWrite
  rw [if_neg (by decide), if_pos rfl, if_neg h0, hr]

theorem heartbeatWrite (value : Word) : Statement (.heartbeatWrite value) := by
  rintro a v - hv
  cases hv
  rfl

theorem hostWrite (addr : BitVec 12) (value : Word) : Statement (.hostWrite addr value) := by
  rintro a v hw hv
  cases hv
  simp only [Instr.wellFormed, hostWriteOk, Bool.and_eq_true, bne_iff_ne, ne_eq, Bool.not_eq_true',
    Bool.and_eq_false_imp, beq_iff_eq, Bool.or_eq_false_iff, decide_eq_false_iff_not] at hw
  obtain ⟨⟨⟨h1, h2⟩, h3⟩, h4⟩ := hw
  unfold rowOfWrite serviceRow
  split
  · exact absurd ‹_› h1
  · split
    · rename_i ha
      have := h2 ha
      simp only [bne_eq_false_iff_eq] at this
      simp [this]
    · split
      · rename_i ha
        obtain ⟨h5, h6⟩ := h4 ha
        simp only [beq_eq_false_iff_ne] at h5
        rw [if_neg h5, if_neg h6, ha]
      · rfl

theorem attentionAck : Statement .attentionAck := by
  rintro a v - hv
  cases hv

theorem attentionPeek : Statement .attentionPeek := by
  rintro a v - hv
  cases hv

theorem serviceEnd : Statement .serviceEnd := by
  rintro a v - hv
  cases hv
  rfl

theorem serviceClear (source : Word) : Statement (.serviceClear source) := by
  rintro a v hw hv
  cases hv
  simp only [Instr.wellFormed, serviceSourceOk, decide_eq_true_eq] at hw
  have h0 : source ≠ 0x0080 := by rintro rfl; simp at hw
  unfold rowOfWrite serviceRow
  rw [if_neg (by decide), if_neg (by decide), if_pos rfl, if_neg h0, if_pos hw]

theorem portctlWrite (value : Word) : Statement (.portctlWrite value) := by
  rintro a v - hv
  cases hv
  rfl

theorem snapshotTimerExpiry : Statement .snapshotTimerExpiry := by
  rintro a v - hv
  cases hv

theorem refreshEnd (mirror : Mirror) : Statement (.refreshEnd mirror) := by
  rintro a v - hv
  cases hv

theorem partTimeTick : Statement .partTimeTick := by
  rintro a v - hv
  cases hv

theorem triggerPulseEnd (sensor : LR) (t : Capture) : Statement (.triggerPulseEnd sensor t) := by
  rintro a v - hv
  cases hv

end Sys2Proof.Laws.HostWriteRow
end

