-- ==== Sys2Proof/Safety.lean ====
section
/-! DEFINITION. What a safe part is, in the terms the claims use: the laws of the device that the spec states (R25,
R43, R44, R64, R72, R106, R121, R144, R162, R167, R199) and the canonical form of the exchange memory, each as a
property of one state, or of two states one step apart. -/

namespace Sys2Proof.Safety

open Sys2Proof.Machine

/-- The exchange memory is in its canonical form (log entry 8). -/
def MemoryCanonical (s : State) : Prop := s.mem.wf = true

/-- R25: a coil sub-record whose coil state is LOST has side UNKNOWN, agree count 0 and amplitude 0. -/
def LostSubRecord (r : SubRecord) : Prop := r.state = .lost → r.side = .unknown ∧ r.agree = 0 ∧ r.amplitude = 0

/-- R25, for all twelve sub-records. -/
def LostLaw (s : State) : Prop := ∀ (n : Loop) (c : Coil), LostSubRecord ((s.loops.recs.get n).coils.get c)

/-- R44: the plan state is IDLE, and no segment is active, whenever the machine state is other than ARMED. -/
def PlanLaw (s : State) : Prop := s.guard.machine ≠ .armed → s.plan.state = .idle ∧ s.plan.active = none

/-- R72: each wheel target lies within −800..+800 mm/s, and both are zero whenever the machine state is not ARMED or
the speed cap in force is zero. -/
def TargetLaw (s : State) : Prop :=
  (∀ i : LR, -800 ≤ (s.drive.wheels.get i).target ∧ (s.drive.wheels.get i).target ≤ 800) ∧
    (s.guard.machine ≠ .armed ∨ s.gov.cap = 0 → ∀ i : LR, (s.drive.wheels.get i).target = 0)

/-- R106: the speed cap is the least value among the present contributors and lies within 0..800 mm/s; the limiting
contributor is the first in table order that holds it. -/
def CapLaw (s : State) : Prop :=
  s.gov.cap ≤ 800 ∧ (s.gov.limiting, some s.gov.cap) ∈ s.gov.table.toList ∧
    (∀ p ∈ s.gov.table.toList, ∀ v, p.2 = some v → s.gov.cap ≤ v) ∧
    ∀ p ∈ s.gov.table.toList, p.2 = some s.gov.cap → (Contributor.code s.gov.limiting).toNat ≤ (Contributor.code p.1).toNat

/-- The blade state is SPINUP or CUTTING. -/
def Driven (b : BladeState) : Prop := b = .spinup ∨ b = .cutting

/-- R121: blade duty is above zero only while the machine is ARMED and the blade state is SPINUP or CUTTING, and the
brake output and a duty above 0 are not on together. SPINUP and CUTTING are themselves held only while ARMED, with the
brake off. -/
def BladeLaw (s : State) : Prop :=
  (0 < s.blade.duty → Driven s.blade.state) ∧
    (Driven s.blade.state → s.guard.machine = .armed ∧ s.blade.brake = false)

/-- R144: the contact list holds at most 8 entries, and every entry with a sonar source carries a range. -/
def ContactLaw (s : State) : Prop :=
  s.contact.list.length ≤ 8 ∧ ∀ e ∈ s.contact.list, e.sources &&& sonarSources ≠ 0 → e.range.isSome = true

/-- R64, R65: every applied setting lies within its stated range. -/
def SettingsLaw (s : State) : Prop :=
  let a := s.plan.applied
  (∀ n : Loop, a.loopMap.get n ≤ 15) ∧ (a.blank = 0 ∨ a.blank = 4 ∨ a.blank = 8 ∨ a.blank = 16) ∧
    a.ampMin ≤ 200 ∧ (10 ≤ a.weakLimit ∧ a.weakLimit ≤ 500) ∧ a.kp ≤ 255 ∧ a.kd ≤ 255 ∧ a.dMax ≤ 400 ∧
    a.kh ≤ 1024 ∧ (200 ≤ a.trackWidth ∧ a.trackWidth ≤ 800) ∧ (256 ≤ a.mmPer256 ∧ a.mmPer256 ≤ 4096) ∧
    a.kf ≤ 1024 ∧ a.ki ≤ 255 ∧ (1 ≤ a.kb ∧ a.kb ≤ 64) ∧ (100 ≤ a.reflexBack ∧ a.reflexBack ≤ 1000) ∧
    (1024 ≤ a.reflexTurn ∧ a.reflexTurn ≤ 32768) ∧ (150 ≤ a.sonarStop ∧ a.sonarStop ≤ 800) ∧
    (100 ≤ a.trapRadius ∧ a.trapRadius ≤ 3000) ∧ (10 ≤ a.trapWindow ∧ a.trapWindow ≤ 600) ∧
    (2 ≤ a.trapCount ∧ a.trapCount ≤ 8) ∧ (1 ≤ a.dockTries ∧ a.dockTries ≤ 9) ∧
    (300 ≤ a.dockReach ∧ a.dockReach ≤ 3000) ∧ (60 ≤ a.dockV ∧ a.dockV ≤ 240) ∧
    (40 ≤ a.nearAmp ∧ a.nearAmp ≤ 250) ∧ (50 ≤ a.dockSpeed ∧ a.dockSpeed ≤ 300) ∧
    (5 ≤ a.slopeSoft ∧ a.slopeSoft ≤ 35) ∧ (a.slopeSoft + 1 ≤ a.slopeHard ∧ a.slopeHard ≤ 40) ∧
    (50 ≤ a.slopeFloor ∧ a.slopeFloor ≤ 400) ∧ (10 ≤ a.slopeTrip ∧ a.slopeHard ≤ a.slopeTrip ∧ a.slopeTrip ≤ 45) ∧
    (40 ≤ a.loadSoft ∧ a.loadSoft ≤ 95) ∧ a.bladeHold ≤ 30000 ∧ (100 ≤ a.escapeLimit ∧ a.escapeLimit ≤ 2000)

/-- R162, for the two hazards that inputs show, while the part runs: a lift debounce state is OPEN exactly when its input
is open, its timer runs only in CLOSING, and while ARMED the stop key is not pressed and no lift input has been closed for
its debounce. -/
def HazardLaw (s : State) : Prop :=
  s.resetting = none →
    (∀ i : LR, (s.guard.lift.get i = .opened ↔ s.pins.lift.get i = false) ∧
        ((s.guard.liftTimer.get i).isSome = true → s.guard.lift.get i = .closing)) ∧
      (s.guard.machine = .armed → s.pins.stopKey = false ∧ ∀ i : LR, s.guard.lift.get i ≠ .closed)

/-- R167: while the machine is TRIPPED, the first cause does not change and the further-causes set only grows. -/
def TripLaw (s t : State) : Prop :=
  s.guard.machine = .tripped → t.guard.machine = .tripped →
    t.guard.trip.first = s.guard.trip.first ∧ s.guard.trip.further &&& t.guard.trip.further = s.guard.trip.further

/-- The words of a mirror's copy lie within the mirror (R195, R206). -/
def CopyInside (r : Refresh) (low high : Nat) : Prop :=
  ∀ copy, r.writing = some copy → ∀ c ∈ copy, low < c.1 ∧ c.1 < high

/-- R197: PLAN holds three detail words, each other source one. -/
def DetailsLaw (s : State) : Prop := ∀ a : Source, (s.notice.get a).details.length = if a = .plan then 3 else 1

/-- R199: the attention line is asserted exactly when ATN_ENABLE is set and some enabled pending source outranks every
source under service; it is deasserted while a reset lasts. With it, what keeps its judgement's words apart from the
mirrors: the copies lie within them (R195), the port keeps 25 words of each control period (R195), and each source its
details (R197). -/
def LineLaw (s : State) : Prop :=
  (CopyInside s.port.snapshot 0x100 0x17F ∧ CopyInside s.port.loopTable 0x180 0x1FF ∧
      CopyInside s.port.contactList 0x200 0x27F ∧ s.port.latched.length = 25 ∧ DetailsLaw s) ∧
    (s.notice.line = true ↔ s.resetting = none ∧ s.notice.atnEnable = true ∧
      ∃ a : Source, (s.notice.get a).pending = true ∧ (a = .trip ∨ s.noticeEnable.getLsbD a.rank = true) ∧
        ∀ b : Source, (s.notice.get b).service = true → a.rank < b.rank)

/-! ### The internal source (R22) -/

/-- R22: the time in µs from the start of the internal source's start mark to a capture time, in the check interval begun
last: the mark begins 5 ms into its interval (log entry 38). -/
def sourceOffset (s : State) (t : Capture) : Nat :=
  since t (timebaseOf (s.recv.check.start + BitVec.ofNat 32 (25 * (s.recv.check.begun - 1) + 5)))

/-- R21, R22: what a channel hears: its coil, or while a self-check runs the internal source alone, whose pulses begin or
end at the given offsets. -/
abbrev Heard (s : State) (t : Capture) (edges : List Nat) : Prop :=
  s.recv.check.result = .running → 0 < s.recv.check.begun ∧ sourceOffset s t ∈ edges

/-- R22: the offsets at which the internal source's pulses begin. -/
def sourceLeading : List Nat := [0, 250, 400, 550, 700, 850]

/-- R22: the offsets at which they end. -/
def sourceTrailing : List Nat := [200, 350, 500, 650, 800, 950]

/-- R22: the internal source sends one of its six pulses. -/
abbrev SourceSends (s : State) (t : Capture) : Prop :=
  0 < s.recv.check.begun ∧
    (sourceOffset s t < 200 ∨ 250 ≤ sourceOffset s t ∧ sourceOffset s t < 350 ∨
      400 ≤ sourceOffset s t ∧ sourceOffset s t < 500 ∨ 550 ≤ sourceOffset s t ∧ sourceOffset s t < 650 ∨
      700 ≤ sourceOffset s t ∧ sourceOffset s t < 800 ∨ 850 ≤ sourceOffset s t ∧ sourceOffset s t < 950)

/-! ### Notices (R198) -/

/-- R198: what one post makes of a source: the latest status and details, a count up to 255, and the pending flag where the
source is enabled; TRIP always is. -/
def postedTo (s : State) (a : Source) (status : Word) (details : List Word) : SourceState :=
  { status := status
    details := details
    count := min 255 ((s.notice.get a).count + 1)
    pending := (s.notice.get a).pending || decide (a = .trip) || (s.word 0x062).getLsbD a.rank
    service := (s.notice.get a).service }

/-- R198, R199: an event's one post: its source takes it, the line is judged again, and no other notice changes. -/
abbrev Posts (s u : State) (a : Source) (status : Word) (details : List Word) : Prop :=
  u.notice = { s.notice.set a (postedTo s a status details) with line := u.notice.line } ∧
    u.notice.line = u.notice.lineLevel (s.word 0x062)

/-! ### Loops (R31, R32, R34, R160, R163, R164) -/

/-- R31: the loop state of a mapped loop. -/
def loopStateBy (c : Three SubRecord) : LoopState :=
  if c.left.state = .present ∨ c.right.state = .present ∨ c.rear.state = .present then .present
  else if c.left.state = .weak ∨ c.right.state = .weak ∨ c.rear.state = .weak then .weak
  else if c.left.state = .noisy ∨ c.right.state = .noisy ∨ c.rear.state = .noisy then .noisy
  else .lost

/-- R32: the position class of the three sides of loop 0. -/
def classBy (c : Three SubRecord) : PosClass :=
  if c.left.side = .unknown ∨ c.right.side = .unknown then .unknown
  else if c.left.side = .inside ∧ c.right.side = .inside ∧ c.rear.side = .inside then .insideAll
  else if c.left.side = .outside ∧ c.right.side = .outside then
    (if c.rear.side = .outside then .outsideAll else .outsideFront)
  else .straddle

/-- R34: the station-near flag after the front amplitudes of loop 3 are judged. -/
def nearBy (nearAmp : Nat) (before : Bool) (c : Three SubRecord) : Bool :=
  if before then decide (nearAmp ≤ c.left.amplitude.toNat + 20 ∨ nearAmp ≤ c.right.amplitude.toNat + 20)
  else decide (nearAmp ≤ c.left.amplitude.toNat ∨ nearAmp ≤ c.right.amplitude.toNat)

/-- R32: the class changed. -/
abbrev ClassMoved (s u : State) : Prop := u.loops.posClass ≠ s.loops.posClass

/-- R160: the change of class ends recovery. -/
abbrev RecoveryEnds (s u : State) : Prop := s.guard.recovery = true ∧ ClassMoved s u ∧ u.loops.posClass = .insideAll

/-- R163: loop 0 is LOST or UNUSED. -/
abbrev Silent (s : State) : Prop := s.loops.recs.l0.state = .lost ∨ s.loops.recs.l0.state = .unused

/-- R160, R163, R164: what the Guard makes of the loop states and the class that an event publishes. -/
abbrev GuardHears (s u : State) : Prop :=
  u.guard.recovery = (s.guard.recovery && !decide (RecoveryEnds s u)) ∧
    u.guard.escape = (if ClassMoved s u ∧ u.loops.posClass ≠ .outsideAll then 0 else s.guard.escape) ∧
    u.guard.noSignal =
      if u.loops.recs.l0.state = s.loops.recs.l0.state then s.guard.noSignal
      else if ¬ Silent u then none
      else if Silent s then s.guard.noSignal
      else some (s.partTime + 2000)

/-- How many notices of LOOP an event's loop states, class and end of recovery make (R31, R32, R160). -/
def loopPosts (s u : State) : Nat :=
  (if u.loops.recs.l0.state ≠ s.loops.recs.l0.state then 1 else 0) +
    (if u.loops.recs.l1.state ≠ s.loops.recs.l1.state then 1 else 0) +
    (if u.loops.recs.l2.state ≠ s.loops.recs.l2.state then 1 else 0) +
    (if u.loops.recs.l3.state ≠ s.loops.recs.l3.state then 1 else 0) +
    (if ClassMoved s u then 1 else 0) + (if RecoveryEnds s u then 1 else 0)

/-- R31, R32, R160, R198: the LOOP source after the notices of an event: counted, pending where enabled, with the status and
detail of the last. -/
abbrev LoopPosts (s u : State) : Prop :=
  u.notice.loop.count = (if loopPosts s u = 0 then s.notice.loop.count else min 255 (s.notice.loop.count + loopPosts s u)) ∧
    u.notice.loop.pending = (s.notice.loop.pending || (decide (0 < loopPosts s u) && (s.word 0x062).getLsbD 5)) ∧
    (loopPosts s u = 0 → u.notice.loop = s.notice.loop) ∧
    (RecoveryEnds s u → u.notice.loop.status = 3 ∧ u.notice.loop.details = [0x8000]) ∧
    (¬ RecoveryEnds s u → ClassMoved s u →
      u.notice.loop.status = 2 ∧ u.notice.loop.details = [u.loops.posClass.code]) ∧
    (¬ ClassMoved s u → 0 < loopPosts s u → u.notice.loop.status = 1 ∧ u.notice.loop.details =
      [if u.loops.recs.l3.state ≠ s.loops.recs.l3.state then 3
       else if u.loops.recs.l2.state ≠ s.loops.recs.l2.state then 2
       else if u.loops.recs.l1.state ≠ s.loops.recs.l1.state then 1 else 0])

/-! ### The blade (R118, R120, R121, R123, R130) -/

/-- R118: the blade is stopped at a blade period: 100,000 µs or more since the later of the last pulse and the brake start. -/
abbrev Stopped (s : State) (t : Capture) : Prop :=
  (∀ lp, s.blade.lastPulse = some lp → 100000 ≤ since t lp) ∧ ∀ b, s.blade.brakeStart = some b → 100000 ≤ since t b

/-- R123: SPINUP is entered. -/
abbrev SpinsUp (s u : State) : Prop :=
  u.blade.state = .spinup ∧ u.blade.spinupEntry = s.partTime ∧ u.blade.duty = 0 ∧ u.blade.brake = false ∧
    u.blade.brakeTimer = none ∧ u.blade.waitTimer = none ∧ u.blade.lowStart = none

/-- R120, R121: the effective directive is judged and acted on. -/
abbrev Judged (s u : State) : Prop :=
  u.blade.effective = u.effectiveDirective ∧
    (s.blade.state = .off → u.effectiveDirective = .cut → SpinsUp s u) ∧
    (Driven s.blade.state → u.effectiveDirective = .off →
      u.blade.state = .braking ∧ u.blade.duty = 0 ∧ u.blade.brake = true ∧
        u.blade.brakeTimer = some (s.partTime + 2000) ∧ u.blade.brakeStart = some u.timebase) ∧
    (¬ (s.blade.state = .off ∧ u.effectiveDirective = .cut) → ¬ (Driven s.blade.state ∧ u.effectiveDirective = .off) →
      u.blade = { s.blade with effective := u.effectiveDirective })

/-! ### The terms of a control period (R70..R86) -/

/-- R76: the mean travel that a control period counts, in 1/256 mm. -/
def meanTravel (s : State) : Int :=
  Int.tdiv (s.drive.wheels.left.count * s.plan.applied.mmPer256 + s.drive.wheels.right.count * s.plan.applied.mmPer256) 2

/-- R76: the heading change that a control period counts, in au. -/
def headingTravel (s : State) : Int :=
  Int.tdiv ((s.drive.wheels.right.count * s.plan.applied.mmPer256 - s.drive.wheels.left.count * s.plan.applied.mmPer256)
    * 10430) (s.plan.applied.trackWidth * 256)

/-- R78: the run accumulators take the period's travel: not suspended, and the last period chose the active kind. -/
abbrev Progress (s : State) : Prop :=
  s.drive.suspended = false ∧ (s.drive.choice = .kind ∨ s.drive.choice = .backoff)

/-- R68, R78: a distance in 1/256 mm with the period's travel added. -/
def travelled (s : State) (d : Nat) : Nat := min 1099511627775 (d + (meanTravel s).natAbs)

/-- R78: the run distance after the period, in 1/256 mm. -/
def runDistance (s : State) : Nat := if Progress s then travelled s s.drive.runDist else s.drive.runDist

/-- R78: the run turn after the period. -/
def runAngle (s : State) : Int :=
  if Progress s then max (-2147483648) (min 2147483647 (s.drive.runTurn + headingTravel s)) else s.drive.runTurn

/-- R78: the run time after the period, in ms. -/
def runTimeMs (s : State) : Nat := if s.drive.suspended then s.drive.runTime else min 4294967295 (s.drive.runTime + 10)

/-- R80: the segment's time limit has passed. -/
abbrev TimeUp (s : State) (seg : Segment) : Prop :=
  seg.fields.timeLimit ≠ 0 ∧ seg.fields.timeLimit.toNat * 1000 ≤ since s.partTime seg.start

/-- R86: the angle's magnitude. -/
def turnGoal (f : Fields) : Nat := min f.angle.toInt.natAbs 2147483647

/-- R82, R86, R87: a ROLL, TURN or PAUSE has come to its distance, angle or time. -/
abbrev Reached (s : State) (f : Fields) : Prop :=
  f.kind = 1 ∧ 0 < f.distance.toInt ∧ f.distance.toInt ≤ (runDistance s / 256 : Nat) ∨
    f.kind = 2 ∧ turnGoal f ≤ (runAngle s).natAbs ∨ f.kind = 3 ∧ f.distance.toInt ≤ runTimeMs s

/-- R71, R80: step 3 ends the segment. -/
abbrev BasicEnds (s : State) (seg : Segment) : Prop :=
  (seg.fields.kind = 1 ∨ seg.fields.kind = 2 ∨ seg.fields.kind = 3) ∧
    (TimeUp s seg ∨ s.drive.suspended = false ∧ Reached s seg.fields)

/-- R107: the slope of two readings. -/
def slopeAt (pitch roll : Byte) : Nat :=
  max (Int.tdiv (((pitch.toNat : Int) - 128) * 90) 256).natAbs (Int.tdiv (((roll.toNat : Int) - 128) * 90) 256).natAbs

/-- A control period of the ARMED machine in which the Guard finds neither ESCAPED nor TILT (R71, R162, R164). -/
abbrev CalmPeriod (s : State) (pitch roll : Byte) : Prop :=
  s.resetting = none ∧ due s.partTime s.drive.timer = true ∧ s.guard.machine = .armed ∧
    (s.loops.posClass ≠ .outsideAll ∨ s.guard.recovery = true) ∧
    (slopeAt pitch roll < s.plan.applied.slopeTrip ∨ ∀ a, s.guard.tiltStart = some a → since s.partTime a < 1000)

/-- R74: the target a wheel takes from a request and its target in force. -/
def limited (accel : Nat) (request old : Int) : Int :=
  let r := max (-800) (min 800 request)
  if r = 0 then 0
  else if 0 < r * old ∧ r.natAbs ≤ old.natAbs then r
  else if 0 < r * old ∨ old = 0 then r.sign * (min r.natAbs (old.natAbs + accel) : Nat)
  else r.sign * (min r.natAbs accel : Nat)

/-- R72, R74: the two targets that follow from a chosen pair of requests; a cap of 0 chooses 0. -/
abbrev Takes (s u : State) (request : Int × Int) : Prop :=
  let accel := max 5 (min 100 (s.word 0x061).toNat)
  u.drive.wheels.left.target = (if u.gov.cap = 0 then 0 else limited accel request.1 s.drive.wheels.left.target) ∧
    u.drive.wheels.right.target = (if u.gov.cap = 0 then 0 else limited accel request.2 s.drive.wheels.right.target)

/-- Both targets are 0. -/
abbrev AtRest (u : State) : Prop := u.drive.wheels.left.target = 0 ∧ u.drive.wheels.right.target = 0

/-- R81: the heading correction toward a reference. -/
def holdTo (a : Settings) (ref heading : BitVec 16) : Int :=
  max (-(a.dMax : Int)) (min (a.dMax : Int) (Int.tdiv ((ref - heading).toInt * a.kh) 1024))

/-- R84, R181: the pair of a spin, left wheel back for an angle of 0 or more. -/
def spin (speed cap : Nat) (angle : Int) : Int × Int :=
  let v : Int := (min (min speed cap) 400 : Nat)
  if angle < 0 then (v, -v) else (-v, v)

/-- R81, R84, R85, R87: the pair of a ROLL, a TURN or a PAUSE. -/
def basicPair (s u : State) (f : Fields) : Int × Int :=
  let v : Int := (min f.speed.toNat u.gov.cap : Nat)
  if f.kind = 1 then
    let hold := holdTo s.plan.applied s.drive.headingRef u.drive.heading
    let mean := if f.reverse = 0 then v else -v
    (mean - hold, mean + hold)
  else if f.kind = 2 then
    if f.radius.toInt = 0 then spin f.speed.toNat u.gov.cap f.angle.toInt
    else
      let d := Int.tdiv (v * s.plan.applied.trackWidth) (2 * f.radius.toInt.natAbs)
      if 0 < f.radius.toInt then (v - d, v + d) else (v + d, v - d)
  else (0, 0)

/-- R52, R53: a segment is over, with its slot's state and end cause. -/
abbrev Over (u : State) (seg : Segment) (slot cause : Word) : Prop :=
  u.plan.active = none ∧ u.slotState seg.slot = slot ∧ u.word (slotBase seg.slot + 20) = cause ∧
    u.track.running = none ∧ u.dock.run = .none ∧ u.drive.suspended = false

/-- R153: a trap, with the code of its cause: the reflex is QUIET and the plan HELD, the segment cut TRAPPED. -/
abbrev Trapped (u : State) (seg : Segment) (cause : Word) : Prop :=
  u.contact.stage = .quiet ∧ u.plan.state = .held ∧ u.plan.heldSlot = some seg.slot ∧ Over u seg slotCut 12 ∧
    u.notice.reflex.status = 2 ∧ u.notice.reflex.details = [cause]

/-! ### Track Steering (R92..R98) -/

/-- R33: no frame, or none in the last 30 ms. -/
abbrev Stale (s : State) (r : SubRecord) : Prop := ∀ f, r.lastFrame = some f → 30 < since s.partTime f

/-- R92: the hold case. -/
abbrev WireHold (s : State) (l r : SubRecord) : Prop :=
  Stale s l ∨ Stale s r ∨ l.side = .unknown ∨ r.side = .unknown ∨
    l.amplitude.toNat + r.amplitude.toNat < s.plan.applied.ampMin

/-- R94, R95: the wire error of two known sides; none is the mixed case. -/
def wireError (side : FollowSide) (l r : SubRecord) : Option Int :=
  if l.side = r.side then some (if (l.side = .inside) = (side = .leftOut) then 1024 else -1024)
  else if (l.side = .outside) = (side = .leftOut) then
    some (Int.tdiv (1024 * ((l.amplitude.toNat : Int) - r.amplitude.toNat)) (l.amplitude.toNat + r.amplitude.toNat + 1))
  else none

/-- R97, R98: the pair of an error and the error before. -/
def steered (a : Settings) (speed cap : Nat) (e ePrev : Int) : Int × Int :=
  let d := max (-(a.dMax : Int)) (min (a.dMax : Int) (Int.tdiv (a.kp * e + a.kd * (e - ePrev)) 256))
  let v := Int.tdiv ((min speed cap : Nat) * (1024 - (min e.natAbs 1024 / 2 : Nat))) 1024
  (v - d, v + d)

/-! ### Activation (R46..R50) -/

/-- R47: a loop number whose loop is in use. -/
abbrev LoopInUse (s : State) (w : Word) : Prop :=
  w.toNat < 4 ∧ ∀ n : Loop, n.val = w.toNat → (s.loops.recs.get n).state ≠ .unused

/-- R47: the watch of a ROLL or TRACK can be kept. -/
abbrev WatchSound (s : State) (f : Fields) : Prop :=
  f.endOn.toNat ≤ 3 ∧ (f.endOn = 1 → s.loops.recs.l3.state ≠ .unused) ∧ (2 ≤ f.endOn.toNat → LoopInUse s f.endLoop)

/-- R47: a segment that can run. -/
abbrev SoundSegment (s : State) (f : Fields) : Prop :=
  f.blade.toNat ≤ 2 ∧ f.onContact.toNat ≤ 2 ∧ 1 ≤ f.kind.toNat ∧ f.kind.toNat ≤ 6 ∧
    (f.kind = 1 ∨ f.kind = 4 → WatchSound s f) ∧ (f.kind = 4 ∨ f.kind = 5 → LoopInUse s f.loop ∧ f.side.toNat ≤ 1)

/-- R48: a TRACK or DOCK whose loop is LOST. -/
abbrev LoopLost (s : State) (f : Fields) : Prop :=
  (f.kind = 4 ∨ f.kind = 5) ∧ ∃ n : Loop, n.val = f.loop.toNat ∧ (s.loops.recs.get n).state = .lost

/-- R82, R103: the boundary test fires. -/
abbrev AtBoundary (s : State) (f : Fields) : Prop :=
  f.stopAtBoundary ≠ 0 ∧ (f.kind = 1 ∧ f.reverse = 0 ∨ f.kind = 4 ∧ f.loop ≠ 0) ∧
    (s.loops.posClass = .outsideFront ∨ s.loops.posClass = .outsideAll)

/-- R83, R102: the watch's condition holds in the event that starts it. -/
abbrev WatchMet (s : State) (f : Fields) : Prop :=
  (f.kind = 1 ∨ f.kind = 4) ∧
    (f.endOn = 1 ∧ s.loops.stationNear = true ∨
      f.endOn = 2 ∧ ∃ n : Loop, n.val = f.endLoop.toNat ∧
        ((s.loops.recs.get n).coils.left.state = .present ∨ (s.loops.recs.get n).coils.right.state = .present))

/-- The charge contact is present (R172). -/
abbrev OnContacts (s : State) : Prop := s.dock.sense = .present ∨ s.dock.sense = .falling

/-- R35, R183, R196: a wake for the given reason. -/
abbrev Woken (s u : State) (reason : WakeReason) : Prop :=
  u.guard.machine = .safe ∧ u.word 0x002 = 1 ∧ u.loops.windowTimer = s.partTime + 500 ∧
    u.port.snapTimer = s.partTime + 50 ∧ u.port.snapshot.writing.isSome = true ∧
    u.dock.record = { s.dock.record with wakeReason := reason, wakeTime := some s.partTime } ∧
    u.notice.dock = postedTo s .dock 5 [reason.code] ∧
    ∀ n i, ((u.loops.recs.get n).coils.get i).window = 0

/-- R46..R50: a QUEUED segment that becomes the ACTIVE one and runs on: it can run, its loop is not LOST, and no test of the
activation event ends it. -/
abbrev RunsOn (s : State) (h : Slot) : Prop :=
  let f := s.slotFields h
  s.slotState h = slotQueued ∧ SoundSegment s f ∧ ¬ LoopLost s f ∧ ¬ (f.kind = 5 ∧ OnContacts s) ∧ ¬ AtBoundary s f ∧
    ¬ WatchMet s f

/-- R46, R49, R50, R62, R78, R81, R83, R90, R174, R180: what the activation of a segment that runs on leaves, with no reflex
in progress: the plan, the accumulators, the kind's owner, the blade's directive, and the slot. -/
abbrev Activated (s u : State) (h : Slot) (seg : Segment) : Prop :=
  let f := s.slotFields h
  let g := clampFields f
  let act := s.plan.activation + 1
  let sides (n : Loop) : Watch := ⟨(s.loops.recs.get n).coils.left.side, (s.loops.recs.get n).coils.right.side⟩
  seg = { slot := h, activation := act, start := s.partTime, fields := g, contacts := 0, clamped := decide (g ≠ f),
          uncut := seg.uncut } ∧
    u.plan = { s.plan with
      state := .running, active := some seg, activation := act
      waiting := none, deferred := none, heldSlot := none, holdTimer := none, waitTimer := none
      standing := if f.blade = 0 then .off else if f.blade = 1 then .cut else s.plan.standing
      watch := u.plan.watch } ∧
    ((f.kind = 1 ∨ f.kind = 4) ∧ 2 ≤ f.endOn.toNat →
      ∀ n : Loop, n.val = f.endLoop.toNat → u.plan.watch = some (sides n)) ∧
    (¬ (f.kind = 1 ∨ f.kind = 4) ∨ f.endOn = 0 → u.plan.watch = none) ∧
    u.drive = { s.drive with
      segDist := 0, runDist := 0, runTurn := 0, runTime := 0, headingRef := s.drive.heading, suspended := false } ∧
    (f.kind = 4 ∨ f.kind = 5 → u.track =
      { running := some act, loop := u.track.loop, side := if f.side = 0 then some .leftOut else some .rightOut
        offset := g.offset.toInt, speed := g.speed.toNat, ePrev := 0, e := 0, weak := 0, published := 0 } ∧
        ∀ n : Loop, n.val = f.loop.toNat → u.track.loop = some n) ∧
    (¬ (f.kind = 4 ∨ f.kind = 5) → u.track = s.track) ∧
    (f.kind = 5 → u.dock = { s.dock with
      run := .dock act, phase := some (if s.loops.stationNear then .near else .approach), tries := 0
      bumpPending := false, near := 0, back := 0, record := { s.dock.record with tries := 0 } }) ∧
    (f.kind = 6 → u.dock = { s.dock with run := .undock act, phase := some .reverse }) ∧
    (¬ (f.kind = 5 ∨ f.kind = 6) → u.dock = s.dock) ∧
    Judged s u ∧ u.slotState h = slotActive ∧ (MemoryCanonical s → ∀ k, 20 ≤ k → k ≤ 24 → u.word (slotBase h + k) = 0)

end Sys2Proof.Safety
end

