-- ==== Sys2Proof/Certificates/Slice0/Obligations.lean ====
section
/-! DEFINITION. The statements for the provers: what the commands and the machine do, by the rules of spec/, and the laws
that every step keeps. `due` and `since` are the comparisons of two times (R2). Addresses are those of R204 and R206, and
codes those of R205. -/

open Sys2Proof Sys2Proof.Machine Sys2Proof.Safety

/-! ### The queue, resets and time -/

/-- A step takes the command at the front of the queue and runs it with the queue's rest. On an empty queue the part
idles: the capture count runs on by 1 and each mirror's refresh that is WRITING writes the next word of its copy, unless
a reset lasts (the second clause is the model's choice, log entries 1 and 37). The model's part: log entry 31. -/
def Obligations.StepRunsFrontCommand : Prop :=
  (∀ (c : Instr) (rest : List Instr) (s : State),
    s.pending = c :: rest → step s = exec c { s with pending := rest }) ∧
  ∀ s : State, s.pending = [] →
    (s.resetting = none →
      let next (r : Refresh) : List (Nat × Word) := (r.writing.getD []).take 1
      let rest (r : Refresh) : Refresh := { r with writing := r.writing.map (List.drop 1) }
      step s = .next { s with
        timebase := s.timebase + 1
        port := { s.port with
          snapshot := rest s.port.snapshot, loopTable := rest s.port.loopTable
          contactList := rest s.port.contactList }
        mem := s.mem.writeAll (next s.port.snapshot ++ next s.port.loopTable ++ next s.port.contactList) }) ∧
    (s.resetting.isSome = true → step s = .next s)

/-- Every command answers a next state, and none of them touches the queue. The model's part: log entries 17 and 31. -/
def Obligations.ExecKeepsQueue : Prop :=
  ∀ (c : Instr) (s : State), ∃ t, exec c s = .next t ∧ t.pending = s.pending

/-- R24, R169, R186, R187, R199: POWER, PIN and STROBE begin a reset, which notes whether it abandons a self-check
and deasserts the attention line. While it lasts nothing but the level of an input moves, and a read of ATTENTION
returns 0; a POWER begins anew, a PIN or STROBE has no further effect (for PIN the model's choice, log entry 12). The
model's part: log entry 3. -/
def Obligations.ResetsBeginAndLast : Prop :=
  ∀ (c : Instr) (s : State),
    let begun (cause : ResetCause) : State :=
      { s with
        resetting := some ⟨cause, decide (s.recv.check.result = .running)⟩
        notice := { s.notice with line := false } }
    exec .power s = .next (begun .power) ∧
    (s.resetting = none → exec .pin s = .next (begun .pin) ∧ exec .strobe s = .next (begun .strobe)) ∧
    (s.resetting.isSome = true →
      match c with
      | .power => True
      | .resetEnd => True
      | .bumpEdge i e =>
        exec c s = .next { s with pins := { s.pins with bump := s.pins.bump.set i (decide (e = .closing)) } }
      | .liftEdge i e =>
        exec c s = .next { s with pins := { s.pins with lift := s.pins.lift.set i (decide (e = .closing)) } }
      | .stopKeyEdge e => exec c s = .next { s with pins := { s.pins with stopKey := decide (e = .closing) } }
      | .attentionAck => exec c s = .next { s with port := { s.port with dataLines := 0 } }
      | .attentionPeek => exec c s = .next { s with port := { s.port with dataLines := 0 } }
      | _ => exec c s = .next s)

/-- R41, R169, R171, R204, R207: the end of a POWER, PIN or STROBE reset. The part time is 0, the machine is in
START, the plan is IDLE with the default settings in force, every slot is FREE with its fields 0, the targets, the
duties and the pose are 0, no contact is listed, the notice statuses, pending and under-service flags are cleared;
the reset record says what reset it was; the host scratch area is zeroed by POWER alone; the inputs keep their
levels. With no reset lasting RESET_END does nothing (model's choice, log entry 12). -/
def Obligations.ResetEndInitialises : Prop :=
  ∀ s : State, (s.resetting = none → exec .resetEnd s = .next s) ∧
    ∀ r, s.resetting = some r → ∃ t, exec .resetEnd s = .next t ∧
      t.resetting = none ∧ t.partTime = 0 ∧ t.pins = s.pins ∧ t.pending = s.pending ∧
      t.guard.machine = .start ∧ t.plan.state = .idle ∧ t.plan.active = none ∧ t.plan.standing = .off ∧
      t.plan.applied = Settings.default ∧ t.plan.appliedGen = 0 ∧
      (∀ a, 0x400 ≤ a → a < 0xA00 → t.word a = 0) ∧
      (∀ a, 0xA00 ≤ a → a < 0xFFC → t.word a = if r.cause = .power then 0 else s.word a) ∧
      (∀ i, (t.drive.wheels.get i).target = 0 ∧ (t.drive.wheels.get i).duty = 0) ∧
      t.drive.x = 0 ∧ t.drive.y = 0 ∧ t.drive.heading = 0 ∧ t.contact.list = [] ∧ t.contact.stage = .quiet ∧
      (r.cause = .power → t.blade.state = .off ∧ t.blade.brake = false ∧ t.guard.bladeOff = true) ∧
      (r.cause ≠ .power → t.blade.state = .braking ∧ t.blade.brake = true ∧ t.guard.bladeOff = false) ∧
      t.blade.duty = 0 ∧
      (r.cause = .power → t.guard.resetRecord = ⟨.power, false, none, 0⟩) ∧
      (r.cause ≠ .power → t.guard.resetRecord =
        ⟨r.cause, decide (s.guard.machine = .parked), if s.guard.machine = .tripped then s.guard.trip.first else none,
          if s.guard.resetRecord.count < 255 then s.guard.resetRecord.count + 1 else 255⟩) ∧
      (∀ src, (t.notice.get src).status = 0 ∧ (t.notice.get src).pending = false ∧
        (t.notice.get src).service = false) ∧
      t.notice.atnEnable = false ∧ t.notice.line = false ∧ t.word 0x000 = 0x4401 ∧ t.word 0x060 = 500

/-- R43, R61, R68, R117, R155, R170, R171, R185, R196: a RESTART outside START is in hand until START ends, keeps the
part time, the settings in force and the host's words, ends an active segment CUT RESTART, and puts the machine into
START with the plan IDLE, the pose and the targets 0, the blade braking, the contact list empty and the notice
sources' statuses, pending flags and counts cleared. -/
def Obligations.RestartTaken : Prop :=
  ∀ s : State, s.resetting = none → s.guard.machine ≠ .start →
    ∃ t, exec .restart s = .next t ∧ t.resetting = none ∧ t.partTime = s.partTime ∧ t.timebase = s.timebase ∧
      t.pins = s.pins ∧ t.guard.machine = .start ∧
      t.guard.resetRecord =
        ⟨.restart, decide (s.guard.machine = .parked), if s.guard.machine = .tripped then s.guard.trip.first else none,
          if s.guard.resetRecord.count < 255 then s.guard.resetRecord.count + 1 else 255⟩ ∧
      t.plan.state = .idle ∧ t.plan.active = none ∧ t.plan.standing = .off ∧ t.plan.activation = s.plan.activation ∧
      t.plan.applied = s.plan.applied ∧ t.plan.appliedGen = s.plan.appliedGen ∧
      (∀ i, (t.drive.wheels.get i).target = 0) ∧ t.drive.x = 0 ∧ t.drive.y = 0 ∧ t.drive.heading = 0 ∧
      t.blade.state = .braking ∧ t.blade.duty = 0 ∧ t.blade.brake = true ∧
      t.contact.list = [] ∧ t.contact.stage = .quiet ∧ t.dock.run = .none ∧
      t.port.faults = 0 ∧ t.port.requestCount = s.port.requestCount + 1 ∧
      t.port.inHand = .restart (s.port.requestCount + 1) ∧ t.port.answer = s.port.answer ∧
      (∀ src, (t.notice.get src).status = 0 ∧ (t.notice.get src).pending = false ∧ (t.notice.get src).count = 0) ∧
      t.notice.atnEnable = s.notice.atnEnable ∧ t.notice.ackMode = s.notice.ackMode ∧ t.notice.line = false ∧
      t.word 0x041 = 12 ∧ (∀ a, 0x042 ≤ a → a < 0x0C0 → t.word a = s.word a) ∧
      (∀ a, 0xA00 ≤ a → a < 0xFFC → t.word a = s.word a) ∧
      (∀ (n : Slot) (k : Nat), k < 32 → s.activeSlot ≠ some n → t.word (slotBase n + k) = s.word (slotBase n + k)) ∧
      ∀ seg, s.plan.active = some seg → t.slotState seg.slot = slotCut ∧ t.word (slotBase seg.slot + 20) = 18

/-- R2, R194: the part time advances by one each tick and wraps from 2^32 - 1 to 0; the header carries it, low word first;
a difference of two times is taken modulo 2^32. Nothing else moves but the capture count (log entry 1). -/
def Obligations.PartTimeTick : Prop :=
  (∀ s : State, s.resetting = none → MemoryCanonical s →
    ∃ t, exec .partTimeTick s = .next t ∧
      t = { s with partTime := s.partTime + 1, timebase := t.timebase, mem := t.mem } ∧
      t.partTime.toNat = (s.partTime.toNat + 1) % 2 ^ 32 ∧
      (t.word 0x003).toNat + 65536 * (t.word 0x004).toNat = t.partTime.toNat ∧
      ∀ a, a ≠ 0x003 → a ≠ 0x004 → t.word a = s.word a) ∧
  ∀ now start : Time, since now start = (now.toNat + 2 ^ 32 - start.toNat) % 2 ^ 32
/-! ### Wire Receiver -/

/-- R4, R5, R8, R9, R22: a leading edge opens a pulse, clears the peak detector and stops the gap timer with its expiry
kept; inside a blanking interval it makes the pulse LOST, or is noted while a trailing edge is held back. While a
self-check runs only the edges of its internal source are heard. The model's part: log entries 1, 38 and 42. -/
def Obligations.LeadingEdge : Prop :=
  ∀ (i : Coil) (t : Capture) (s : State), s.resetting = none →
    (¬ Heard s t sourceLeading → exec (.comparatorLeadingEdge i t) s = .next { s with timebase := t }) ∧
    (Heard s t sourceLeading →
    (∀ e, s.recv.blankEnd = some e → due t e = false) →
    (∀ e, (s.recv.channels.get i).gap = .running e → due t e = false) →
    let c := s.recv.channels.get i
    let answer (d : Channel) : State :=
      { s with timebase := t, recv := { s.recv with channels := s.recv.channels.set i d } }
    (c.pulse = .none → s.recv.blankEnd = none →
      exec (.comparatorLeadingEdge i t) s = .next (answer { c with
        pulse := .opened t none
        peak := 0
        gap := match c.gap with
               | .running e => .paused e
               | .paused e => .paused e
               | .stopped => .stopped })) ∧
    (c.pulse = .none → s.recv.blankEnd.isSome = true →
      exec (.comparatorLeadingEdge i t) s = .next (answer { c with pulse := .lost })) ∧
    (c.pulse ≠ .none → c.held = true → s.recv.blankEnd.isSome = true →
      exec (.comparatorLeadingEdge i t) s = .next (answer { c with noted := true })) ∧
    (c.pulse ≠ .none → (c.held = false ∨ s.recv.blankEnd = none) →
      exec (.comparatorLeadingEdge i t) s = .next (answer c)))

/-- R5, R6, R9, R10, R11, R14, R16, R22: a trailing edge. Inside a blanking interval it is held back, and where it comes
before the sample point, 25 us after the leading edge, the sample is VOID; outside, the pulse ends. A glitch (under 25 us,
or a VOID sample) is discarded and the gap timer runs on; in HUNT a START pulse with a polarity begins a frame with its
amplitude and starts the gap timer, and any other pulse is passed over. While a self-check runs only the edges of its
internal source are heard. The model's part: log entries 1, 15, 38 and 41. -/
def Obligations.TrailingEdge : Prop :=
  ∀ (i : Coil) (t : Capture) (peak : Byte) (s : State), s.resetting = none →
    (¬ Heard s t sourceTrailing → exec (.comparatorTrailingEdge i t peak) s = .next { s with timebase := t }) ∧
    (Heard s t sourceTrailing →
    (∀ e, s.recv.blankEnd = some e → due t e = false) →
    let c := s.recv.channels.get i
    let answer (d : Channel) : State :=
      { s with timebase := t, recv := { s.recv with channels := s.recv.channels.set i d } }
    let ended : Channel := { c with pulse := .none, held := false, noted := false, peak := peak }
    (c.pulse = .none → exec (.comparatorTrailingEdge i t peak) s = .next (answer c)) ∧
    (c.pulse = .lost → (c.held = false ∨ c.noted = false) →
      exec (.comparatorTrailingEdge i t peak) s = .next (answer { c with pulse := .none })) ∧
    ∀ leading sample, c.pulse = .opened leading sample → c.held = false →
      (s.recv.blankEnd.isSome = true →
        exec (.comparatorTrailingEdge i t peak) s = .next (answer { c with
          pulse := .opened leading (if since t leading < 25 then some .void else sample), held := true, peak := peak })) ∧
      (s.recv.blankEnd = none → since t leading < 25 ∨ sample = some .void →
        (∀ e, c.gap = .paused e → due t e = false) →
        exec (.comparatorTrailingEdge i t peak) s = .next (answer { ended with
          gap := match c.gap with
                 | .running e => .running e
                 | .paused e => .running e
                 | .stopped => .stopped })) ∧
      (s.recv.blankEnd = none → c.decoder = .hunt → 25 ≤ since t leading → sample ≠ some .void →
        (∀ q, sample.bind Sample.polarity = some q → 170 ≤ since t leading → since t leading ≤ 230 →
          exec (.comparatorTrailingEdge i t peak) s = .next (answer { ended with
            decoder := .ident ⟨q, peak, 0, 0⟩, prevTrailing := t, gap := .running (t + 71) })) ∧
        ((sample = none ∨ since t leading < 170 ∨ 230 < since t leading) →
          exec (.comparatorTrailingEdge i t peak) s = .next (answer ended))))

/-- R10, R12, R13, R15: a pulse in IDENT. After a good gap, with the START's polarity and a bit's width, it adds an
identity bit (the fourth leads to PARITY) and restarts the gap timer; otherwise the frame is broken: the malformed
count rises, and the pulse is judged in HUNT. The model's part: log entry 1. -/
def Obligations.IdentityBit : Prop :=
  ∀ (i : Coil) (t : Capture) (peak : Byte) (s : State) (f : Frame) (leading : Capture) (q : Polarity),
    s.resetting = none → s.recv.blankEnd = none → Heard s t sourceTrailing →
    let c := s.recv.channels.get i
    let sample : Sample := match q with
                           | .positive => .positive
                           | .negative => .negative
    let w := since t leading
    let ended : Channel := { c with pulse := .none, held := false, noted := false, peak := peak }
    c.pulse = .opened leading (some sample) → c.held = false → c.decoder = .ident f → 25 ≤ w →
    let good := 30 ≤ since leading c.prevTrailing ∧ since leading c.prevTrailing ≤ 70 ∧ q = f.start ∧
      (30 ≤ w ∧ w ≤ 70 ∨ 80 ≤ w ∧ w ≤ 120)
    let grown : Frame := { f with bits := f.bits + 1, value := f.value * 2 + (if w ≤ 70 then 0 else 1) }
    (good →
      exec (.comparatorTrailingEdge i t peak) s = .next { s with
        timebase := t
        recv := { s.recv with channels := s.recv.channels.set i { ended with
          decoder := if grown.bits = 4 then .parity grown else .ident grown
          prevTrailing := t
          gap := .running (t + 71) } } }) ∧
    (¬ good → ∃ u, exec (.comparatorTrailingEdge i t peak) s = .next u ∧
      u = { s with
        timebase := t
        recv := { s.recv with channels := s.recv.channels.set i { ended with
          malformed := if c.malformed < 65535 then c.malformed + 1 else 65535
          decoder := if 170 ≤ w ∧ w ≤ 230 then .ident ⟨q, peak, 0, 0⟩ else .hunt
          prevTrailing := if 170 ≤ w ∧ w ≤ 230 then t else c.prevTrailing
          gap := if 170 ≤ w ∧ w ≤ 230 then .running (t + 71) else .stopped } }
        port := u.port
        mem := u.mem } ∧
      ∀ a, a ≠ 0x180 → u.word a = s.word a)

/-- R13, R17, R22, R26, R27, R28, R31, R32, R34, R160, R163, R164: the parity bit of a good frame, with odd parity. A code in
the loop map is reported: a LOST coil state becomes WEAK, amplitude, polarity and last-frame time are those of the frame, the
window count rises, the side follows once three reports agree, and loop state, class and station-near flag follow, with their
notices, the end of recovery, the escape distance and the no-signal timer; the table drops it with its check flag set, or for
a sub-record held LOST in PARKED. A code of no loop is foreign, and in a self-check any code but 15; a frame of code 15 is
then counted. (A report's segment ends apart.) The model's part: log entries 1, 9, 32 and 38. -/
def Obligations.FrameReported : Prop :=
  ∀ (i : Coil) (t : Capture) (peak : Byte) (s : State) (f : Frame) (leading : Capture),
    s.resetting = none → s.recv.blankEnd = none → Heard s t sourceTrailing →
    let c := s.recv.channels.get i
    let sample : Sample := match f.start with
                           | .positive => .positive
                           | .negative => .negative
    let w := since t leading
    c.pulse = .opened leading (some sample) → c.held = false → c.decoder = .parity f →
    30 ≤ since leading c.prevTrailing → since leading c.prevTrailing ≤ 70 →
    (30 ≤ w ∧ w ≤ 70 ∨ 80 ≤ w ∧ w ≤ 120) →
    (onesOf f.value + (if w ≤ 70 then 0 else 1)) % 2 = 1 →
    let done : Channel :=
      { c with pulse := .none, held := false, noted := false, peak := peak, decoder := .hunt, gap := .stopped }
    let answer (d : Channel) : State :=
      { s with timebase := t, recv := { s.recv with channels := s.recv.channels.set i d } }
    (s.recv.check.result ≠ .running → ∀ n : Loop, f.value ≠ 15 → s.plan.applied.loopMap.get n = f.value →
      (∀ m, m < n → s.plan.applied.loopMap.get m ≠ f.value) →
      let r := (s.loops.recs.get n).coils.get i
      let dropped := s.loops.checkFlag = true ∨ s.guard.machine = .parked ∧ ¬ (i = .rear ∧ (n = 0 ∨ n = 3))
      (dropped → exec (.comparatorTrailingEdge i t peak) s = .next (answer done)) ∧
      (¬ dropped → s.plan.active = none →
        ∃ u, exec (.comparatorTrailingEdge i t peak) s = .next u ∧
          u = { answer done with
            loops := u.loops
            blade := u.blade
            guard := u.guard
            dock := u.dock
            port := u.port
            notice := u.notice
            mem := u.mem } ∧
          (u.loops.recs.get n).coils.get i =
            { state := if r.state = .lost then .weak else r.state
              side := if r.candidate = some f.start ∧ 2 ≤ r.agree then
                        (if f.start = .positive then .inside else .outside) else r.side
              candidate := some f.start
              agree := if r.candidate = some f.start then (if r.agree < 3 then r.agree + 1 else 3) else 1
              amplitude := f.amplitude
              polarity := some f.start
              lastFrame := some s.partTime
              window := if r.window < 255 then r.window + 1 else 255 } ∧
          (∀ m j, (m ≠ n ∨ j ≠ i) → (u.loops.recs.get m).coils.get j = (s.loops.recs.get m).coils.get j) ∧
          (∀ m, (u.loops.recs.get m).state =
            if m = n then loopStateBy (u.loops.recs.get n).coils else (s.loops.recs.get m).state) ∧
          u.loops.posClass = classBy u.loops.recs.l0.coils ∧
          u.loops.stationNear = (if n = 3 ∧ i ≠ .rear then
              nearBy s.plan.applied.nearAmp s.loops.stationNear u.loops.recs.l3.coils else s.loops.stationNear) ∧
          u.guard = { s.guard with
            recovery := u.guard.recovery, escape := u.guard.escape, noSignal := u.guard.noSignal } ∧
          GuardHears s u ∧
          (ClassMoved s u → s.guard.recovery = true → Judged s u) ∧
          (¬ (ClassMoved s u ∧ s.guard.recovery = true) → u.blade = s.blade) ∧
          (s.noticesHeld = false → LoopPosts s u) ∧
          ∀ a, 0x040 ≤ a → a ≠ 0x180 → a < 0x2A0 ∨ 0x2E0 ≤ a → u.word a = s.word a)) ∧
    ((if s.recv.check.result = .running then f.value ≠ 15
      else f.value = 15 ∨ ∀ m, s.plan.applied.loopMap.get m ≠ f.value) →
      ∃ u, exec (.comparatorTrailingEdge i t peak) s = .next u ∧
        u = { answer { done with
            foreign := if c.foreign < 65535 then c.foreign + 1 else 65535, lastForeign := some f.value } with
          port := { s.port with loopTable := u.port.loopTable }
          mem := u.mem } ∧
        ∀ a, a ≠ 0x180 → u.word a = s.word a) ∧
    (s.recv.check.result = .running → f.value = 15 →
      let k := s.recv.check.coils.get i
      let sent : Polarity := if s.recv.check.begun ≤ 4 then .positive else .negative
      exec (.comparatorTrailingEdge i t peak) s = .next { answer done with recv := { (answer done).recv with
        check := { s.recv.check with coils := s.recv.check.coils.set i { k with
          decoded := k.decoded + 1, mismatch := if f.start = sent then k.mismatch else k.mismatch + 1 } } } })

/-- R5, R14, R15, R19, R22, R38: the polarity sample is taken once, from 25 us after the leading edge on, of the coil or,
while a self-check runs, of its internal source; and an open pulse that reaches 231 us is judged at once as if its width
were that, its pulse state becoming LOST: in HUNT that width begins no frame. A gap timer that runs and has come to its
expiry breaks the frame: the malformed count rises (its change starts a refresh of the loop table mirror, or sets that
mirror's again flag), the decoder is in HUNT, the timer stops; stopped, paused or not yet due it does nothing. The model's
part: log entries 1, 2 and 38. -/
def Obligations.ReceiverTimers : Prop :=
  ∀ (i : Coil) (t : Capture) (s : State), s.resetting = none →
    let c := s.recv.channels.get i
    let answer (d : Channel) : State :=
      { s with timebase := t, recv := { s.recv with channels := s.recv.channels.set i d } }
    let shown (level : Level) : Level :=
      if s.recv.check.result = .running then
        (if SourceSends s t then (if s.recv.check.begun ≤ 4 then .positive else .negative) else .inside)
      else level
    (∀ leading level, c.pulse = .opened leading none →
      exec (.polaritySample i t level) s = .next (answer (if due t (leading + 25) then
        { c with pulse := .opened leading (some (match shown level with
                                                 | .positive => .positive
                                                 | .negative => .negative
                                                 | .inside => .void)) } else c))) ∧
    (∀ level, (∀ leading, c.pulse ≠ .opened leading none) → exec (.polaritySample i t level) s = .next (answer c)) ∧
    (∀ leading sample, c.pulse = .opened leading sample → due t (leading + 231) = true → c.decoder = .hunt →
      sample ≠ some .void →
      exec (.overLengthExpiry i t) s = .next (answer { c with pulse := .lost })) ∧
    (∀ leading sample, c.pulse = .opened leading sample → due t (leading + 231) = false →
      exec (.overLengthExpiry i t) s = .next (answer c)) ∧
    ((∀ leading sample, c.pulse ≠ .opened leading sample) → exec (.overLengthExpiry i t) s = .next (answer c)) ∧
    ((∀ e, c.gap = .running e → due t e = false) → exec (.gapTimerExpiry i t) s = .next { s with timebase := t }) ∧
    ∀ e, c.gap = .running e → due t e = true →
      ∃ u, exec (.gapTimerExpiry i t) s = .next u ∧
        u = { s with
          timebase := t
          recv := { s.recv with channels := s.recv.channels.set i { c with
            malformed := if c.malformed < 65535 then c.malformed + 1 else 65535
            decoder := .hunt
            gap := .stopped } }
          port := { s.port with loopTable := u.port.loopTable }
          mem := u.mem } ∧
        (c.malformed < 65535 → s.port.loopTable.writing = none →
          u.port.loopTable.writing.isSome = true ∧ u.mem = s.mem.write 0x180 (s.word 0x180 + 1)) ∧
        (c.malformed < 65535 → s.port.loopTable.writing.isSome = true →
          u.port.loopTable = { s.port.loopTable with again := true } ∧ u.mem = s.mem) ∧
        (c.malformed = 65535 → u.port.loopTable = s.port.loopTable ∧ u.mem = s.mem)

/-- R7, R9, R10, R12, R14, R15: a switching edge of an output whose duty is neither 0 nor full opens the blanking
interval, or moves its end to the edge plus BLANK (log entry 21); with BLANK 0, or an output that does not switch, it does
nothing. At the interval's end it closes, and held trailing edges are taken, the pulse stretched to that end: a glitch is
discarded and a paused gap timer runs on or expires; any other pulse goes to the decoder, which begins a frame, adds a bit
or breaks the frame with it (a bit that completes a frame apart); and the pulse state becomes LOST where a leading edge
was noted, else NONE. The model's part: log entries 1, 2 and 15 (a pulse whose polarity sample never came goes to
the decoder without a polarity, begins no frame and breaks one). -/
def Obligations.Blanking : Prop :=
  ∀ (t : Capture) (s : State), s.resetting = none →
    (∀ o : PwmOutput, (∀ e, s.recv.blankEnd = some e → due t e = false) →
      let duty : Nat := match o with
                        | .leftWheel => s.drive.wheels.left.duty.natAbs
                        | .rightWheel => s.drive.wheels.right.duty.natAbs
                        | .blade => s.blade.duty
      (0 < duty → duty < 1000 → s.plan.applied.blank ≠ 0 →
        exec (.switchingEdge o t) s = .next { s with
          timebase := t
          recv := { s.recv with blankEnd := some (t + BitVec.ofNat 32 s.plan.applied.blank) } }) ∧
      (duty = 0 ∨ 1000 ≤ duty ∨ s.plan.applied.blank = 0 →
        exec (.switchingEdge o t) s = .next { s with timebase := t })) ∧
    ((∀ e, s.recv.blankEnd = some e → due t e = false) → exec (.blankingEnd t) s = .next { s with timebase := t }) ∧
    ∀ e, s.recv.blankEnd = some e → due t e = true →
      let broken (c : Channel) : Channel :=
        { c with malformed := if c.malformed < 65535 then c.malformed + 1 else 65535, decoder := .hunt, gap := .stopped }
      let begins (c : Channel) (w : Nat) (q : Option Polarity) : Channel :=
        match q with
        | some q => if 170 ≤ w ∧ w ≤ 230 then
            { c with decoder := .ident ⟨q, c.peak, 0, 0⟩, prevTrailing := e, gap := .running (e + 71) } else c
        | none => c
      let taken (c : Channel) (leading : Capture) (sample : Option Sample) : Channel :=
        let w := since e leading
        let q := sample.bind Sample.polarity
        let ended : Channel :=
          { c with pulse := if c.noted then .lost else .none, held := false, noted := false }
        let passes (f : Frame) : Prop := 30 ≤ since leading c.prevTrailing ∧ since leading c.prevTrailing ≤ 70 ∧
          q = some f.start ∧ (30 ≤ w ∧ w ≤ 70 ∨ 80 ≤ w ∧ w ≤ 120)
        let bit : Nat := if w ≤ 70 then 0 else 1
        if w < 25 ∨ sample = some .void then
          (match c.gap with
           | .paused x => if due e x then broken ended else { ended with gap := .running x }
           | .running x => { ended with gap := .running x }
           | .stopped => ended)
        else match c.decoder with
          | .hunt => begins ended w q
          | .ident f =>
            if passes f then
              { ended with
                decoder := if f.bits + 1 = 4 then .parity { f with bits := f.bits + 1, value := f.value * 2 + bit }
                           else .ident { f with bits := f.bits + 1, value := f.value * 2 + bit }
                prevTrailing := e
                gap := .running (e + 71) }
            else begins (broken ended) w q
          | .parity f => if passes f then broken ended else begins (broken ended) w q
      (∀ i : Coil, (s.recv.channels.get i).held = true →
        (∃ leading sample, (s.recv.channels.get i).pulse = .opened leading sample) ∧
        ∀ f, (s.recv.channels.get i).decoder = .parity f →
          ∀ leading sample, (s.recv.channels.get i).pulse = .opened leading sample →
            sample.bind Sample.polarity ≠ some f.start ∨
              (onesOf f.value + (if since e leading ≤ 70 then 0 else 1)) % 2 = 0) →
      ∃ u, exec (.blankingEnd t) s = .next u ∧
        u = { s with
          timebase := t
          recv := { s.recv with blankEnd := none, channels := u.recv.channels }
          port := { s.port with loopTable := u.port.loopTable }
          mem := u.mem } ∧
        (∀ i : Coil, ((s.recv.channels.get i).held = false → u.recv.channels.get i = s.recv.channels.get i) ∧
          ∀ leading sample, (s.recv.channels.get i).pulse = .opened leading sample →
            (s.recv.channels.get i).held = true →
            u.recv.channels.get i = taken (s.recv.channels.get i) leading sample) ∧
        (∀ a, a ≠ 0x180 → u.word a = s.word a) ∧
        ((∀ i : Coil, (u.recv.channels.get i).malformed = (s.recv.channels.get i).malformed) →
          u.port = s.port ∧ u.mem = s.mem)

/-- R21, R22, R23, R29: the self-check. Its request is taken in SAFE: the record is cleared and RUNNING, pulses and
frames in progress are discarded uncounted, the Loop Table's check flag and spoiled flag are set, and the answer is
DONE with the request in hand. Its intervals begin one by one, 25 ms apart (log entry 9). It ends 200 ms after its
start: a coil passes with seven or more frames decoded and none of the other polarity, and the check passes when all
three coils do. The model's part: log entry 2. -/
def Obligations.SelfCheck : Prop :=
  ∀ s : State, s.resetting = none →
    (s.guard.machine = .safe → s.port.inHand = .none →
      ∃ u, exec .selfCheck s = .next u ∧
        u = { s with
          recv := { s.recv with
            channels := s.recv.channels.map (fun c =>
              { c with pulse := .none, held := false, noted := false, decoder := .hunt, gap := .stopped })
            check := ⟨.running, s.partTime, s.recv.check.finish, ⟨⟨.none, 0, 0⟩, ⟨.none, 0, 0⟩, ⟨.none, 0, 0⟩⟩, 0⟩ }
          loops := { s.loops with checkFlag := true, spoiled := true }
          port := { s.port with
            requestCount := s.port.requestCount + 1
            args := s.argWords
            inHand := .selfCheck (s.port.requestCount + 1)
            answer := ⟨11, 1, 0, s.port.requestCount + 1⟩ }
          notice := u.notice
          mem := u.mem } ∧
        u.word 0x041 = 11 ∧ u.word 0x2E0 = 1) ∧
    (s.recv.check.result = .running → s.recv.check.begun < 8 →
      25 * s.recv.check.begun ≤ since s.partTime s.recv.check.start →
      exec .checkInterval s = .next { s with
        recv := { s.recv with check := { s.recv.check with begun := s.recv.check.begun + 1 } } }) ∧
    (s.recv.check.result = .running → 200 ≤ since s.partTime s.recv.check.start →
      let k := s.recv.check.coils
      ∃ u, exec .checkEnd s = .next u ∧
        u = { s with
          recv := { s.recv with
            channels := s.recv.channels.map (fun c =>
              { c with pulse := .none, held := false, noted := false, decoder := .hunt, gap := .stopped })
            check := { s.recv.check with
              result := if (7 ≤ k.left.decoded ∧ k.left.mismatch = 0) ∧ (7 ≤ k.right.decoded ∧ k.right.mismatch = 0) ∧
                          (7 ≤ k.rear.decoded ∧ k.rear.mismatch = 0) then .pass else .fail
              finish := s.partTime
              coils := s.recv.check.coils.map (fun c =>
                { c with verdict := if 7 ≤ c.decoded ∧ c.mismatch = 0 then .pass else .fail }) } }
          loops := { s.loops with checkFlag := false }
          port := { s.port with inHand := .none }
          notice := u.notice
          mem := u.mem }) ∧
    (s.recv.check.result ≠ .running → exec .checkInterval s = .next s ∧ exec .checkEnd s = .next s)

/-! ### Loop Table -/

/-- R29, R30, R31, R32, R34, R35, R160, R163, R164: a presence window that is judged (no self-check, not spoiled by one),
with no segment active. Each sub-record of each mapped loop takes the coil state of its window count, and one that enters
LOST loses side, candidate, agree count and amplitude; the count restarts at 0; each loop state follows its coil states,
and the class and the station-near flag theirs, with their notices, the no-signal timer and the escape distance. Outside
PARKED the timer restarts 500 ms long. A window that a self-check touched is passed over, with every count 0, and the
timer restarts 500 ms long, or 2000 ms while PARKED. A window not yet due does nothing. The model's part: log entry 2. -/
def Obligations.WindowJudgement : Prop :=
  ∀ s : State, s.resetting = none →
    (due s.partTime s.loops.windowTimer = false → exec .windowExpiry s = .next s) ∧
    (due s.partTime s.loops.windowTimer = true → (s.loops.checkFlag = true ∨ s.loops.spoiled = true) →
      ∃ u, exec .windowExpiry s = .next u ∧
        u = { s with loops := u.loops, port := u.port, mem := u.mem } ∧
        (∀ a, a ≠ 0x180 → u.word a = s.word a) ∧
        u.loops.windowTimer = s.loops.windowTimer + (if s.guard.machine = .parked then 2000 else 500) ∧
        u.loops.spoiled = (s.loops.checkFlag && s.loops.spoiled) ∧
        ∀ n i, (u.loops.recs.get n).coils.get i = { (s.loops.recs.get n).coils.get i with window := 0 }) ∧
    (due s.partTime s.loops.windowTimer = true → s.loops.checkFlag = false → s.loops.spoiled = false →
      s.plan.active = none →
      ∃ u, exec .windowExpiry s = .next u ∧
        u = { s with
          loops := u.loops
          blade := u.blade
          guard := u.guard
          dock := u.dock
          port := u.port
          notice := u.notice
          mem := u.mem } ∧
        (s.guard.machine ≠ .parked → u.loops.windowTimer = s.loops.windowTimer + 500) ∧
        (∀ n, s.plan.applied.loopMap.get n ≠ 15 → ∀ i,
          let r := (s.loops.recs.get n).coils.get i
          let st : LoopState :=
            if r.window = 0 then .lost
            else if r.window ≤ (if s.guard.machine = .parked then 139 else 34) then .weak
            else if r.window ≤ (if s.guard.machine = .parked then 240 else 60) then .present
            else .noisy
          (u.loops.recs.get n).coils.get i =
            if st = .lost ∧ r.state ≠ .lost then
              { r with state := .lost, side := .unknown, candidate := none, agree := 0, amplitude := 0, window := 0 }
            else { r with state := st, window := 0 }) ∧
        (∀ n, (u.loops.recs.get n).state =
          if s.plan.applied.loopMap.get n = 15 then .unused else loopStateBy (u.loops.recs.get n).coils) ∧
        u.loops.posClass = classBy u.loops.recs.l0.coils ∧
        u.loops.stationNear = nearBy s.plan.applied.nearAmp s.loops.stationNear u.loops.recs.l3.coils ∧
        GuardHears s u ∧ (s.noticesHeld = false → LoopPosts s u))

/-- R125, R130, R131, R157, R170, R191: START ends at the later of the first judged window and the blade's OFF, in either
order: at a judged window with the blade already OFF, or at the blade period or the slow brake that ends BRAKING with a
window already judged. The machine is then SAFE and an outstanding RESTART is answered DONE; at the first of the two the
machine stays in START. The model's part: log entries 1 and 2. -/
def Obligations.StartEndsAtWindow : Prop :=
  let stays (s u : State) : Prop :=
    u.guard.machine = .start ∧ u.port.inHand = s.port.inHand ∧ u.port.answer = s.port.answer
  let ends (s u : State) : Prop :=
    u.guard.machine = .safe ∧ u.word 0x002 = 1 ∧
      ∀ count, s.port.inHand = .restart count → u.port.inHand = .none ∧ u.port.answer = ⟨12, 1, 0, count⟩
  (∀ s : State, s.resetting = none → due s.partTime s.loops.windowTimer = true → s.loops.checkFlag = false →
    s.loops.spoiled = false → s.plan.active = none → s.guard.machine = .start →
    ∃ u, exec .windowExpiry s = .next u ∧ u.guard.windowJudged = true ∧
      (s.guard.bladeOff = false → stays s u) ∧ (s.guard.bladeOff = true → ends s u)) ∧
  ∀ (c : Instr) (s : State), s.resetting = none → s.guard.machine = .start → s.blade.state = .braking →
    ((∃ t, c = .bladePeriod t ∧ due s.partTime s.blade.timer = true ∧ Stopped s t) ∨
      ∃ e, c = .brakeSlow ∧ s.blade.brakeTimer = some e ∧ due s.partTime e = true) →
    ∃ u, exec c s = .next u ∧ u.blade.state = .off ∧ u.blade.brake = false ∧ u.guard.bladeOff = true ∧
      (s.guard.windowJudged = false → stays s u) ∧ (s.guard.windowJudged = true → ends s u)

/-! ### Drive Controller, Speed Governor, Plan Engine's timers -/

/-- R71, R76, R78, R106, R107, R108, R109, R110, R111, R112, R113, R114: a control period restarts its timer, advances the
pose by the travel of the two wheels, clears the period pulse counts, takes pitch, roll and slope from the two readings,
recomputes the seven contributors (stated where neither an end of step 3 nor a trip comes before them) and the cap, their
least, and publishes the motion direction of the new targets; before its time it does nothing but carry the capture count.
The model's part: log entries 1, 2, 39 and 43. -/
def Obligations.ControlPeriodAdvances : Prop :=
  ∀ (t : Capture) (pitch roll : Byte) (s : State), s.resetting = none →
    (due s.partTime s.drive.timer = false →
      exec (.controlPeriod t pitch roll) s = .next { s with timebase := t }) ∧
    (due s.partTime s.drive.timer = true →
      let dl : Int := s.drive.wheels.left.count * s.plan.applied.mmPer256
      let dr : Int := s.drive.wheels.right.count * s.plan.applied.mmPer256
      let turn : Int := Int.tdiv ((dr - dl) * 10430) (s.plan.applied.trackWidth * 256)
      let m : Int := Int.tdiv (dl + dr) 2
      let k : Nat := (s.drive.heading + BitVec.ofInt 16 (Int.tdiv turn 2)).toNat / 64
      let top : Int := 2147483647 * 256
      let risen (v rise : Int) : Int := if rise = 0 then v else max (-top) (min top (v + rise))
      let p : Int := Int.tdiv (((pitch.toNat : Int) - 128) * 90) 256
      let q : Int := Int.tdiv (((roll.toNat : Int) - 128) * 90) 256
      ∃ u, exec (.controlPeriod t pitch roll) s = .next u ∧ u.timebase = t ∧ u.partTime = s.partTime ∧
        u.drive.timer = s.drive.timer + 10 ∧ u.recv = s.recv ∧ u.pins = s.pins ∧
        u.drive.x = risen s.drive.x (Int.tdiv (m * cosineEntry k) 32768) ∧
        u.drive.y = risen s.drive.y (Int.tdiv (m * sineEntry k) 32768) ∧
        u.drive.heading = s.drive.heading + BitVec.ofInt 16 turn ∧
        u.drive.wheels.left.count = 0 ∧ u.drive.wheels.right.count = 0 ∧
        u.gov.pitch = p ∧ u.gov.roll = q ∧ u.gov.slope = max p.natAbs q.natAbs ∧ CapLaw u ∧
        ((∀ seg, s.plan.active = some seg → ¬ BasicEnds s seg) →
          (s.guard.machine ≠ .armed ∨ s.guard.recovery = true ∨ s.loops.posClass ≠ .outsideAll ∨
            min 4294967295 (s.guard.escape + m.natAbs) / 256 < s.plan.applied.escapeLimit) →
          let a := s.plan.applied
          let sl := max p.natAbs q.natAbs
          let nearing (r : Nat) : Option Nat := if r < 1000 then some (120 + (max r 300 - 300) * 680 / 700) else none
          u.gov.table =
            { global := some (max 100 (min 800 (s.word 0x060).toNat))
              slope := if sl ≤ a.slopeSoft then none
                       else if a.slopeHard ≤ sl then some a.slopeFloor
                       else some (800 - (sl - a.slopeSoft) * (800 - a.slopeFloor) / (a.slopeHard - a.slopeSoft))
              blade := if s.blade.state = .cutting ∧ a.loadSoft < s.blade.load then
                         some (800 - (s.blade.load - a.loadSoft) * 560 / (100 - a.loadSoft)) else none
              sonar := if s.drive.motion = .forward then
                         (match s.contact.sonar.left.range, s.contact.sonar.right.range with
                          | none, none => none
                          | some l, none => nearing l
                          | none, some r => nearing r
                          | some l, some r => nearing (min l r)) else none
              wire := if 0 < s.track.published then some 200 else none
              jam := if s.blade.state = .jammed then some 0 else none
              dock := match s.dock.run with
                      | .dock _ => if s.loops.stationNear then some a.dockSpeed else none
                      | .undock _ => none
                      | .none => none }) ∧
        u.drive.motion =
          (let sum := u.drive.wheels.left.target + u.drive.wheels.right.target
           if 0 < sum then .forward else if sum < 0 then .reverse else .still))

/-- R70, R75: the measured speed of a wheel at a control period, from the period or the time since the last pulse,
whichever is longer, clamped to 2000 mm/s, with the sign of the direction flag that stood before the period; and the
duty from the new target and that speed: 0 with the integrator 0 when both are 0, else the clamped sum of the
feed-forward and the integrator, which takes KI / 256 of the difference. The model's part: log entry 18. -/
def Obligations.MeasuredSpeedAndDuty : Prop :=
  ∀ (t : Capture) (pitch roll : Byte) (i : LR) (s : State), s.resetting = none →
    due s.partTime s.drive.timer = true →
    let w := s.drive.wheels.get i
    let speed (p : Nat) : Int :=
      (if w.forward then 1 else -1) * (min (s.plan.applied.mmPer256 * 1000000 / (256 * p)) 2000 : Nat)
    ∃ u, exec (.controlPeriod t pitch roll) s = .next u ∧
      (w.lastPulse = none ∨ w.period = none → (u.drive.wheels.get i).measured = 0) ∧
      (∀ lp, w.lastPulse = some lp → 250000 ≤ since t lp →
        (u.drive.wheels.get i).measured = 0 ∧ (u.drive.wheels.get i).lastPulse = none ∧
          (u.drive.wheels.get i).period = none) ∧
      (∀ lp p, w.lastPulse = some lp → w.period = some p → since t lp < 250000 →
        (u.drive.wheels.get i).measured = speed (max p (since t lp)) ∧
          (u.drive.wheels.get i).lastPulse = some lp ∧ (u.drive.wheels.get i).period = some p) ∧
      let v := u.drive.wheels.get i
      let a := u.plan.applied
      (v.target = 0 ∧ v.measured = 0 → v.integrator = 0 ∧ v.duty = 0) ∧
      (¬ (v.target = 0 ∧ v.measured = 0) →
        v.integrator = max (-600) (min 600 (w.integrator + Int.tdiv ((v.target - v.measured) * a.ki) 256)) ∧
        v.duty = max (-1000) (min 1000 (Int.tdiv (v.target * a.kf) 256 + v.integrator)))

/-- R74: the new target of a control period, wheel by wheel, from some request within −800..+800, the target in force
and ACCEL clamped to 5..100: 0 for the request 0, the request at once when it has the target's sign and no greater
magnitude, else a magnitude that grows by ACCEL at most, starting from 0 at a change of sign. -/
def Obligations.RateLimit : Prop :=
  ∀ (t : Capture) (pitch roll : Byte) (i : LR) (s : State), s.resetting = none →
    due s.partTime s.drive.timer = true →
    let old := (s.drive.wheels.get i).target
    let accel := max 5 (min 100 (s.word 0x061).toNat)
    ∃ (u : State) (request : Int), exec (.controlPeriod t pitch roll) s = .next u ∧
      -800 ≤ request ∧ request ≤ 800 ∧
      (u.drive.wheels.get i).target =
        (if request = 0 then 0
         else if 0 < request * old ∧ request.natAbs ≤ old.natAbs then request
         else if 0 < request * old ∨ old = 0 then request.sign * (min request.natAbs (old.natAbs + accel) : Nat)
         else request.sign * (min request.natAbs accel : Nat))

/-- R71, R72, R74, R78, R80, R81, R82, R84, R85, R86, R87: a ROLL, TURN or PAUSE in a control period that finds no hazard.
The run distance, run turn and run time take the period. With the time limit not passed and its distance, angle or time
not reached it runs on, and the two targets follow from its pair, by the cap and the rate limit, or are 0 while it is
suspended; else it ends, TIMEOUT before REACHED, and with no next slot the plan is IDLE and the targets are 0. The model's
part: log entries 2 and 14 (which period's travel counts as the segment's run). -/
def Obligations.RollDrives : Prop :=
  ∀ (t : Capture) (pitch roll : Byte) (s : State) (seg : Segment), CalmPeriod s pitch roll → s.plan.active = some seg →
    (seg.fields.kind = 1 ∨ seg.fields.kind = 2 ∨ seg.fields.kind = 3) → s.contact.stage = .quiet →
    (¬ BasicEnds s seg →
      ∃ u, exec (.controlPeriod t pitch roll) s = .next u ∧ u.guard.machine = .armed ∧
        u.drive.runDist = runDistance s ∧ u.drive.runTurn = runAngle s ∧ u.drive.runTime = runTimeMs s ∧
        u.drive.segDist = travelled s s.drive.segDist ∧
        (s.drive.suspended = false → Takes s u (basicPair s u seg.fields)) ∧ (s.drive.suspended = true → AtRest u) ∧
        (s.contact.stall = ⟨none, none⟩ → u.plan.active = some seg)) ∧
    (BasicEnds s seg → seg.fields.next = 255 →
      ∃ u, exec (.controlPeriod t pitch roll) s = .next u ∧ u.guard.machine = .armed ∧ u.plan.state = .idle ∧
        Over u seg (if TimeUp s seg then slotCut else slotDone) (if TimeUp s seg then 6 else 1) ∧ AtRest u)

/-- R69, R118: encoder and Hall pulses. One that comes less than 200 us, or 1000 us, after the pulse before it is ignored;
an accepted one gives the period, and an encoder pulse moves its wheel's count, limited to ±255, by the direction flag.
The model's part: log entries 1 and 36 (a pulse later than 250,000 us, or 100,000 us, gives its time as the period). -/
def Obligations.PulseInputs : Prop :=
  ∀ (t : Capture) (s : State), s.resetting = none →
    (∀ i : LR,
      let w := s.drive.wheels.get i
      let counted : Int := max (-255) (min 255 (if w.forward then w.count + 1 else w.count - 1))
      let answer (v : WheelState) : State :=
        { s with timebase := t, drive := { s.drive with wheels := s.drive.wheels.set i v } }
      (w.lastPulse = none → exec (.encoderPulse i t) s =
        .next (answer { w with lastPulse := some t, period := none, count := counted })) ∧
      (∀ lp, w.lastPulse = some lp → 200 ≤ since t lp → exec (.encoderPulse i t) s =
        .next (answer { w with lastPulse := some t, period := some (since t lp), count := counted })) ∧
      (∀ lp, w.lastPulse = some lp → since t lp < 200 → exec (.encoderPulse i t) s = .next (answer w))) ∧
    (s.blade.lastPulse = none →
      exec (.hallPulse t) s = .next { s with timebase := t, blade := { s.blade with lastPulse := some t } }) ∧
    (∀ lp, s.blade.lastPulse = some lp → 1000 ≤ since t lp →
      exec (.hallPulse t) s = .next { s with
        timebase := t, blade := { s.blade with lastPulse := some t, period := some (since t lp) } }) ∧
    (∀ lp, s.blade.lastPulse = some lp → since t lp < 1000 → exec (.hallPulse t) s = .next { s with timebase := t })

/-- R45, R46, R47, R48, R49, R50, R56, R62, R63: the waiting check and the hold timer. A check of a slot still not QUEUED
restarts its 10 ms timer; one that finds it QUEUED, nothing newly staged and no reflex, with a segment of any kind that
can run and that no test of its activation ends, makes it the ACTIVE segment, its fields clamped and captured, its results
cleared, the accumulators zeroed, its watch recorded and its owner begun. A hold timer that expires makes the standing
directive OFF, and a driven blade brakes. A timer that is stopped or not due does nothing. The model's part: log entries 2
and 11. -/
def Obligations.PlanTimers : Prop :=
  ∀ s : State, s.resetting = none →
    (∀ e h, s.plan.waitTimer = some e → s.plan.waiting = some h → due s.partTime e = true →
      s.guard.machine = .armed → s.slotState h ≠ slotQueued →
      exec .waitingCheck s = .next { s with plan := { s.plan with waitTimer := some (e + 10) } }) ∧
    (∀ e h, s.plan.waitTimer = some e → s.plan.waiting = some h → due s.partTime e = true →
      s.guard.machine = .armed → s.contact.stage = .quiet → s.word 0x0BF = s.plan.appliedGen → RunsOn s h →
      ∃ u seg, exec .waitingCheck s = .next u ∧
        u = { s with
          plan := u.plan, drive := u.drive, track := u.track, dock := u.dock, blade := u.blade, notice := u.notice
          mem := u.mem } ∧
        Activated s u h seg ∧ ((s.slotFields h).kind ≠ 5 → u.notice = s.notice) ∧
        ∀ a, (a < slotBase h ∨ slotBase h + 30 ≤ a) → (a < 0x2A0 ∨ 0x2C0 ≤ a) →
          ((s.slotFields h).kind = 5 ∨ (s.slotFields h).kind = 6 → 0x040 ≤ a ∧ (a < 0x2C0 ∨ 0x2CD ≤ a)) →
          u.word a = s.word a) ∧
    ((∀ e, s.plan.waitTimer = some e → due s.partTime e = false) → exec .waitingCheck s = .next s) ∧
    ((∀ e, s.plan.holdTimer = some e → due s.partTime e = false) → exec .holdTimerExpiry s = .next s) ∧
    ∀ e, s.plan.holdTimer = some e → due s.partTime e = true →
      ∃ u, exec .holdTimerExpiry s = .next u ∧
        u = { s with
          plan := { s.plan with holdTimer := none, standing := .off }
          blade := u.blade
          mem := u.mem } ∧
        u.blade.effective = .off ∧
        (Driven s.blade.state →
          u.blade.state = .braking ∧ u.blade.duty = 0 ∧ u.blade.brake = true ∧
            u.blade.brakeTimer = some (s.partTime + 2000) ∧ u.word 0x2A0 = 3) ∧
        (¬ Driven s.blade.state → u.blade = { s.blade with effective := .off } ∧ u.mem = s.mem) ∧
        ∀ a, a < 0x2A0 ∨ 0x2A7 < a → u.word a = s.word a

/-! ### Blade Controller -/

/-- R118, R119, R123, R124, R125, R127, R128, R130: a blade period restarts its timer and takes the rpm. SPINUP raises the
duty by 20 until 80 % of the target is reached, and is then CUTTING; CUTTING regulates the duty while the rpm holds 30 % of
the target. A blade found stopped leaves BRAKING for OFF, with the brake off, or at once for SPINUP on a directive of CUT; it
ends the BRAKE phase of a jam in WAIT, or of a final one in LOCKED_OUT. In any other state nothing but the readings moves. The
load is a tenth of the duty in SPINUP and CUTTING, else 0. The model's part: log entries 1, 2, 18 and 36. -/
def Obligations.BladePeriod : Prop :=
  ∀ (t : Capture) (s : State), s.resetting = none →
    (due s.partTime s.blade.timer = false → exec (.bladePeriod t) s = .next { s with timebase := t }) ∧
    (due s.partTime s.blade.timer = true →
      let rpm : Nat :=
        match s.blade.lastPulse, s.blade.period with
        | some lp, some p => if since t lp < 100000 then 30000000 / max p (since t lp) else 0
        | _, _ => 0
      let target := max 2000 (min 4000 (s.word 0x064).toNat)
      ∃ u, exec (.bladePeriod t) s = .next u ∧ u.timebase = t ∧ u.partTime = s.partTime ∧ u.recv = s.recv ∧
        u.blade.timer = s.blade.timer + 10 ∧ u.blade.rpm = rpm ∧
        u.blade.load = (if u.blade.state = .spinup ∨ u.blade.state = .cutting then u.blade.duty / 10 else 0) ∧
        (rpm ≤ 6000 → s.blade.state = .spinup → target * 80 / 100 ≤ rpm →
          u.blade.state = .cutting ∧ u.blade.duty = s.blade.duty ∧
            (s.guard.machine ≠ .start → Posts s u .blade 1 [wordN rpm])) ∧
        (rpm ≤ 6000 → s.blade.state = .spinup → rpm < target * 80 / 100 →
          since s.partTime s.blade.spinupEntry < 3000 →
          u.blade.state = .spinup ∧ u.blade.duty = min 1000 (s.blade.duty + 20)) ∧
        (rpm ≤ 6000 → s.blade.state = .cutting → target * 30 / 100 ≤ rpm →
          u.blade.state = .cutting ∧ u.blade.lowStart = none ∧
            (u.blade.duty : Int) = max 0 (min 1000
              ((s.blade.duty : Int) + Int.tdiv (((target : Int) - rpm) * s.plan.applied.kb) 1024))) ∧
        (s.blade.state = .braking → Stopped s t →
          (s.effectiveDirective = .off →
            u.blade.state = .off ∧ u.blade.duty = 0 ∧ u.blade.brake = false ∧ u.blade.brakeTimer = none) ∧
          (s.effectiveDirective = .cut → SpinsUp s u)) ∧
        (s.blade.state = .jammed → s.blade.jamPhase = some .brake → Stopped s t →
          u.blade.duty = s.blade.duty * (if s.blade.final then 0 else 1) ∧ u.blade.brake = false ∧
            u.blade.brakeTimer = none ∧
          (s.blade.final = true → u.blade.state = .lockedOut ∧ u.blade.jamPhase = none ∧
            (s.guard.machine ≠ .start → Posts s u .blade 4 [wordN s.blade.jamCount])) ∧
          (s.blade.final = false → u.blade.state = .jammed ∧ u.blade.jamPhase = some .wait ∧
            u.blade.waitTimer = some (s.partTime + 1000) ∧ u.notice = s.notice)) ∧
        (rpm ≤ 6000 → s.blade.state = .off ∨ s.blade.state = .lockedOut ∨ s.blade.state = .braking ∧ ¬ Stopped s t ∨
            s.blade.state = .jammed ∧ (s.blade.jamPhase ≠ some .brake ∨ ¬ Stopped s t) →
          u.blade = { s.blade with
            timer := s.blade.timer + 10, rpm := rpm, load := 0, runaway := false
            effective := u.blade.effective, lastPulse := u.blade.lastPulse, period := u.blade.period }))

/-- R118, R126: a jam. A SPINUP that has not reached 80 % of its target after 3000 ms, and a CUTTING whose rpm has stood below
30 % of the target for 500 ms, brake the blade and count a jam, whether the blade stands or turns too slowly; the jam is
final when the last one lies 30,000 ms or less back. The model's part: log entries 1 and 18. -/
def Obligations.JamEvent : Prop :=
  ∀ (t : Capture) (s : State), s.resetting = none → due s.partTime s.blade.timer = true →
    s.guard.machine = .armed →
    let rpm : Nat :=
      match s.blade.lastPulse, s.blade.period with
      | some lp, some p => if since t lp < 100000 then 30000000 / max p (since t lp) else 0
      | _, _ => 0
    let target := max 2000 (min 4000 (s.word 0x064).toNat)
    (s.blade.state = .spinup ∧ rpm < target * 80 / 100 ∧ 3000 ≤ since s.partTime s.blade.spinupEntry ∨
      s.blade.state = .cutting ∧ rpm < target * 30 / 100 ∧
        ∃ low, s.blade.lowStart = some low ∧ 500 ≤ since s.partTime low) →
    ∃ u, exec (.bladePeriod t) s = .next u ∧
      u = { s with timebase := t, blade := u.blade, notice := u.notice, mem := u.mem } ∧
      u.blade.state = .jammed ∧ u.blade.jamPhase = some .brake ∧ u.blade.duty = 0 ∧ u.blade.brake = true ∧
      u.blade.brakeTimer = some (s.partTime + 2000) ∧ u.blade.brakeStart = some t ∧
      u.blade.jamCount = (if s.blade.jamCount < 255 then s.blade.jamCount + 1 else 255) ∧
      u.blade.lastJam = some s.partTime ∧
      u.blade.lastFault = (if s.blade.state = .spinup then .startStall else .jam) ∧
      (u.blade.final = true ↔ ∃ last, s.blade.lastJam = some last ∧ since s.partTime last ≤ 30000) ∧
      Posts s u .blade (if s.blade.state = .spinup then 3 else 2) [wordN rpm] ∧ u.blade.rpm = rpm ∧ u.word 0x2A0 = 4

/-- R123, R127, R128, R130, R131: outside START, the brake timer of a blade that has not stopped, and the wait timer of a jam.
The slow brake is noted and posted, and the brake released; BRAKING then ends as at a stop, a final jam locks the blade out,
another jam waits 1000 ms, after which the blade is OFF. Where BRAKING or the wait ends on a directive of CUT, the blade spins
up at once. A timer that is stopped or not due does nothing. The model's part: log entry 2. -/
def Obligations.BladeTimers : Prop :=
  ∀ s : State, s.resetting = none → s.guard.machine ≠ .start →
    ((∀ e, s.blade.brakeTimer = some e → due s.partTime e = false) → exec .brakeSlow s = .next s) ∧
    ((∀ e, s.blade.waitTimer = some e → due s.partTime e = false) → exec .waitTimerExpiry s = .next s) ∧
    (∀ e, s.blade.brakeTimer = some e → due s.partTime e = true →
      ∃ u, exec .brakeSlow s = .next u ∧
        u = { s with
          plan := u.plan, blade := u.blade, guard := u.guard, notice := u.notice, mem := u.mem } ∧
        u.blade.brake = false ∧ u.blade.brakeTimer = none ∧ u.blade.lastFault = .brakeSlow ∧
        u.guard = { s.guard with trip := { s.guard.trip with
          brakeSlow := s.guard.trip.brakeSlow || decide (s.guard.machine = .tripped) } } ∧
        (¬ (s.blade.state = .jammed ∧ s.blade.final = true) → Posts s u .blade 5 [wordN s.blade.rpm]) ∧
        (s.blade.state = .braking →
          (s.effectiveDirective = .off → u.blade.state = .off ∧ u.blade.duty = 0) ∧
          (s.effectiveDirective = .cut → SpinsUp s u)) ∧
        (s.blade.state = .jammed → s.blade.final = true → u.blade.state = .lockedOut ∧ u.blade.duty = 0 ∧
          u.notice.blade = { postedTo s .blade 4 [wordN s.blade.jamCount] with
            count := min 255 (s.notice.blade.count + 2) }) ∧
        (s.blade.state = .jammed → s.blade.final = false →
          u.blade.state = .jammed ∧ u.blade.jamPhase = some .wait ∧
            u.blade.waitTimer = some (s.partTime + 1000))) ∧
    ∀ e, s.blade.waitTimer = some e → due s.partTime e = true →
      ∃ u, exec .waitTimerExpiry s = .next u ∧
        u = { s with plan := u.plan, blade := u.blade, mem := u.mem } ∧
        u.blade.duty = 0 ∧ u.blade.brake = false ∧ u.blade.waitTimer = none ∧
        u.blade.effective = s.effectiveDirective ∧ (s.effectiveDirective = .off → u.blade.state = .off) ∧
        (s.effectiveDirective = .cut → SpinsUp s u)

/-! ### Contact Unit -/

/-- R137, R162: the edges of a bump input and of a lift input. A closing of an OPEN input starts its debounce, 20 ms
or 100 ms; an opening makes it OPEN and stops the timer; the input's level follows in any case. The model's part: log
entry 3. -/
def Obligations.InputEdges : Prop :=
  ∀ (i : LR) (e : Edge) (s : State), s.resetting = none →
    (let levelled : State := { s with pins := { s.pins with bump := s.pins.bump.set i (decide (e = .closing)) } }
     let answer (d : Debounce) (t : Option Time) : State :=
       { levelled with contact := { s.contact with
           bump := s.contact.bump.set i d, bumpTimer := s.contact.bumpTimer.set i t } }
     exec (.bumpEdge i e) s = .next
       (if e = .closing then
          (if s.contact.bump.get i = .opened then answer .closing (some (s.partTime + 20)) else levelled)
        else (if s.contact.bump.get i = .opened then levelled else answer .opened none))) ∧
    (let levelled : State := { s with pins := { s.pins with lift := s.pins.lift.set i (decide (e = .closing)) } }
     let answer (d : Debounce) (t : Option Time) : State :=
       { levelled with guard := { s.guard with
           lift := s.guard.lift.set i d, liftTimer := s.guard.liftTimer.set i t } }
     exec (.liftEdge i e) s = .next
       (if e = .closing then
          (if s.guard.lift.get i = .opened then answer .closing (some (s.partTime + 100)) else levelled)
        else (if s.guard.lift.get i = .opened then levelled else answer .opened none)))

/-- R137, R141, R142, R143, R144, R147, R148, R149, R150, R151, R153: a bump closure that holds for 20 ms becomes CLOSED.
While ARMED it forms a contact: the newest entry of the list, no more than 50 ms old, has the input's source, and the list
still holds at most 8. A contact with no entry so young is appended: it is DISCARDED with no segment, starts a reflex of a
ROLL, TURN, PAUSE or TRACK in STOPPING and suspends it, joins a reflex's hits in STOPPING, or restarts it from BACKING or
TURNING; with too many near entries, or at a third restart, the machine is trapped, AREA or RESTARTS. Outside ARMED
nothing more follows, and a timer that is stopped or not due does nothing. A wheel that stands at a duty of 900 or more
for 300 ms forms a stall contact, which starts a reflex alike. The stages of that reflex, control period by control
period: STOPPING until both wheels stand or 300 ms have passed; BACKING by REFLEX_BACK; TURNING by REFLEX_TURN away from
the side that was hit; a stage that stands still for 2000 ms is a trap and the plan is HELD; the end resumes the ROLL,
holds or goes on by its on_contact, and activates a deferred head. The model's part: log entries 1, 2, 25 and 35. -/
def Obligations.BumpContacts : Prop :=
  ∀ (i : LR) (s : State), s.resetting = none →
    let src : BitVec 6 := match i with
                          | .left => 0x01
                          | .right => 0x02
    (let answer : State :=
      { s with contact := { s.contact with
          bump := s.contact.bump.set i .closed, bumpTimer := s.contact.bumpTimer.set i none } }
    ((∀ e, s.contact.bumpTimer.get i = some e → due s.partTime e = false) →
      exec (.bumpDebounceExpiry i) s = .next s) ∧
    ∀ e, s.contact.bumpTimer.get i = some e → due s.partTime e = true →
      (s.guard.machine ≠ .armed → exec (.bumpDebounceExpiry i) s = .next answer) ∧
      (s.guard.machine = .armed → s.contact.list.length ≤ 8 →
        ∃ u entry, exec (.bumpDebounceExpiry i) s = .next u ∧ u.contact.bump = answer.contact.bump ∧
          u.contact.bumpTimer = answer.contact.bumpTimer ∧ u.contact.list.getLast? = some entry ∧
          entry.sources &&& src = src ∧ since s.partTime entry.time ≤ 50 ∧ u.contact.list.length ≤ 8 ∧
          u.timebase = s.timebase ∧ u.partTime = s.partTime ∧ u.pins = s.pins ∧ u.recv = s.recv ∧ u.gov = s.gov ∧
          u.guard.machine = .armed) ∧
      ∀ seg, s.guard.machine = .armed → s.contact.list = [] → s.contact.stage = .quiet → s.plan.state = .running →
        s.plan.active = some seg → seg.fields.kind = 1 → 2 ≤ s.plan.applied.trapCount →
        ∃ u, exec (.bumpDebounceExpiry i) s = .next u ∧
          u = { s with
            plan := { s.plan with active := some { seg with
              contacts := if seg.contacts < 65535 then seg.contacts + 1 else 65535 } }
            drive := { s.drive with suspended := true }
            contact := { answer.contact with
              list := [⟨s.partTime, src, Int.tdiv s.drive.x 256, Int.tdiv s.drive.y 256, s.drive.heading, none,
                some seg.slot, none⟩]
              stage := .stopping
              record := ⟨s.partTime, seg.activation, src,
                ⟨s.contact.sonar.left.range, s.contact.sonar.right.range⟩, none, s.partTime, 0, 0, 0, 0⟩ }
            port := u.port
            mem := u.mem } ∧
          ∀ a, a ≠ 0x200 → u.word a = s.word a) ∧
    (s.guard.machine = .armed → (∀ e, s.contact.list.getLast? = some e → 50 < since s.partTime e.time) →
      ∀ e, s.contact.bumpTimer.get i = some e → due s.partTime e = true →
      let young := s.contact.list.filter (fun e => decide (since s.partTime e.time ≤ 600000))
      let kept := if young.length < 8 then young else young.drop 1
      let new : Entry := ⟨s.partTime, src, Int.tdiv s.drive.x 256, Int.tdiv s.drive.y 256, s.drive.heading, none,
        s.plan.active.map (fun seg => seg.slot), none⟩
      let off (a b : Int) : Int := max (-30000) (min 30000 (a - b))
      let near (e : Entry) : Bool := decide (since s.partTime e.time ≤ s.plan.applied.trapWindow * 1000 ∧
        off e.x new.x * off e.x new.x + off e.y new.y * off e.y new.y ≤
          (s.plan.applied.trapRadius : Int) * s.plan.applied.trapRadius)
      let area := s.plan.applied.trapCount ≤ (kept.filter near).length + 1
      let r := s.contact.record
      let inEpisode (o : ContactOutcome) (e : Entry) : Entry :=
        if due e.time r.episodeStart = true then { e with outcome := some o } else e
      let recapture (latest captured : Option Nat) : Option Nat := if latest.isSome = true then latest else captured
      ∃ u, exec (.bumpDebounceExpiry i) s = .next u ∧
        (s.contact.stage = .quiet → s.plan.active = none →
          u.plan = s.plan ∧ u.drive = s.drive ∧ u.contact.stage = .quiet ∧
            u.contact.list = kept ++ [{ new with outcome := some .discarded }]) ∧
        (s.contact.stage ≠ .quiet → area → s.plan.active = none → s.plan.state = .running →
          s.plan.deferred.isSome = true →
          u.contact.stage = .quiet ∧ u.plan.state = .held ∧ u.plan.deferred = none ∧ u.plan.heldSlot = none ∧
            u.notice.reflex = postedTo s .reflex 2 [1]) ∧
        ∀ seg, s.plan.active = some seg → s.plan.state = .running →
          (s.contact.stage = .quiet → 1 ≤ seg.fields.kind.toNat → seg.fields.kind.toNat ≤ 4 →
            (area → Trapped u seg 1 ∧ u.contact.list = kept ++ [{ new with outcome := some .trapped }] ∧
              u.drive.wheels = s.drive.wheels ∧ u.notice.reflex = postedTo s .reflex 2 [1]) ∧
            (¬ area → u.contact.stage = .stopping ∧ u.drive.suspended = true ∧ u.contact.list = kept ++ [new] ∧
              u.contact.record = ⟨s.partTime, seg.activation, src,
                ⟨s.contact.sonar.left.range, s.contact.sonar.right.range⟩, none, s.partTime, 0, 0, 0, 0⟩)) ∧
          (s.contact.stage ≠ .quiet → area →
            Trapped u seg 1 ∧ u.contact.list = (kept ++ [new]).map (inEpisode .trapped)) ∧
          (s.contact.stage = .stopping → ¬ area →
            u.contact.stage = .stopping ∧ u.contact.list = kept ++ [new] ∧
              u.contact.record = { r with hits := r.hits ||| src }) ∧
          (s.contact.stage = .backing ∨ s.contact.stage = .turning → ¬ area →
            (2 ≤ r.restarts → Trapped u seg 2 ∧ u.contact.list = (kept ++ [new]).map (inEpisode .trapped)) ∧
            (r.restarts < 2 → u.contact.stage = .stopping ∧ u.contact.list = kept ++ [new] ∧
              u.contact.record = { r with
                hits := src
                ranges := ⟨recapture s.contact.sonar.left.range r.ranges.left,
                  recapture s.contact.sonar.right.range r.ranges.right⟩
                turn := none, stageEntry := s.partTime, distance := 0, turned := 0, still := 0
                restarts := r.restarts + 1 }))) ∧
    (∀ (t : Capture) (pitch roll : Byte), CalmPeriod s pitch roll →
      ∃ u, exec (.controlPeriod t pitch roll) s = .next u ∧
        ∀ j : LR,
          let blocked := 900 ≤ (u.drive.wheels.get j).duty.natAbs ∧ (u.drive.wheels.get j).measured = 0
          let stall : BitVec 6 := match j with
                                  | .left => 0x10
                                  | .right => 0x20
          (¬ blocked → u.contact.stall.get j = none) ∧
          (blocked → s.contact.stall.get j = none → u.contact.stall.get j = some s.partTime) ∧
          ∀ a, s.contact.stall.get j = some a → blocked →
            (since s.partTime a < 300 → u.contact.stall.get j = some a) ∧
            (300 ≤ since s.partTime a → u.contact.stall.get j = none ∧
              (s.contact.list.length ≤ 8 → ∃ entry, u.contact.list.getLast? = some entry ∧
                entry.sources &&& stall = stall ∧ since s.partTime entry.time ≤ 50 ∧ u.contact.list.length ≤ 8) ∧
              ∀ seg, s.plan.active = some seg → seg.fields.kind = 1 → ¬ BasicEnds s seg → s.plan.state = .running →
                s.drive.suspended = false → s.contact.list = [] → s.contact.stage = .quiet →
                2 ≤ s.plan.applied.trapCount → (∀ k, k ≠ j → s.contact.stall.get k = none) →
                u.contact.list = [⟨s.partTime, stall, Int.tdiv u.drive.x 256, Int.tdiv u.drive.y 256, u.drive.heading,
                  none, some seg.slot, none⟩] ∧
                u.contact.stage = .stopping ∧ u.drive.suspended = true ∧
                u.contact.record = ⟨s.partTime, seg.activation, stall,
                  ⟨u.contact.sonar.left.range, u.contact.sonar.right.range⟩, none, s.partTime, 0, 0, 0, 0⟩)) ∧
    ∀ (t : Capture) (pitch roll : Byte), CalmPeriod s pitch roll → s.contact.stall = ⟨none, none⟩ →
      let r := s.contact.record
      let turned := r.turned + headingTravel s
      (∀ seg, s.plan.active = some seg → seg.fields.kind = 1 → ¬ TimeUp s seg → s.drive.suspended = true →
        r.activation = seg.activation →
        let far := r.distance + (meanTravel s).natAbs
        let away : LR :=
          if r.hits &&& 0x2A = 0 then .right
          else if r.hits &&& 0x15 = 0 then .left
          else match r.ranges.left, r.ranges.right with
            | some a, some b => if b < a then .left else .right
            | _, _ => .right
        let aside (d : LR) (u : State) : Int × Int :=
          let v : Int := (min 200 u.gov.cap : Nat)
          match d with
          | .left => (-v, v)
          | .right => (v, -v)
        let straightBack (u : State) : Int × Int := (-(min 200 u.gov.cap : Nat), -(min 200 u.gov.cap : Nat))
        let stillAt (u : State) (moves : Prop) [Decidable moves] : Nat :=
          if u.gov.cap = 0 then r.still else if moves then 0 else r.still + 10
        let trapped (u : State) : Prop :=
          u.contact.stage = .quiet ∧ u.plan.state = .held ∧ Over u seg slotCut 12 ∧ AtRest u ∧
            u.notice.reflex.status = 2 ∧ u.notice.reflex.details = [3]
        ∃ u, exec (.controlPeriod t pitch roll) s = .next u ∧ u.guard.machine = .armed ∧
          (s.contact.stage = .stopping →
            (u.drive.wheels.left.measured = 0 ∧ u.drive.wheels.right.measured = 0 ∨ 300 ≤ since s.partTime r.stageEntry →
              u.contact.stage = .backing ∧ u.contact.record = { r with stageEntry := s.partTime, still := 0 } ∧
                Takes s u (straightBack u)) ∧
            (¬ (u.drive.wheels.left.measured = 0 ∧ u.drive.wheels.right.measured = 0) →
              since s.partTime r.stageEntry < 300 →
              u.contact.stage = .stopping ∧ u.contact.record = r ∧ AtRest u)) ∧
          (s.contact.stage = .backing →
            (s.plan.applied.reflexBack ≤ far / 256 →
              u.contact.stage = .turning ∧ Takes s u (aside away u) ∧ u.contact.record = { r with
                distance := far, stageEntry := s.partTime, still := 0, turned := 0, turn := some away }) ∧
            (far / 256 < s.plan.applied.reflexBack →
              (stillAt u (meanTravel s ≠ 0) < 2000 → u.contact.stage = .backing ∧ Takes s u (straightBack u) ∧
                u.contact.record = { r with distance := far, still := stillAt u (meanTravel s ≠ 0) }) ∧
              (2000 ≤ stillAt u (meanTravel s ≠ 0) → trapped u))) ∧
          (s.contact.stage = .turning → turned.natAbs < s.plan.applied.reflexTurn →
            (stillAt u (headingTravel s ≠ 0) < 2000 → u.contact.stage = .turning ∧
              (∀ d, r.turn = some d → Takes s u (aside d u)) ∧
              u.contact.record = { r with turned := turned, still := stillAt u (headingTravel s ≠ 0) }) ∧
            (2000 ≤ stillAt u (headingTravel s ≠ 0) → trapped u)) ∧
          (s.contact.stage = .turning → s.plan.applied.reflexTurn ≤ turned.natAbs →
            u.contact.stage = .quiet ∧ AtRest u ∧ u.notice.reflex.status = 1 ∧
            (seg.fields.onContact = 0 → seg.fields.next = 255 → u.plan.state = .idle ∧ Over u seg slotCut 5) ∧
            (seg.fields.onContact = 2 → u.plan.state = .held ∧ Over u seg slotCut 5) ∧
            (seg.fields.onContact = 1 → s.plan.watch = none → ¬ AtBoundary s seg.fields →
              u.plan.active = some seg ∧ u.drive.suspended = false ∧ u.drive.headingRef = u.drive.heading ∧
                u.notice.reflex.details = [1] ∧
                ∀ e ∈ u.contact.list, due e.time r.episodeStart = true → e.outcome = some .resumed))) ∧
      ∀ h, s.plan.active = none → s.plan.state = .running → s.plan.deferred = some h → s.contact.stage = .turning →
        s.plan.applied.reflexTurn ≤ turned.natAbs → s.word 0x0BF = s.plan.appliedGen → RunsOn s h →
        ∃ u seg, exec (.controlPeriod t pitch roll) s = .next u ∧ u.contact.stage = .quiet ∧ AtRest u ∧
          u.plan.state = .running ∧ u.plan.active = some seg ∧ u.plan.deferred = none ∧ seg.slot = h ∧
          seg.activation = s.plan.activation + 1 ∧ u.slotState h = slotActive

/-- R138, R139: pinging and triggers. At each expiry of the ping timer the sensor named by next sensor is triggered
and the name passes to the other; at the end of the trigger pulse the sensor's window opens with that capture time.
The model's part: log entries 1 and 2. -/
def Obligations.PingAndTrigger : Prop :=
  ∀ s : State, s.resetting = none →
    ((∀ e, s.contact.pingTimer = some e → due s.partTime e = false) → exec .pingTimerExpiry s = .next s) ∧
    (∀ e, s.contact.pingTimer = some e → due s.partTime e = true →
      let named : Sonar := { s.contact.sonar.get s.contact.nextSensor with trigger := true }
      exec .pingTimerExpiry s = .next { s with contact := { s.contact with
        pingTimer := some (e + 40)
        nextSensor := if s.contact.nextSensor = .left then .right else .left
        sonar := s.contact.sonar.set s.contact.nextSensor named } }) ∧
    ∀ (i : LR) (t : Capture),
      let c := s.contact.sonar.get i
      let after : Sonar := if c.trigger then { c with trigger := false, window := .listen t } else c
      exec (.triggerPulseEnd i t) s = .next { s with
        timebase := t
        contact := { s.contact with sonar := s.contact.sonar.set i after } }

/-- R139, R140, R142, R143, R147: an echo and the end of a window. An edge under 1200 us is ignored; one up to 24,000 us gives
the range; a timeout leaves it absent; either closes the window. The first close range, below SONAR_STOP, counts one; a
range that is not close clears the count; a second close range in a row clears it too and while ARMED, with no DOCK active,
forms a contact of that sensor with its range, which as the first contact of a ROLL starts a reflex; in an IDLE window
nothing happens. The model's part: log entries 1 and 2. -/
def Obligations.EchoWindow : Prop :=
  ∀ (i : LR) (t : Capture) (s : State), s.resetting = none →
    let c := s.contact.sonar.get i
    let answer (d : Sonar) : State :=
      { s with timebase := t, contact := { s.contact with sonar := s.contact.sonar.set i d } }
    (c.window = .idle →
      exec (.echoEdge i t) s = .next (answer c) ∧ exec (.listenTimeout i t) s = .next (answer c)) ∧
    ∀ o, c.window = .listen o →
      (since t o < 1200 → exec (.echoEdge i t) s = .next (answer c)) ∧
      (1200 ≤ since t o → since t o ≤ 24000 →
        let mm := since t o * 343 / 2000
        (s.plan.applied.sonarStop ≤ mm →
          exec (.echoEdge i t) s = .next (answer { c with window := .idle, range := some mm, close := 0 })) ∧
        (mm < s.plan.applied.sonarStop → c.close = 0 →
          exec (.echoEdge i t) s = .next (answer { c with window := .idle, range := some mm, close := 1 })) ∧
        (mm < s.plan.applied.sonarStop → s.guard.machine ≠ .armed →
          exec (.echoEdge i t) s = .next (answer { c with
            window := .idle, range := some mm, close := if c.close = 0 then 1 else 0 })) ∧
        (mm < s.plan.applied.sonarStop → c.close ≠ 0 → (∃ seg, s.plan.active = some seg ∧ seg.fields.kind = 5) →
          exec (.echoEdge i t) s = .next (answer { c with window := .idle, range := some mm, close := 0 })) ∧
        (mm < s.plan.applied.sonarStop → c.close ≠ 0 → s.guard.machine = .armed →
          (∀ seg, s.plan.active = some seg → seg.fields.kind ≠ 5) → s.contact.list.length ≤ 8 →
          let src : BitVec 6 := match i with
                                | .left => 0x04
                                | .right => 0x08
          ∃ u entry, exec (.echoEdge i t) s = .next u ∧
            u.contact.sonar = s.contact.sonar.set i { c with window := .idle, range := some mm, close := 0 } ∧
            u.contact.list.getLast? = some entry ∧ entry.sources &&& src = src ∧
            (∃ r, entry.range = some r ∧ r ≤ mm) ∧ since s.partTime entry.time ≤ 50 ∧ u.contact.list.length ≤ 8 ∧
            u.timebase = t ∧ u.partTime = s.partTime ∧ u.pins = s.pins ∧ u.recv = s.recv ∧ u.gov = s.gov ∧
            u.guard.machine = .armed ∧
            (s.contact.list = [] → s.contact.stage = .quiet → s.plan.state = .running →
              (∃ seg, s.plan.active = some seg ∧ seg.fields.kind = 1) → 2 ≤ s.plan.applied.trapCount →
              entry.sources = src ∧ entry.range = some mm ∧ u.contact.stage = .stopping ∧
                u.drive.suspended = true ∧ u.contact.record.hits = src))) ∧
      (since t o < 24000 → exec (.listenTimeout i t) s = .next (answer c)) ∧
      (24000 ≤ since t o →
        exec (.listenTimeout i t) s = .next (answer { c with window := .idle, range := none, close := 0 }))

/-! ### Guard -/

/-- R132, R156, R162, R163, R164, R165, R166, R167: a finding while ARMED trips the machine in one event. A closing of the
stop key, a lift input closed for its debounce, a no-signal or a silence timer that expires finds its cause; the machine
is TRIPPED, the plan IDLE with an active segment cut GUARD, both targets 0, the blade not driven, the reflex QUIET,
pinging off, and the trip record holds cause, time, pose and rpm. A control period finds ESCAPED where the distance gone
outside comes to ESCAPE_LIMIT, and else TILT where the slope has stood at SLOPE_TRIP for 1000 ms; a blade period finds
BLADE_RUNAWAY at more than 6000 rpm. -/
def Obligations.FindingTrips : Prop :=
  ∀ (c : Instr) (cause : TripCause) (s : State), s.resetting = none → s.guard.machine = .armed → BladeLaw s →
    let found (u : State) : Prop :=
      u.partTime = s.partTime ∧ u.recv = s.recv ∧ u.loops = s.loops ∧
        u.guard.machine = .tripped ∧ u.plan.state = .idle ∧ u.plan.active = none ∧ u.plan.standing = .off ∧
        AtRest u ∧ u.drive.suspended = false ∧ u.blade.duty = 0 ∧ ¬ Driven u.blade.state ∧
        (Driven s.blade.state → u.blade.state = .braking) ∧ u.contact.stage = .quiet ∧ u.contact.pinging = false ∧
        u.contact.pingTimer = none ∧ u.guard.recovery = false ∧ u.guard.escape = 0 ∧ u.guard.silence = none ∧
        u.guard.trip.first = some cause ∧ u.guard.trip.time = s.partTime ∧
        u.guard.trip.x = Int.tdiv u.drive.x 256 ∧ u.guard.trip.y = Int.tdiv u.drive.y 256 ∧
        u.guard.trip.heading = u.drive.heading ∧ u.guard.trip.rpm = u.blade.rpm ∧ u.guard.trip.cleared = false ∧
        u.notice.trip = postedTo s .trip cause.code [wordN u.blade.rpm] ∧ u.word 0x002 = 3 ∧ u.word 0x280 = cause.code
    ((c = .stopKeyEdge .closing ∧ cause = .stopKey ∨
      (∃ i e, c = .liftDebounceExpiry i ∧ cause = .lift ∧ s.guard.liftTimer.get i = some e ∧ due s.partTime e = true) ∨
      (∃ e, c = .noSignalTimerExpiry ∧ cause = .noSignal ∧ s.guard.noSignal = some e ∧ due s.partTime e = true) ∨
      (∃ e, c = .silenceTimerExpiry ∧ cause = .hostSilent ∧ s.guard.silence = some e ∧ due s.partTime e = true)) →
     ∃ u, exec c s = .next u ∧ u.timebase = s.timebase ∧ u.partTime = s.partTime ∧ u.recv = s.recv ∧
      u.loops = s.loops ∧ u.gov = s.gov ∧
      u.guard.machine = .tripped ∧ u.plan.state = .idle ∧ u.plan.active = none ∧ u.plan.standing = .off ∧
      (∀ i, (u.drive.wheels.get i).target = 0) ∧ u.drive.x = s.drive.x ∧ u.drive.y = s.drive.y ∧
      u.drive.heading = s.drive.heading ∧ u.drive.suspended = false ∧
      u.blade.duty = 0 ∧ ¬ Driven u.blade.state ∧ (Driven s.blade.state → u.blade.state = .braking) ∧
      u.contact.stage = .quiet ∧ u.contact.pinging = false ∧ u.contact.pingTimer = none ∧
      u.guard.recovery = false ∧ u.guard.escape = 0 ∧ u.guard.silence = none ∧
      u.guard.trip = ⟨some cause, 0, s.partTime, Int.tdiv s.drive.x 256, Int.tdiv s.drive.y 256, s.drive.heading,
        s.blade.rpm, false, false, none⟩ ∧
      u.notice.trip = postedTo s .trip cause.code [wordN s.blade.rpm] ∧
      u.word 0x002 = 3 ∧ u.word 0x280 = cause.code ∧
      ∀ seg, s.plan.active = some seg →
        u.slotState seg.slot = slotCut ∧ u.word (slotBase seg.slot + 20) = 16 ∧ u.track.running = none) ∧
    (∀ t pitch roll, c = .controlPeriod t pitch roll → due s.partTime s.drive.timer = true →
      let escape := min 4294967295 (s.guard.escape + (meanTravel s).natAbs)
      let strays := s.guard.recovery = false ∧ s.loops.posClass = .outsideAll
      (strays → s.plan.applied.escapeLimit ≤ escape / 256 → cause = .escaped →
        ∃ u, exec c s = .next u ∧ found u) ∧
      ((∀ seg, s.plan.active = some seg → ¬ BasicEnds s seg) → ¬ (strays ∧ s.plan.applied.escapeLimit ≤ escape / 256) →
        (s.plan.applied.slopeTrip ≤ slopeAt pitch roll → ∀ a, s.guard.tiltStart = some a → 1000 ≤ since s.partTime a →
          cause = .tilt → ∃ u, exec c s = .next u ∧ found u) ∧
        (s.plan.applied.slopeTrip ≤ slopeAt pitch roll → s.guard.tiltStart = none →
          ∃ u, exec c s = .next u ∧ u.guard.tiltStart = some s.partTime ∧ u.guard.machine = .armed) ∧
        (slopeAt pitch roll < s.plan.applied.slopeTrip →
          ∃ u, exec c s = .next u ∧ u.guard.tiltStart = none ∧ u.guard.machine = .armed ∧
            (s.word 0x0BF = s.plan.appliedGen →
              u.guard.escape = if strays then escape else s.guard.escape)))) ∧
    ∀ t lp p, c = .bladePeriod t → cause = .bladeRunaway → due s.partTime s.blade.timer = true →
      s.blade.lastPulse = some lp → s.blade.period = some p → since t lp < 100000 →
      6000 < 30000000 / max p (since t lp) →
      ∃ u, exec c s = .next u ∧ found u ∧ u.blade.runaway = true ∧
        u.blade.rpm = 30000000 / max p (since t lp) ∧ (s.blade.runaway = false → u.blade.lastFault = .runaway)

/-- R162, R163, R165, R166, R167: findings outside ARMED. While TRIPPED one joins the further causes unless it is the
first cause, and the trip record's word of them shows it; in START, SAFE and PARKED it changes nothing but the input or
timer that found it, and no word of memory. An opening of the stop key finds nothing; a timer that is stopped or not due
does nothing. The model's part: log entries 2 and 3. -/
def Obligations.FindingsOutsideArmed : Prop :=
  ∀ s : State, s.resetting = none →
    exec (.stopKeyEdge .opening) s = .next { s with pins := { s.pins with stopKey := false } } ∧
    (s.guard.machine ≠ .armed →
      let found (c : TripCause) : TripRecord :=
        if s.guard.machine = .tripped ∧ s.guard.trip.first ≠ some c
        then { s.guard.trip with further := s.guard.trip.further ||| c.bit } else s.guard.trip
      let stored (c : TripCause) (u : State) : Prop :=
        (s.guard.machine = .tripped ∧ s.guard.trip.first ≠ some c →
          u.word 0x281 = (found c).further.zeroExtend 16 ∧ ∀ a, a < 0x280 ∨ 0x2A0 ≤ a → u.word a = s.word a) ∧
        (s.guard.machine ≠ .tripped ∨ s.guard.trip.first = some c → u.mem = s.mem)
      (∃ u, exec (.stopKeyEdge .closing) s = .next u ∧
        u = { s with
          pins := { s.pins with stopKey := true }, guard := { s.guard with trip := found .stopKey }, mem := u.mem } ∧
        stored .stopKey u) ∧
      (∀ i e, s.guard.liftTimer.get i = some e → due s.partTime e = true →
        ∃ u, exec (.liftDebounceExpiry i) s = .next u ∧
          u = { s with
            guard := { s.guard with
              lift := s.guard.lift.set i .closed
              liftTimer := s.guard.liftTimer.set i none
              trip := found .lift }
            mem := u.mem } ∧
          stored .lift u) ∧
      (∀ e, s.guard.noSignal = some e → due s.partTime e = true →
        ∃ u, exec .noSignalTimerExpiry s = .next u ∧
          u = { s with guard := { s.guard with noSignal := none, trip := found .noSignal }, mem := u.mem } ∧
          stored .noSignal u) ∧
      (∀ e, s.guard.silence = some e → due s.partTime e = true →
        ∃ u, exec .silenceTimerExpiry s = .next u ∧
          u = { s with guard := { s.guard with silence := none, trip := found .hostSilent }, mem := u.mem } ∧
          stored .hostSilent u)) ∧
    (∀ i, (∀ e, s.guard.liftTimer.get i = some e → due s.partTime e = false) →
      exec (.liftDebounceExpiry i) s = .next s) ∧
    ((∀ e, s.guard.noSignal = some e → due s.partTime e = false) → exec .noSignalTimerExpiry s = .next s) ∧
    ((∀ e, s.guard.silence = some e → due s.partTime e = false) → exec .silenceTimerExpiry s = .next s)

/-! ### Dock Unit -/

/-- R35, R173, R177, R183, R196: a sample of the charge contact. It restarts the 10 ms timer and keeps the voltage; the
sense rises at DOCK_V, falls below DOCK_V less 10, and settles after 200 ms; the debounced presence and the dock record
follow. A sample before its time does nothing. With no DOCK or UNDOCK running nothing else reads it, but that PARKED ends
by the loss of the contact. A judged window that finds loop 0 silent at REAR wakes it too: the machine is SAFE, the window
and the snapshot timers take their ordinary periods, and the wake is recorded and posted. The model's part: log entries 2
and 45. -/
def Obligations.ContactSense : Prop :=
  (∀ (v : Byte) (s : State), s.resetting = none → s.dock.run = .none → s.dock.bumpPending = false →
    (due s.partTime s.dock.timer = false → exec (.contactSample v) s = .next s) ∧
    (due s.partTime s.dock.timer = true →
      let high := s.plan.applied.dockV ≤ v.toNat
      let low := v.toNat < s.plan.applied.dockV - 10
      let answer (c : Sense) (t : Option Time) : State :=
        { s with dock := { s.dock with timer := s.dock.timer + 10, voltage := v, sense := c, senseStart := t } }
      let settled := ∃ t, s.dock.senseStart = some t ∧ 200 ≤ since s.partTime t
      (s.dock.sense = .absent → high → exec (.contactSample v) s = .next (answer .rising (some s.partTime))) ∧
      (s.dock.sense = .absent → ¬ high →
        exec (.contactSample v) s = .next (answer .absent s.dock.senseStart)) ∧
      (s.dock.sense = .rising → ¬ high → exec (.contactSample v) s = .next (answer .absent none)) ∧
      (s.dock.sense = .rising → high → ¬ settled →
        exec (.contactSample v) s = .next (answer .rising s.dock.senseStart)) ∧
      (s.dock.sense = .rising → high → settled → ∃ u, exec (.contactSample v) s = .next u ∧
        u = { answer .present none with mem := u.mem } ∧ u.word 0x2C1 = 1 ∧
        ∀ a, a < 0x2C0 ∨ 0x2CD ≤ a → u.word a = s.word a) ∧
      (s.dock.sense = .present → low → exec (.contactSample v) s = .next (answer .falling (some s.partTime))) ∧
      (s.dock.sense = .present → ¬ low →
        exec (.contactSample v) s = .next (answer .present s.dock.senseStart)) ∧
      (s.dock.sense = .falling → ¬ low → exec (.contactSample v) s = .next (answer .present none)) ∧
      (s.dock.sense = .falling → low → ¬ settled →
        exec (.contactSample v) s = .next (answer .falling s.dock.senseStart)) ∧
      (s.dock.sense = .falling → low → settled → s.guard.machine = .parked → MemoryCanonical s →
        ∃ u, exec (.contactSample v) s = .next u ∧ Woken s u .contactLost ∧
          u.dock = { (answer .absent none).dock with record := u.dock.record } ∧
          u.word 0x2C1 = 0 ∧ u.plan = s.plan ∧ u.drive = s.drive ∧ u.contact = s.contact ∧ u.recv = s.recv) ∧
      (s.dock.sense = .falling → low → settled → s.guard.machine ≠ .parked → MemoryCanonical s →
        ∃ u, exec (.contactSample v) s = .next u ∧
        u = { answer .absent none with mem := u.mem } ∧ u.word 0x2C1 = 0 ∧
        ∀ a, a < 0x2C0 ∨ 0x2CD ≤ a → u.word a = s.word a))) ∧
  ∀ s : State, s.resetting = none → s.guard.machine = .parked → due s.partTime s.loops.windowTimer = true →
    s.loops.checkFlag = false → s.loops.spoiled = false → s.plan.active = none → s.dock.run = .none →
    s.plan.applied.loopMap.l0 ≠ 15 →
    s.loops.recs.l0.coils.rear.state ≠ .lost → s.loops.recs.l0.coils.rear.window = 0 →
    ∃ u, exec .windowExpiry s = .next u ∧ Woken s u .stationSilent ∧ u.plan = s.plan ∧ u.drive = s.drive ∧
      u.contact = s.contact ∧ u.recv = s.recv

/-- R174, R175, R176, R177, R178, R179, R180, R181: a DOCK whose contact has risen for 200 ms ends DOCKED: the slot is
DONE with that cause, the run ends, and the dock record holds the outcome and the time; with no next slot the plan is then
IDLE. A miss raises the tries; the last one ends the DOCK DOCK_FAILED, another makes the phase BACKOFF and posts
DOCK_RETRY. It comes from a bump in APPROACH or NEAR with the contact absent (with the contact rising the bump waits, and
a fall back is the miss), or from DOCK_REACH gone in NEAR. BACKOFF reverses along its heading for 400 mm, then the phase
is APPROACH, or NEAR with the station near. An UNDOCK reverses for its distance and turns by its angle, which ends it
REACHED; with the contact still present after 300 mm it ends STUCK_DOCKED. The model's part: log entries 2, 14 (which
period's travel counts as the UNDOCK's run), 23 (the NEAR and back-off distances saturate) and 24. -/
def Obligations.DockedEnds : Prop :=
  (∀ (v : Byte) (s : State) (seg : Segment) (rise : Time), s.resetting = none → s.guard.machine ≠ .parked →
    due s.partTime s.dock.timer = true → s.plan.active = some seg → s.dock.run = .dock seg.activation →
    seg.fields.next = 255 → s.dock.sense = .rising → s.dock.senseStart = some rise →
    200 ≤ since s.partTime rise → s.plan.applied.dockV ≤ v.toNat →
    ∃ u, exec (.contactSample v) s = .next u ∧ u.slotState seg.slot = slotDone ∧
      u.word (slotBase seg.slot + 20) = 4 ∧ u.plan.state = .idle ∧ u.plan.active = none ∧ u.dock.run = .none ∧
      u.dock.phase = none ∧ u.dock.sense = .present ∧ u.dock.record.outcome = .docked ∧
      u.dock.record.dockTime = some s.partTime ∧ u.track.running = none ∧ u.drive.suspended = false ∧
      u.drive.wheels = s.drive.wheels ∧ u.contact = s.contact ∧ u.recv = s.recv ∧
      (∀ n : Slot, n ≠ seg.slot → u.slotState n = s.slotState n)) ∧
  ∀ (t : Capture) (pitch roll : Byte) (s : State) (seg : Segment) (act : BitVec 16), s.resetting = none →
    s.guard.machine = .armed → s.plan.active = some seg → s.contact.stage = .quiet →
    let missed (u : State) (near : Nat) : Prop :=
      (s.dock.tries + 1 = s.plan.applied.dockTries →
        u.plan.state = .held ∧ Over u seg slotCut 13 ∧ u.dock.record = { s.dock.record with
          tries := s.dock.tries + 1, outcome := .dockFailed }) ∧
      (s.dock.tries + 1 ≠ s.plan.applied.dockTries →
        u.dock = { s.dock with
          sense := u.dock.sense, senseStart := u.dock.senseStart, voltage := u.dock.voltage, timer := u.dock.timer
          phase := some .backoff, tries := s.dock.tries + 1, near := near, back := 0, backRef := u.drive.heading
          bumpPending := false, record := { s.dock.record with tries := s.dock.tries + 1 } } ∧
        u.plan.active.isSome = true ∧ u.notice.dock.status = 3 ∧
          u.notice.dock.details = [wordN (s.dock.tries + 1)])
    (seg.fields.kind = 5 → s.dock.run = .dock act →
      (∀ i e, s.contact.bumpTimer.get i = some e → due s.partTime e = true → s.contact.list = [] →
        (s.dock.phase = some .approach ∨ s.dock.phase = some .near) → s.dock.bumpPending = false →
        ∃ u entry, exec (.bumpDebounceExpiry i) s = .next u ∧ u.contact.list = [entry] ∧
          entry.outcome = some .dockRetry ∧ u.contact.stage = .quiet ∧
          (s.dock.sense = .absent → missed u s.dock.near) ∧
          (s.dock.sense = .rising → u.dock = { s.dock with bumpPending := true }) ∧
          (OnContacts s → u.dock = s.dock)) ∧
      (∀ v : Byte, due s.partTime s.dock.timer = true → s.dock.sense = .rising → s.dock.bumpPending = true →
        v.toNat < s.plan.applied.dockV →
        ∃ u, exec (.contactSample v) s = .next u ∧ u.dock.sense = .absent ∧ missed u s.dock.near)) ∧
    (CalmPeriod s pitch roll → s.contact.stall = ⟨none, none⟩ → s.drive.suspended = false → ¬ TimeUp s seg →
      seg.fields.kind = 5 ∨ seg.fields.kind = 6 →
      ∃ u, exec (.controlPeriod t pitch roll) s = .next u ∧ u.guard.machine = .armed ∧
        let slow : Int := (min 200 u.gov.cap : Nat)
        let back := if s.drive.choice = .backoff then travelled s s.dock.back else s.dock.back
        let homing := holdTo s.plan.applied s.dock.backRef u.drive.heading
        (seg.fields.kind = 5 → s.dock.run = .dock act →
          (s.dock.bumpPending = true → AtRest u ∧ u.plan.active = some seg) ∧
          (s.dock.bumpPending = false → s.dock.phase = some .near →
            s.plan.applied.dockReach < travelled s s.dock.near / 256 →
            missed u (travelled s s.dock.near) ∧ AtRest u) ∧
          (s.dock.bumpPending = false → s.dock.phase = some .backoff →
            (back / 256 < 400 → u.plan.active = some seg ∧ Takes s u (-slow - homing, -slow + homing) ∧
              u.dock = { s.dock with back := back } ∧ (0 < u.gov.cap → u.drive.choice = .backoff)) ∧
            (400 ≤ back / 256 → ∀ n side, s.track.loop = some n → s.track.side = some side →
              let l := (s.loops.recs.get n).coils.left
              let r := (s.loops.recs.get n).coils.right
              ¬ WireHold s l r → ∀ raw, wireError side l r = some raw →
              u.plan.active = some seg ∧
                u.dock = { s.dock with
                  back := back
                  near := if s.loops.stationNear then 0 else s.dock.near
                  phase := some (if s.loops.stationNear then .near else .approach) } ∧
                Takes s u (steered s.plan.applied s.track.speed u.gov.cap (raw - s.track.offset) 0)))) ∧
        (seg.fields.kind = 6 → s.dock.run = .undock act →
          let v : Int := (min seg.fields.speed.toNat u.gov.cap : Nat)
          let hold := holdTo s.plan.applied s.drive.headingRef u.drive.heading
          let gone := runDistance s / 256
          let reverses : Prop := u.plan.active = some seg ∧ u.dock = s.dock ∧ Takes s u (-v - hold, -v + hold)
          let spins : Prop := u.plan.active = some seg ∧
            Takes s u (spin seg.fields.speed.toNat u.gov.cap seg.fields.angle.toInt)
          let reached : Prop := seg.fields.next = 255 → u.plan.state = .idle ∧ Over u seg slotDone 1 ∧
            u.dock.record.outcome = .undocked ∧ AtRest u
          (s.dock.phase = some .turn →
            (turnGoal seg.fields ≤ (runAngle s - s.dock.turnAtEntry).natAbs → reached) ∧
            ((runAngle s - s.dock.turnAtEntry).natAbs < turnGoal seg.fields → spins ∧ u.dock = s.dock)) ∧
          (s.dock.phase = some .reverse →
            (OnContacts s → 300 ≤ gone → seg.fields.next = 255 →
              u.plan.state = .idle ∧ Over u seg slotCut 11 ∧ u.dock.record.outcome = .stuckDocked ∧ AtRest u) ∧
            (OnContacts s → gone < 300 → reverses) ∧
            (¬ OnContacts s → (gone : Int) < seg.fields.distance.toInt → reverses) ∧
            (¬ OnContacts s → seg.fields.distance.toInt ≤ gone →
              (turnGoal seg.fields = 0 → reached) ∧
              (0 < turnGoal seg.fields → spins ∧
                u.dock = { s.dock with phase := some .turn, turnAtEntry := runAngle s })))))

/-! ### Requests -/

/-- R157, R189, R190, R191: a request that reaches no owner. In START it is answered NOT_READY; while a self-check is
in hand every code but RESTART is answered BUSY; a code that is none of the twelve (UNKNOWN_REQUEST) is answered
UNKNOWN. The request is counted, its word stored and its arguments captured, and nothing else changes but the
answer's notice. -/
def Obligations.RequestsTurnedAway : Prop :=
  ∀ (c : Instr) (code : Word) (s : State), s.resetting = none → writeOfRow c = some (0x041, code) → code ≠ 0 →
    let checking := ∃ n, s.port.inHand = .selfCheck n
    let answered (result : Word) : Prop :=
      ∃ u, exec c s = .next u ∧
        u = { s with
          port := { s.port with
            requestCount := s.port.requestCount + 1
            args := s.argWords
            answer := ⟨code, result, 0, s.port.requestCount + 1⟩ }
          notice := u.notice
          mem := u.mem } ∧
        (s.noticesHeld = false → Posts s u .port 1 [wordN (s.port.requestCount + 1).toNat]) ∧
        (s.noticesHeld = true → u.notice = s.notice) ∧
        u.word 0x041 = code ∧ u.word 0x009 = code ∧ u.word 0x00A = result ∧
        ∀ a, 0x040 ≤ a → a ≠ 0x041 → u.word a = s.word a
    (s.guard.machine = .start → answered 6) ∧
    (s.guard.machine ≠ .start → checking → code ≠ 12 → answered 5) ∧
    (s.guard.machine ≠ .start → ¬ checking → 12 < code.toNat → answered 7)

/-- R64, R156, R158, R159, R164, R165, R191: ARM. Its answer is that of the first row of its table that applies, and
an ARM that is not taken changes nothing but the request words, the answer and its notice. A taken one applies staged
settings when the stage generation differs; the escape distance is 0, the silence timer starts with HOST_SILENCE and
the machine is ARMED, with the standing directive OFF before; the wheels and the receiver stay as they are. With
nothing staged, also, the recovery flag follows the choice and the class, pinging starts where the motion direction
is FORWARD, and the plan and the loops stay as they are. -/
def Obligations.ArmRefusalsAndEffect : Prop :=
  ∀ s : State, s.resetting = none → s.guard.machine ≠ .start → (∀ n, s.port.inHand ≠ .selfCheck n) →
    let choice := s.word 0x042
    let verdict : Word × Word :=
      if choice ≠ 0 ∧ choice ≠ 1 then (4, 0)
      else if s.guard.machine ≠ .safe then (2, 0)
      else if s.pins.lift.left = true ∨ s.pins.lift.right = true then (3, 2)
      else if s.plan.applied.slopeTrip ≤ s.gov.slope then (3, 3)
      else if s.pins.stopKey = true then (3, 4)
      else if s.loops.recs.l0.state = .lost ∨ s.loops.recs.l0.state = .unused then (3, 5)
      else if s.blade.state ≠ .off ∧ s.blade.state ≠ .lockedOut then (3, 6)
      else if choice = 0 ∧ s.loops.posClass = .outsideAll then (3, 7)
      else (1, 0)
    ∃ u, exec .arm s = .next u ∧ u.port.requestCount = s.port.requestCount + 1 ∧ u.port.args = s.argWords ∧
      u.port.answer = ⟨1, verdict.1, verdict.2, s.port.requestCount + 1⟩ ∧
      (verdict ≠ (1, 0) →
        u = { s with
          port := { s.port with
            requestCount := s.port.requestCount + 1, args := s.argWords, answer := u.port.answer }
          notice := u.notice
          mem := u.mem } ∧
        ∀ a, 0x040 ≤ a → a ≠ 0x041 → u.word a = s.word a) ∧
      (verdict = (1, 0) → s.plan.standing = .off →
        u.guard.machine = .armed ∧ u.guard.escape = 0 ∧ u.word 0x002 = 2 ∧
        u.guard.silence = some (s.partTime + BitVec.ofNat 32 (max 100 (min 5000 (s.word 0x063).toNat))) ∧
        u.plan.appliedGen = s.word 0x0BF ∧ u.drive = s.drive ∧ u.recv = s.recv ∧ u.blade.state = s.blade.state ∧
        (s.word 0x0BF ≠ s.plan.appliedGen →
          u.plan.applied = Settings.ofList (clampSettings s.stagedValues)) ∧
        (s.word 0x0BF = s.plan.appliedGen →
          u = { s with
            guard := { s.guard with
              machine := .armed
              escape := 0
              recovery := decide (choice = 1 ∧ s.loops.posClass ≠ .insideAll)
              silence := u.guard.silence }
            contact := u.contact
            blade := { s.blade with effective := .off }
            port := { s.port with
              requestCount := s.port.requestCount + 1, args := s.argWords, answer := u.port.answer }
            notice := u.notice
            mem := u.mem } ∧
          (∀ a, 0x040 ≤ a → a ≠ 0x041 → u.word a = s.word a) ∧
          (s.drive.motion ≠ .forward → s.contact.pinging = false → u.contact = s.contact) ∧
          (s.drive.motion = .forward → s.contact.pinging = false →
            u.contact.pinging = true ∧ u.contact.pingTimer = some (s.partTime + 40) ∧
              u.contact.list = s.contact.list ∧ (u.contact.sonar.get s.contact.nextSensor).trigger = true)))

/-- R73, R152, R156, R160, R161, R164, R165: DISARM. While ARMED it is DONE and the machine is SAFE with the plan IDLE, an
active segment cut DISARM, both targets 0, the blade not driven, the reflex QUIET and pinging off; in SAFE it is DONE
with no effect; while TRIPPED or PARKED it is refused, and in START it is answered NOT_READY. -/
def Obligations.DisarmInEveryState : Prop :=
  ∀ s : State, s.resetting = none → (∀ n, s.port.inHand ≠ .selfCheck n) → BladeLaw s →
    (s.guard.machine = .armed → ∃ u, exec .disarm s = .next u ∧ u.partTime = s.partTime ∧ u.recv = s.recv ∧
      u.loops = s.loops ∧ u.gov = s.gov ∧ u.port.answer = ⟨2, 1, 0, s.port.requestCount + 1⟩ ∧
      u.guard = { s.guard with machine := .safe, recovery := false, escape := 0, silence := none } ∧
      u.plan.state = .idle ∧ u.plan.active = none ∧ u.plan.standing = .off ∧
      (∀ i, (u.drive.wheels.get i).target = 0) ∧ u.drive.suspended = false ∧
      u.blade.duty = 0 ∧ (Driven s.blade.state → u.blade.state = .braking) ∧
      (¬ Driven s.blade.state → u.blade = { s.blade with effective := .off }) ∧
      u.contact.stage = .quiet ∧ u.contact.pinging = false ∧ u.contact.record = s.contact.record ∧
      u.word 0x002 = 1 ∧
      ∀ seg, s.plan.active = some seg → u.slotState seg.slot = slotCut ∧ u.word (slotBase seg.slot + 20) = 17) ∧
    (∀ result : Word, s.guard.machine = .safe ∧ result = 1 ∨ s.guard.machine = .start ∧ result = 6 ∨
        (s.guard.machine = .tripped ∨ s.guard.machine = .parked) ∧ result = 2 →
      ∃ u, exec .disarm s = .next u ∧
        u = { s with
          port := { s.port with
            requestCount := s.port.requestCount + 1
            args := s.argWords
            answer := ⟨2, result, 0, s.port.requestCount + 1⟩ }
          notice := u.notice
          mem := u.mem } ∧
        ∀ a, 0x040 ≤ a → a ≠ 0x041 → u.word a = s.word a)

/-- R168: CLEAR_TRIP. It is refused outside TRIPPED, and while a lift input is closed, the slope stands at SLOPE_TRIP, the
stop key is pressed or loop 0 is LOST or UNUSED; otherwise the trip record is marked cleared with its time and the machine
is SAFE. -/
def Obligations.ClearTrip : Prop :=
  ∀ s : State, s.resetting = none → s.guard.machine ≠ .start → (∀ n, s.port.inHand ≠ .selfCheck n) →
    let stands := s.pins.lift.left = true ∨ s.pins.lift.right = true ∨ s.plan.applied.slopeTrip ≤ s.gov.slope ∨
      s.pins.stopKey = true ∨ s.loops.recs.l0.state = .lost ∨ s.loops.recs.l0.state = .unused
    ∃ u, exec .clearTrip s = .next u ∧
      (s.guard.machine ≠ .tripped ∨ stands →
        u = { s with
          port := { s.port with
            requestCount := s.port.requestCount + 1
            args := s.argWords
            answer := if s.guard.machine ≠ .tripped then ⟨3, 2, 0, s.port.requestCount + 1⟩
                      else ⟨3, 3, 8, s.port.requestCount + 1⟩ }
          notice := u.notice
          mem := u.mem } ∧
        ∀ a, 0x040 ≤ a → a ≠ 0x041 → u.word a = s.word a) ∧
      (s.guard.machine = .tripped → ¬ stands → BladeLaw s →
        u = { s with
          guard := { s.guard with
            machine := .safe
            trip := { s.guard.trip with cleared := true, clearTime := some s.partTime } }
          blade := { s.blade with effective := .off }
          port := { s.port with
            requestCount := s.port.requestCount + 1
            args := s.argWords
            answer := ⟨3, 1, 0, s.port.requestCount + 1⟩ }
          notice := u.notice
          mem := u.mem } ∧
        u.word 0x002 = 1 ∧ u.word 0x28B = 1 ∧
        ∀ a, 0x040 ≤ a → a ≠ 0x041 → (a < 0x280 ∨ 0x2A0 ≤ a) → u.word a = s.word a)

/-- R45, R46, R47, R48, R49, R50, R52, R53, R58, R59, R82, R83: PLAN_START. A head above 47 is a bad argument; outside ARMED
it is refused; a head that is not QUEUED is refused. Otherwise it is DONE. With no segment RUNNING, nothing newly staged and
no reflex, a segment of any kind that can run becomes the ACTIVE one; one that cannot is cut BAD_SEGMENT, one whose loop is
LOST NO_LOOP, a DOCK on its contacts ends DOCKED, and the boundary and the watch end one at once. A RUNNING segment is cut
PREEMPTED first; during a reflex the head is deferred, and a later head takes the deferred one's place. The model's part: log
entry 11. -/
def Obligations.PlanStart : Prop :=
  ∀ s : State, s.resetting = none → s.guard.machine ≠ .start → (∀ n, s.port.inHand ≠ .selfCheck n) →
    let w := s.word 0x042
    let turnedAway (result reason : Word) : Prop :=
      ∃ u, exec .planStart s = .next u ∧
        u = { s with
          port := { s.port with
            requestCount := s.port.requestCount + 1
            args := s.argWords
            answer := ⟨4, result, reason, s.port.requestCount + 1⟩ }
          notice := u.notice
          mem := u.mem } ∧
        ∀ a, 0x040 ≤ a → a ≠ 0x041 → u.word a = s.word a
    (47 < w.toNat → turnedAway 4 0) ∧
    (w.toNat ≤ 47 → s.guard.machine ≠ .armed → turnedAway 2 0) ∧
    ∀ h : Slot, w.toNat = h.val → s.guard.machine = .armed →
      (s.slotState h ≠ slotQueued → turnedAway 3 1) ∧
      (s.plan.state ≠ .running → s.contact.stage = .quiet → s.word 0x0BF = s.plan.appliedGen → RunsOn s h →
        ∃ u seg, exec .planStart s = .next u ∧
          u = { s with
            plan := u.plan, drive := u.drive, track := u.track, dock := u.dock, blade := u.blade
            port := { s.port with
              requestCount := s.port.requestCount + 1
              args := s.argWords
              answer := ⟨4, 1, 0, s.port.requestCount + 1⟩ }
            notice := u.notice
            mem := u.mem } ∧
          Activated s u h seg) ∧
      (s.slotState h = slotQueued → s.plan.state ≠ .running → s.contact.stage = .quiet →
        s.word 0x0BF = s.plan.appliedGen →
        let f := s.slotFields h
        let ends (slot cause : Word) : Prop := 47 < f.next.toNat →
          ∃ u, exec .planStart s = .next u ∧ u.plan.state = .idle ∧ u.plan.active = none ∧
            u.plan.activation = s.plan.activation + 1 ∧ u.slotState h = slot ∧ u.word (slotBase h + 20) = cause ∧
            u.port.answer = ⟨4, 1, 0, s.port.requestCount + 1⟩
        (¬ SoundSegment s f → ends slotCut 10) ∧
        (SoundSegment s f → LoopLost s f → ends slotCut 9) ∧
        (SoundSegment s f → ¬ LoopLost s f → f.kind = 5 → OnContacts s → ends slotDone 4) ∧
        (SoundSegment s f → ¬ LoopLost s f → AtBoundary s f → ends slotDone 2) ∧
        (SoundSegment s f → ¬ LoopLost s f → ¬ AtBoundary s f → WatchMet s f → ends slotDone 3)) ∧
      (∀ old, s.plan.state = .running → s.plan.active = some old → old.slot ≠ h → s.contact.stage = .quiet →
        s.word 0x0BF = s.plan.appliedGen → RunsOn s h →
        ∃ u seg, exec .planStart s = .next u ∧ u.slotState old.slot = slotCut ∧
          u.word (slotBase old.slot + 20) = 14 ∧ u.plan.state = .running ∧ u.plan.active = some seg ∧ seg.slot = h ∧
          seg.activation = s.plan.activation + 1 ∧ seg.start = s.partTime ∧ seg.fields = clampFields (s.slotFields h) ∧
          u.slotState h = slotActive ∧ u.drive.suspended = false ∧ u.drive.wheels = s.drive.wheels ∧
          u.port.answer = ⟨4, 1, 0, s.port.requestCount + 1⟩) ∧
      (∀ old, s.slotState h = slotQueued → s.plan.state = .running → s.plan.active = some old →
        s.contact.stage ≠ .quiet →
        ∃ u, exec .planStart s = .next u ∧ u.plan.state = .running ∧ u.plan.active = none ∧
          u.plan.deferred = some h ∧ u.slotState old.slot = slotCut ∧ u.word (slotBase old.slot + 20) = 14 ∧
          u.plan.activation = s.plan.activation ∧ u.contact = s.contact ∧ u.drive.suspended = false ∧
          (s.plan.holdTimer = none → s.plan.applied.bladeHold ≠ 0 →
            u.plan.holdTimer = some (s.partTime + BitVec.ofNat 32 s.plan.applied.bladeHold)) ∧
          u.port.answer = ⟨4, 1, 0, s.port.requestCount + 1⟩) ∧
      (s.slotState h = slotQueued → s.plan.state = .running → s.plan.active = none →
        ∃ u, exec .planStart s = .next u ∧
          u = { s with
            plan := { s.plan with deferred := some h }
            port := { s.port with
              requestCount := s.port.requestCount + 1
              args := s.argWords
              answer := ⟨4, 1, 0, s.port.requestCount + 1⟩ }
            notice := u.notice
            mem := u.mem } ∧
          ∀ a, 0x040 ≤ a → a ≠ 0x041 → u.word a = s.word a)

/-- R52, R60, R62: PLAN_STOP. With a segment active the segment is cut STOPPED, its run and the wheels' suspension end and
the plan is IDLE; in WAITING_NEXT, HELD or a deferral the plan becomes IDLE; in IDLE nothing changes; it is always
DONE. -/
def Obligations.PlanStop : Prop :=
  ∀ s : State, s.resetting = none → s.guard.machine ≠ .start → (∀ n, s.port.inHand ≠ .selfCheck n) →
    ∃ u, exec .planStop s = .next u ∧ u.timebase = s.timebase ∧ u.partTime = s.partTime ∧ u.recv = s.recv ∧
      u.loops = s.loops ∧ u.gov = s.gov ∧ u.guard = s.guard ∧ u.contact = s.contact ∧
      u.drive.wheels = s.drive.wheels ∧ u.port.answer = ⟨5, 1, 0, s.port.requestCount + 1⟩ ∧
      (s.plan.state = .idle → u.plan = s.plan ∧ u.blade = s.blade) ∧
      (s.plan.state ≠ .idle → u.plan.state = .idle ∧ u.plan.active = none ∧ u.plan.waiting = none ∧
        u.plan.deferred = none ∧ u.plan.heldSlot = none ∧ u.plan.holdTimer = none ∧ u.plan.waitTimer = none ∧
        u.plan.standing = .off ∧ u.plan.activation = s.plan.activation ∧ u.plan.applied = s.plan.applied ∧
        u.blade.effective = .off) ∧
      ∀ seg, s.plan.state ≠ .idle → s.plan.active = some seg →
        u.slotState seg.slot = slotCut ∧ u.word (slotBase seg.slot + 20) = 15 ∧ u.track.running = none ∧
          u.drive.suspended = false ∧ ∀ n : Slot, n ≠ seg.slot → u.slotState n = s.slotState n

/-- R77, R145, R146: SET_POSE sets x, y and heading from its argument words, and moves the heading reference of an active ROLL
with the heading; CLEAR_CONTACTS empties the contact list, which starts a refresh of its mirror or sets that mirror's again
flag, and leaves a reflex in progress as it is. Both are DONE. -/
def Obligations.SetPoseAndClearContacts : Prop :=
  ∀ s : State, s.resetting = none → s.guard.machine ≠ .start → (∀ n, s.port.inHand ≠ .selfCheck n) →
    (let x : BitVec 32 := s.word 0x043 ++ s.word 0x042
     let y : BitVec 32 := s.word 0x045 ++ s.word 0x044
     let rolls := ∃ seg, s.plan.active = some seg ∧ seg.fields.kind = 1
     ∃ u, exec .setPose s = .next u ∧
      u = { s with
        drive := { s.drive with
          x := x.toInt * 256, y := y.toInt * 256, heading := s.word 0x046, headingRef := u.drive.headingRef }
        port := { s.port with
          requestCount := s.port.requestCount + 1
          args := s.argWords
          answer := ⟨6, 1, 0, s.port.requestCount + 1⟩ }
        notice := u.notice
        mem := u.mem } ∧
      (rolls → u.drive.headingRef = s.drive.headingRef + (s.word 0x046 - s.drive.heading)) ∧
      (¬ rolls → u.drive.headingRef = s.drive.headingRef) ∧
      ∀ a, 0x040 ≤ a → a ≠ 0x041 → u.word a = s.word a) ∧
    ∃ u, exec .clearContacts s = .next u ∧
      u = { s with
        contact := { s.contact with list := [] }
        port := u.port
        notice := u.notice
        mem := u.mem } ∧
      u.port.answer = ⟨7, 1, 0, s.port.requestCount + 1⟩ ∧
      (∀ a, 0x040 ≤ a → a ≠ 0x041 → a ≠ 0x200 → u.word a = s.word a) ∧
      (s.port.contactList.writing = none →
        u.port.contactList.writing.isSome = true ∧ u.port.contactList.again = false ∧
          (MemoryCanonical s → u.word 0x200 = s.word 0x200 + 1)) ∧
      (s.port.contactList.writing.isSome = true →
        u.port.contactList = { s.port.contactList with again := true } ∧ u.word 0x200 = s.word 0x200)

/-- R120, R123, R129: BLADE_UNLOCK. In LOCKED_OUT the blade is OFF and the request DONE, and an armed machine whose
effective directive is CUT spins up at once; in any other blade state it is refused and changes nothing. -/
def Obligations.BladeUnlock : Prop :=
  ∀ s : State, s.resetting = none → s.guard.machine ≠ .start → (∀ n, s.port.inHand ≠ .selfCheck n) →
    ∃ u, exec .bladeUnlock s = .next u ∧
      (s.blade.state ≠ .lockedOut →
        u = { s with
          port := { s.port with
            requestCount := s.port.requestCount + 1
            args := s.argWords
            answer := ⟨8, 2, 0, s.port.requestCount + 1⟩ }
          notice := u.notice
          mem := u.mem } ∧
        ∀ a, 0x040 ≤ a → a ≠ 0x041 → u.word a = s.word a) ∧
      (s.blade.state = .lockedOut →
        u = { s with
          plan := u.plan
          blade := u.blade
          port := { s.port with
            requestCount := s.port.requestCount + 1
            args := s.argWords
            answer := ⟨8, 1, 0, s.port.requestCount + 1⟩ }
          notice := u.notice
          mem := u.mem } ∧
        u.blade.effective = s.effectiveDirective ∧ u.blade.duty = 0 ∧ u.blade.brake = false ∧
        u.blade.jamCount = s.blade.jamCount ∧ u.blade.lastFault = s.blade.lastFault ∧
        u.blade.lastJam = s.blade.lastJam ∧
        (s.effectiveDirective = .off → u.blade.state = .off ∧ (MemoryCanonical s → u.word 0x2A0 = 0)) ∧
        (s.effectiveDirective = .cut →
          u.blade.state = .spinup ∧ u.blade.spinupEntry = s.partTime ∧ u.word 0x2A0 = 1))

/-- R35, R182, R183, R196: PARK and WAKE. PARK is refused by the first of its rows that applies; taken, the machine is
PARKED, the window and the snapshot timers take their parked periods, every sub-record but REAR of loops 0 and 3 is LOST,
and the dock record notes the time. WAKE is refused outside PARKED; taken, the machine is SAFE and the periods are the
ordinary ones. -/
def Obligations.ParkAndWake : Prop :=
  ∀ s : State, s.resetting = none → s.guard.machine ≠ .start → (∀ n, s.port.inHand ≠ .selfCheck n) → BladeLaw s →
    PlanLaw s →
    let verdict : Word × Word :=
      if s.guard.machine ≠ .safe ∧ s.guard.machine ≠ .armed then (2, 0)
      else if s.plan.state ≠ .idle then (3, 9)
      else if s.dock.sense ≠ .present ∧ s.dock.sense ≠ .falling then (3, 10)
      else if s.loops.recs.l0.coils.rear.state = .lost then (3, 11)
      else (1, 0)
    let turnedAway (u : State) (a : Answer) : Prop :=
      u = { s with
        port := { s.port with requestCount := s.port.requestCount + 1, args := s.argWords, answer := a }
        notice := u.notice
        mem := u.mem }
    ∃ u v, exec .park s = .next u ∧ exec .wake s = .next v ∧
      u.port.answer = ⟨9, verdict.1, verdict.2, s.port.requestCount + 1⟩ ∧
      (verdict ≠ (1, 0) → turnedAway u u.port.answer) ∧
      (verdict = (1, 0) →
        u.guard.machine = .parked ∧ u.word 0x002 = 4 ∧ u.plan.state = .idle ∧ u.plan.applied = s.plan.applied ∧
        u.loops.windowTimer = s.partTime + 2000 ∧ u.port.snapTimer = s.partTime + 1000 ∧
        u.dock.record.parkTime = some s.partTime ∧ u.dock.record.wakeReason = .none ∧
        (∀ n i, (i ≠ .rear ∨ n ≠ 0 ∧ n ≠ 3) → (u.loops.recs.get n).coils.get i = lostSub) ∧
        (∀ n, n = 0 ∨ n = 3 →
          (u.loops.recs.get n).coils.rear = { (s.loops.recs.get n).coils.rear with window := 0 }) ∧
        (s.guard.machine = .armed → (∀ i, (u.drive.wheels.get i).target = 0) ∧ u.contact.stage = .quiet ∧
          u.contact.pinging = false ∧ u.guard.silence = none ∧ u.guard.recovery = false ∧ u.blade.duty = 0) ∧
        u.recv = s.recv ∧ u.gov = s.gov ∧ u.partTime = s.partTime) ∧
      (s.guard.machine ≠ .parked → turnedAway v ⟨10, 2, 0, s.port.requestCount + 1⟩) ∧
      (s.guard.machine = .parked →
        v.guard.machine = .safe ∧ v.word 0x002 = 1 ∧ v.port.answer = ⟨10, 1, 0, s.port.requestCount + 1⟩ ∧
        v.loops.windowTimer = s.partTime + 500 ∧ v.port.snapTimer = s.partTime + 50 ∧
        v.dock.record.wakeReason = .wake ∧ v.dock.record.wakeTime = some s.partTime ∧ Woken s v .wake ∧
        v.plan = s.plan ∧ v.drive = s.drive ∧ v.contact = s.contact ∧ v.recv = s.recv ∧ v.gov = s.gov ∧
        (∀ n i, (v.loops.recs.get n).coils.get i = { (s.loops.recs.get n).coils.get i with window := 0 }))

/-! ### Exchange Port and Notice Unit -/

/-- R165, R192: a write to the heartbeat word stores it; while ARMED a changed value restarts the silence timer. -/
def Obligations.HeartbeatWrite : Prop :=
  ∀ (v : Word) (s : State), s.resetting = none →
    let stored : State := { s with mem := s.mem.write 0x040 v }
    (s.guard.machine = .armed → v ≠ s.word 0x040 →
      exec (.heartbeatWrite v) s = .next { stored with guard := { s.guard with
        silence := some (s.partTime + BitVec.ofNat 32 (max 100 (min 5000 (s.word 0x063).toNat))) } }) ∧
    (s.guard.machine ≠ .armed ∨ v = s.word 0x040 → exec (.heartbeatWrite v) s = .next stored) ∧
    (MemoryCanonical s → stored.word 0x040 = v) ∧ ∀ a, a ≠ 0x040 → stored.word a = s.word a

/-- R41, R188, R199: where a host write goes. It is stored in the command block, the live settings (where a write to
NOTICE_ENABLE has the attention line judged again), the staged settings and the host scratch area, and in a slot that is
not ACTIVE, whose state word takes only FREE and QUEUED; a write anywhere else below the registers is dropped: counted up
to 65535, shown in the header and posted. -/
def Obligations.HostWriteTakenOrDropped : Prop :=
  ∀ (a : BitVec 12) (v : Word) (s : State), s.resetting = none → (Instr.hostWrite a v).wellFormed = true →
    let n := a.toNat
    let inSlot := 0x400 ≤ n ∧ n < 0xA00
    let taken := (0x040 ≤ n ∧ n < 0x0C0) ∨ (0xA00 ≤ n ∧ n < 0xFFC) ∨
      (inSlot ∧ s.word (n - n % 32) ≠ 2 ∧ (n % 32 = 0 → v.toNat ≤ 1))
    (taken → n ≠ 0x062 → exec (.hostWrite a v) s = .next { s with mem := s.mem.write n v }) ∧
    (n = 0x062 → ∃ u, exec (.hostWrite a v) s = .next u ∧
      u = { s with mem := s.mem.write n v, notice := { s.notice with line := s.notice.lineLevel (u.word 0x062) } }) ∧
    (¬ taken → n < 0xFFC → ∃ u, exec (.hostWrite a v) s = .next u ∧
      u = { s with
        port := { s.port with faults := if s.port.faults < 65535 then s.port.faults + 1 else 65535 }
        notice := u.notice
        mem := u.mem } ∧
      u.word 0x00D = wordN u.port.faults ∧
      (s.noticesHeld = false → Posts s u .port 2 [BitVec.ofNat 16 n]) ∧
      (s.noticesHeld = true → u.notice = s.notice) ∧ ∀ b, 0x040 ≤ b → u.word b = s.word b) ∧
    (0xFFC ≤ n → exec (.hostWrite a v) s = .next s)

/-- R195, R196: the mirrors' refreshes. A snapshot timer that expires restarts, 50 ms long or 1000 ms while PARKED, and
starts a refresh, or sets the again flag while one is writing. The end of a refresh writes what is left of its copy, each
word at its address, and makes CLOSE equal OPEN; with the again flag set the next refresh starts at once with a copy of
the state as it stands, and with no refresh writing nothing happens. (The copy holds no word at OPEN.) The model's part:
log entries 2, 13, 22 and 37. -/
def Obligations.SnapshotAndRefresh : Prop :=
  ∀ s : State, s.resetting = none →
    (due s.partTime s.port.snapTimer = false → exec .snapshotTimerExpiry s = .next s) ∧
    (due s.partTime s.port.snapTimer = true →
      let timer := s.port.snapTimer + (if s.guard.machine = .parked then 1000 else 50)
      (s.port.snapshot.writing.isSome = true → exec .snapshotTimerExpiry s = .next { s with port := { s.port with
        snapTimer := timer, snapshot := { s.port.snapshot with again := true } } }) ∧
      (s.port.snapshot.writing = none → exec .snapshotTimerExpiry s = .next { s with
        port := { s.port with snapTimer := timer, snapshot := ⟨some (s.mirrorCopy .snapshot), false⟩ }
        mem := s.mem.write 0x100 (s.word 0x100 + 1) })) ∧
    ∀ m : Mirror,
      let refresh := s.port.refresh m
      (refresh.writing = none → exec (.refreshEnd m) s = .next s) ∧
      ∀ copy, refresh.writing = some copy → (∀ c ∈ copy, c.1 ≠ mirrorOpen m) → MemoryCanonical s →
        ∃ u, exec (.refreshEnd m) s = .next u ∧
          u = { s with port := s.port.setRefresh m (u.port.refresh m), mem := u.mem } ∧
          (refresh.again = false → u.port.refresh m = ⟨none, false⟩ ∧
            u.mem = (s.mem.writeAll copy).write (mirrorClose m) (s.word (mirrorOpen m)) ∧
            u.word (mirrorClose m) = u.word (mirrorOpen m) ∧ u.word (mirrorOpen m) = s.word (mirrorOpen m)) ∧
          (refresh.again = true → u.port.refresh m = ⟨some (s.mirrorCopy m), false⟩ ∧
            u.mem = ((s.mem.writeAll copy).write (mirrorClose m) (s.word (mirrorOpen m))).write (mirrorOpen m)
              (s.word (mirrorOpen m) + 1) ∧
            u.word (mirrorClose m) = s.word (mirrorOpen m) ∧ u.word (mirrorOpen m) = s.word (mirrorOpen m) + 1) ∧
          (∀ a, a ≠ mirrorOpen m → a ≠ mirrorClose m → (∀ c ∈ copy, c.1 ≠ a) → u.word a = s.word a)

/-- R199, R200, R201: the Notice Unit's two registers. A read of ATTENTION: with ACK_MODE 0 it takes the highest-ranked
enabled pending source that outranks every source under service: its pending flag clears, its under-service flag sets, its
count is 0, and the line is judged again; with ACK_MODE 1 it shows the highest-ranked enabled pending source and changes
nothing. The word read holds valid, source and status, and is 0 where no source qualifies. A write to ATTENTION is ignored. A
write to SERVICE: 0x0080 ends the service of the highest-ranked source under service; a source number clears that source's
pending flag and count; any other value is ignored. The line is judged again; a read of SERVICE shows the pending and the
under-service flags. The model's part: log entries 6 and 28. -/
def Obligations.AttentionAndService : Prop :=
  (∀ (c : Instr) (s : State), s.resetting = none → DetailsLaw s → c = .attentionAck ∨ c = .attentionPeek →
    let signals (a : Source) : Prop :=
      (s.notice.get a).pending = true ∧ (a = .trip ∨ (s.word 0x062).getLsbD a.rank = true)
    let outranks (a : Source) : Prop := ∀ b, (s.notice.get b).service = true → a.rank < b.rank
    let wordOf (a : Source) : Word :=
      0x8000 ||| (BitVec.ofNat 16 a.rank <<< 8) ||| ((s.notice.get a).status &&& 0x00FF)
    (s.notice.ackMode = false →
      ((∀ a, ¬ (signals a ∧ outranks a)) → exec c s = .next { s with port := { s.port with dataLines := 0 } }) ∧
      ∀ a, signals a → outranks a → (∀ b, signals b → outranks b → a.rank ≤ b.rank) →
        ∃ u, exec c s = .next u ∧
          u = { s with
            port := { s.port with dataLines := wordOf a }
            notice := { s.notice.set a { s.notice.get a with pending := false, service := true, count := 0 } with
              line := u.notice.line }
            mem := u.mem } ∧
          u.notice.line = u.notice.lineLevel (s.word 0x062) ∧ ∀ b, 0x040 ≤ b → u.word b = s.word b) ∧
    (s.notice.ackMode = true →
      ((∀ a, ¬ signals a) → exec c s = .next { s with port := { s.port with dataLines := 0 } }) ∧
      ∀ a, signals a → (∀ b, signals b → a.rank ≤ b.rank) →
        exec c s = .next { s with port := { s.port with dataLines := wordOf a } }) ∧
    ∀ v : Word, exec (.hostWrite 0xFFC v) s = .next s) ∧
  ∀ s : State, s.resetting = none → DetailsLaw s →
    let written (u : State) (a : Source) (st : SourceState) : Prop :=
      u = { s with notice := { s.notice.set a st with line := u.notice.line }, mem := u.mem } ∧
      u.notice.line = u.notice.lineLevel (s.word 0x062) ∧ ∀ b, 0x040 ≤ b → u.word b = s.word b
    ((∀ a, (s.notice.get a).service = false) → exec .serviceEnd s = .next s) ∧
    (∀ a, (s.notice.get a).service = true → (∀ b, (s.notice.get b).service = true → a.rank ≤ b.rank) →
      ∃ u, exec .serviceEnd s = .next u ∧ written u a { s.notice.get a with service := false }) ∧
    (∀ a : Source, ∃ u, exec (.serviceClear (BitVec.ofNat 16 a.rank)) s = .next u ∧
      written u a { s.notice.get a with pending := false, count := 0 }) ∧
    (∀ v : Word, 6 < v.toNat → v ≠ 0x0080 → exec (.hostWrite 0xFFD v) s = .next s) ∧
    (∀ a : Source, s.notice.serviceWord.getLsbD a.rank = (s.notice.get a).pending ∧
      s.notice.serviceWord.getLsbD (8 + a.rank) = (s.notice.get a).service) ∧
    s.notice.serviceWord.getLsbD 7 = false ∧ s.notice.serviceWord.getLsbD 15 = false ∧
    s.hostRead 0xFFD = s.notice.serviceWord

/-! ### Track Steering -/

/-- R91, R92, R93, R94, R95, R96, R97, R98, R99, R101, R175: Track Steering in a control period that finds no hazard. A
TRACK ends TIMEOUT, or REACHED at its distance. Otherwise, and for a DOCK in APPROACH or in NEAR within DOCK_REACH, the
two sub-records give the hold case, the wire error or the mixed case: an error less the offset is e, clears the weak count
and steers; the hold case steers on with the e of the period before, and its count ends the segment WIRE_WEAK at
WEAK_LIMIT; the mixed case ends it FLIPPED. The model's part: log entries 2 and 14 (which period's travel counts as the
run that ends it REACHED). -/
def Obligations.TrackSteering : Prop :=
  ∀ (t : Capture) (pitch roll : Byte) (s : State) (seg : Segment) (n : Loop) (side : FollowSide),
    CalmPeriod s pitch roll → s.contact.stall = ⟨none, none⟩ → s.contact.stage = .quiet → s.drive.suspended = false →
    s.plan.active = some seg → seg.fields.kind = 4 ∨ seg.fields.kind = 5 → s.track.loop = some n →
    s.track.side = some side →
    let l := (s.loops.recs.get n).coils.left
    let r := (s.loops.recs.get n).coils.right
    let steers : Prop :=
      seg.fields.kind = 4 ∧ (seg.fields.distance.toInt ≤ 0 ∨ (runDistance s / 256 : Nat) < seg.fields.distance.toInt) ∨
        seg.fields.kind = 5 ∧ s.dock.run = .dock seg.activation ∧ s.dock.bumpPending = false ∧
          (s.dock.phase = some .approach ∨
            s.dock.phase = some .near ∧ travelled s s.dock.near / 256 ≤ s.plan.applied.dockReach)
    ∃ u, exec (.controlPeriod t pitch roll) s = .next u ∧ u.guard.machine = .armed ∧
      let ends (slot cause : Word) : Prop :=
        seg.fields.next = 255 → u.plan.state = .idle ∧ Over u seg slot cause ∧ AtRest u
      let goesOn (e : Int) (weak : Nat) : Prop :=
        u.plan.active = some seg ∧
          u.track = { s.track with e := e, ePrev := e, weak := weak, published := weak } ∧
          Takes s u (steered s.plan.applied s.track.speed u.gov.cap e s.track.ePrev)
      (TimeUp s seg → ends slotCut 6) ∧
      (seg.fields.kind = 4 → ¬ TimeUp s seg → ¬ steers → ends slotDone 1) ∧
      (steers → ¬ TimeUp s seg → WireHold s l r →
        (s.track.weak + 1 < s.plan.applied.weakLimit → goesOn s.track.ePrev (s.track.weak + 1)) ∧
        (s.plan.applied.weakLimit ≤ s.track.weak + 1 → ends slotCut 7)) ∧
      (steers → ¬ TimeUp s seg → ¬ WireHold s l r →
        (wireError side l r = none → ends slotCut 8) ∧
        ∀ raw, wireError side l r = some raw → goesOn (raw - s.track.offset) 0)

/-! ### PORTCTL and IDENT -/

/-- R202: a write to PORTCTL stores ATN_ENABLE and ACK_MODE, whatever its other bits, and a read returns those two alone;
POWER, PIN and STROBE clear both, RESTART keeps them; IDENT reads 0x4401 and a write to it is ignored, and no access to
the four registers is a port fault. -/
def Obligations.PortctlWrite : Prop :=
  ∀ s : State,
    (s.resetting = none → ∀ v : Word, ∃ u, exec (.portctlWrite v) s = .next u ∧
      u = { s with notice := { s.notice with
        atnEnable := v.getLsbD 0, ackMode := v.getLsbD 1, line := u.notice.lineLevel (s.word 0x062) } } ∧
      u.hostRead 0xFFE = v &&& 3) ∧
    (∀ r, s.resetting = some r → ∃ u, exec .resetEnd s = .next u ∧ u.hostRead 0xFFE = 0) ∧
    (s.resetting = none → s.guard.machine ≠ .start →
      ∃ u, exec .restart s = .next u ∧ u.hostRead 0xFFE = s.hostRead 0xFFE) ∧
    (s.resetting = none → s.hostRead 0xFFF = 0x4401) ∧ (∀ v : Word, exec (.hostWrite 0xFFF v) s = .next s) ∧
    (∀ (a : BitVec 12) (v : Word), 0xFFC ≤ a.toNat → ∃ u, exec (.hostWrite a v) s = .next u ∧
      u.port.faults = s.port.faults ∧ u.word 0x00D = s.word 0x00D) ∧
    ∀ c, c = .attentionAck ∨ c = .attentionPeek → ∃ u, exec c s = .next u ∧
      u.port.faults = s.port.faults ∧ u.word 0x00D = s.word 0x00D

/-! ### Rows that are host writes -/

/-- R188, R189, R192, R201, R202, R205: every row that is a host write is read back from its address and word, and
every well-formed one acts as the write of that word at that address. The model's part: log entry 7. -/
def Obligations.HostWriteRowsReadBack : Prop :=
  (∀ i : Instr, Laws.HostWriteRow.Statement i) ∧
  ∀ (i : Instr) (a : BitVec 12) (v : Word) (s : State), writeOfRow i = some (a, v) → i.wellFormed = true →
    exec i s = exec (.hostWrite a v) s

/-! ### Laws that every step keeps -/

/-- R207: a step keeps the exchange memory in its canonical form. The model's part: log entry 8. -/
def Obligations.StepKeepsMemoryCanonical : Prop :=
  ∀ s t : State, step s = .next t → MemoryCanonical s → MemoryCanonical t

/-- R25: a step keeps every LOST sub-record without side, agree count and amplitude. -/
def Obligations.StepKeepsLostLaw : Prop := ∀ s t : State, step s = .next t → LostLaw s → LostLaw t

/-- R44: a step keeps the plan IDLE, and no segment active, outside ARMED. -/
def Obligations.StepKeepsPlanLaw : Prop := ∀ s t : State, step s = .next t → PlanLaw s → PlanLaw t

/-- R72: a step keeps the wheel targets within ±800, and 0 outside ARMED and under a cap of 0. -/
def Obligations.StepKeepsTargetLaw : Prop := ∀ s t : State, step s = .next t → TargetLaw s → TargetLaw t

/-- R106: a step keeps the cap the least of the present contributors, within 0..800, named by the first that holds it. -/
def Obligations.StepKeepsCapLaw : Prop := ∀ s t : State, step s = .next t → CapLaw s → CapLaw t

/-- R121: a step keeps the blade driven only while ARMED, in SPINUP or CUTTING, and never with the brake on. -/
def Obligations.StepKeepsBladeLaw : Prop := ∀ s t : State, step s = .next t → BladeLaw s → BladeLaw t

/-- R144: a step keeps the contact list at 8 entries at most, each with a sonar source carrying a range. -/
def Obligations.StepKeepsContactLaw : Prop := ∀ s t : State, step s = .next t → ContactLaw s → ContactLaw t

/-- R65: a step keeps every applied setting within its range. -/
def Obligations.StepKeepsSettingsLaw : Prop := ∀ s t : State, step s = .next t → SettingsLaw s → SettingsLaw t

/-- R162: a step keeps the lift inputs' debounce in accord with their levels, and no standing lift or stop key while
ARMED. The model's part: log entry 3. -/
def Obligations.StepKeepsHazardLaw : Prop := ∀ s t : State, step s = .next t → HazardLaw s → HazardLaw t

/-- R199: a step keeps the attention line at the level its rule gives. The model's part: log entry 22. -/
def Obligations.StepKeepsLineLaw : Prop := ∀ s t : State, step s = .next t → LineLaw s → LineLaw t

/-- R167: over a step from TRIPPED to TRIPPED the first cause stands and the further causes only grow. -/
def Obligations.StepKeepsTripCauses : Prop := ∀ s t : State, step s = .next t → TripLaw s t

/-- The state after reset meets the laws that every step keeps. -/
def Obligations.ResetMeetsLaws : Prop :=
  MemoryCanonical State.reset ∧ LostLaw State.reset ∧ PlanLaw State.reset ∧ TargetLaw State.reset ∧
    CapLaw State.reset ∧ BladeLaw State.reset ∧ ContactLaw State.reset ∧ SettingsLaw State.reset ∧
    HazardLaw State.reset ∧ LineLaw State.reset
end

