-- ==== Sys2Proof/Laws/FrameOps.lean ====
section
/-! SUPPORT. What each operation of Machine/Ops.lean leaves unchanged. -/

namespace Sys2Proof.Machine

@[simp] theorem State.put_frame (a : Nat) (v : Word) (s : State) :
    (State.put a v s).timebase = s.timebase ∧ (State.put a v s).partTime = s.partTime ∧
    (State.put a v s).resetting = s.resetting ∧ (State.put a v s).pins = s.pins ∧
    (State.put a v s).recv = s.recv ∧ (State.put a v s).loops = s.loops ∧ (State.put a v s).plan = s.plan ∧
    (State.put a v s).drive = s.drive ∧ (State.put a v s).track = s.track ∧ (State.put a v s).gov = s.gov ∧
    (State.put a v s).blade = s.blade ∧ (State.put a v s).contact = s.contact ∧
    (State.put a v s).guard = s.guard ∧ (State.put a v s).dock = s.dock ∧ (State.put a v s).port = s.port ∧
    (State.put a v s).notice = s.notice ∧ (State.put a v s).pending = s.pending := by and_intros <;> rfl

@[simp] theorem State.putAll_frame (cells : List (Nat × Word)) (s : State) :
    (State.putAll cells s).timebase = s.timebase ∧ (State.putAll cells s).partTime = s.partTime ∧
    (State.putAll cells s).resetting = s.resetting ∧ (State.putAll cells s).pins = s.pins ∧
    (State.putAll cells s).recv = s.recv ∧ (State.putAll cells s).loops = s.loops ∧
    (State.putAll cells s).plan = s.plan ∧ (State.putAll cells s).drive = s.drive ∧
    (State.putAll cells s).track = s.track ∧ (State.putAll cells s).gov = s.gov ∧
    (State.putAll cells s).blade = s.blade ∧ (State.putAll cells s).contact = s.contact ∧
    (State.putAll cells s).guard = s.guard ∧ (State.putAll cells s).dock = s.dock ∧
    (State.putAll cells s).port = s.port ∧ (State.putAll cells s).notice = s.notice ∧
    (State.putAll cells s).pending = s.pending := by and_intros <;> rfl

@[simp] theorem judgeLine_frame (s : State) :
    (judgeLine s).timebase = s.timebase ∧ (judgeLine s).partTime = s.partTime ∧
    (judgeLine s).resetting = s.resetting ∧ (judgeLine s).pins = s.pins ∧ (judgeLine s).recv = s.recv ∧
    (judgeLine s).loops = s.loops ∧ (judgeLine s).plan = s.plan ∧ (judgeLine s).drive = s.drive ∧
    (judgeLine s).track = s.track ∧ (judgeLine s).gov = s.gov ∧ (judgeLine s).blade = s.blade ∧
    (judgeLine s).contact = s.contact ∧ (judgeLine s).guard = s.guard ∧ (judgeLine s).dock = s.dock ∧
    (judgeLine s).port = s.port ∧ (judgeLine s).mem = s.mem ∧ (judgeLine s).pending = s.pending ∧
    (judgeLine s).notice.atnEnable = s.notice.atnEnable := by and_intros <;> rfl

@[simp] theorem setSource_frame (src : Source) (st : SourceState) (s : State) :
    (setSource src st s).timebase = s.timebase ∧ (setSource src st s).partTime = s.partTime ∧
    (setSource src st s).resetting = s.resetting ∧ (setSource src st s).pins = s.pins ∧
    (setSource src st s).recv = s.recv ∧ (setSource src st s).loops = s.loops ∧
    (setSource src st s).plan = s.plan ∧ (setSource src st s).drive = s.drive ∧
    (setSource src st s).track = s.track ∧ (setSource src st s).gov = s.gov ∧
    (setSource src st s).blade = s.blade ∧ (setSource src st s).contact = s.contact ∧
    (setSource src st s).guard = s.guard ∧ (setSource src st s).dock = s.dock ∧
    (setSource src st s).port = s.port ∧ (setSource src st s).pending = s.pending := by and_intros <;> rfl

@[simp] theorem post_frame (r : Report) (s : State) :
    (post r s).timebase = s.timebase ∧ (post r s).partTime = s.partTime ∧ (post r s).resetting = s.resetting ∧
    (post r s).pins = s.pins ∧ (post r s).recv = s.recv ∧ (post r s).loops = s.loops ∧
    (post r s).plan = s.plan ∧ (post r s).drive = s.drive ∧ (post r s).track = s.track ∧
    (post r s).gov = s.gov ∧ (post r s).blade = s.blade ∧ (post r s).contact = s.contact ∧
    (post r s).guard = s.guard ∧ (post r s).dock = s.dock ∧ (post r s).port = s.port ∧
    (post r s).pending = s.pending := by
  unfold post
  split <;> simp

@[simp] theorem answerWith_frame (code : Word) (r : Result) (count : BitVec 8) (s : State) :
    (answerWith code r count s).timebase = s.timebase ∧ (answerWith code r count s).partTime = s.partTime ∧
    (answerWith code r count s).resetting = s.resetting ∧ (answerWith code r count s).pins = s.pins ∧
    (answerWith code r count s).recv = s.recv ∧ (answerWith code r count s).loops = s.loops ∧
    (answerWith code r count s).plan = s.plan ∧ (answerWith code r count s).drive = s.drive ∧
    (answerWith code r count s).track = s.track ∧ (answerWith code r count s).gov = s.gov ∧
    (answerWith code r count s).blade = s.blade ∧ (answerWith code r count s).contact = s.contact ∧
    (answerWith code r count s).guard = s.guard ∧ (answerWith code r count s).dock = s.dock ∧
    (answerWith code r count s).pending = s.pending ∧ (answerWith code r count s).port.inHand = s.port.inHand ∧
    (answerWith code r count s).port.requestCount = s.port.requestCount := by simp [answerWith]

@[simp] theorem startRefresh_frame (m : Mirror) (s : State) :
    (startRefresh m s).timebase = s.timebase ∧ (startRefresh m s).partTime = s.partTime ∧
    (startRefresh m s).resetting = s.resetting ∧ (startRefresh m s).pins = s.pins ∧
    (startRefresh m s).recv = s.recv ∧ (startRefresh m s).loops = s.loops ∧ (startRefresh m s).plan = s.plan ∧
    (startRefresh m s).drive = s.drive ∧ (startRefresh m s).track = s.track ∧ (startRefresh m s).gov = s.gov ∧
    (startRefresh m s).blade = s.blade ∧ (startRefresh m s).contact = s.contact ∧
    (startRefresh m s).guard = s.guard ∧ (startRefresh m s).dock = s.dock ∧
    (startRefresh m s).notice = s.notice ∧ (startRefresh m s).pending = s.pending := by
  unfold startRefresh
  split <;> simp

@[simp] theorem writeBladeRecord_frame (s : State) :
    (writeBladeRecord s).timebase = s.timebase ∧ (writeBladeRecord s).partTime = s.partTime ∧
    (writeBladeRecord s).resetting = s.resetting ∧ (writeBladeRecord s).pins = s.pins ∧
    (writeBladeRecord s).recv = s.recv ∧ (writeBladeRecord s).loops = s.loops ∧
    (writeBladeRecord s).plan = s.plan ∧ (writeBladeRecord s).drive = s.drive ∧
    (writeBladeRecord s).track = s.track ∧ (writeBladeRecord s).gov = s.gov ∧
    (writeBladeRecord s).blade = s.blade ∧ (writeBladeRecord s).contact = s.contact ∧
    (writeBladeRecord s).guard = s.guard ∧ (writeBladeRecord s).dock = s.dock ∧
    (writeBladeRecord s).port = s.port ∧ (writeBladeRecord s).notice = s.notice ∧
    (writeBladeRecord s).pending = s.pending := by and_intros <;> rfl

@[simp] theorem writeDockRecord_frame (s : State) :
    (writeDockRecord s).timebase = s.timebase ∧ (writeDockRecord s).partTime = s.partTime ∧
    (writeDockRecord s).resetting = s.resetting ∧ (writeDockRecord s).pins = s.pins ∧
    (writeDockRecord s).recv = s.recv ∧ (writeDockRecord s).loops = s.loops ∧
    (writeDockRecord s).plan = s.plan ∧ (writeDockRecord s).drive = s.drive ∧
    (writeDockRecord s).track = s.track ∧ (writeDockRecord s).gov = s.gov ∧
    (writeDockRecord s).blade = s.blade ∧ (writeDockRecord s).contact = s.contact ∧
    (writeDockRecord s).guard = s.guard ∧ (writeDockRecord s).dock = s.dock ∧
    (writeDockRecord s).port = s.port ∧ (writeDockRecord s).notice = s.notice ∧
    (writeDockRecord s).pending = s.pending := by and_intros <;> rfl

@[simp] theorem writeTripRecord_frame (s : State) :
    (writeTripRecord s).timebase = s.timebase ∧ (writeTripRecord s).partTime = s.partTime ∧
    (writeTripRecord s).resetting = s.resetting ∧ (writeTripRecord s).pins = s.pins ∧
    (writeTripRecord s).recv = s.recv ∧ (writeTripRecord s).loops = s.loops ∧
    (writeTripRecord s).plan = s.plan ∧ (writeTripRecord s).drive = s.drive ∧
    (writeTripRecord s).track = s.track ∧ (writeTripRecord s).gov = s.gov ∧
    (writeTripRecord s).blade = s.blade ∧ (writeTripRecord s).contact = s.contact ∧
    (writeTripRecord s).guard = s.guard ∧ (writeTripRecord s).dock = s.dock ∧
    (writeTripRecord s).port = s.port ∧ (writeTripRecord s).notice = s.notice ∧
    (writeTripRecord s).pending = s.pending := by and_intros <;> rfl

@[simp] theorem writeCheckRecord_frame (s : State) :
    (writeCheckRecord s).timebase = s.timebase ∧ (writeCheckRecord s).partTime = s.partTime ∧
    (writeCheckRecord s).resetting = s.resetting ∧ (writeCheckRecord s).pins = s.pins ∧
    (writeCheckRecord s).recv = s.recv ∧ (writeCheckRecord s).loops = s.loops ∧
    (writeCheckRecord s).plan = s.plan ∧ (writeCheckRecord s).drive = s.drive ∧
    (writeCheckRecord s).track = s.track ∧ (writeCheckRecord s).gov = s.gov ∧
    (writeCheckRecord s).blade = s.blade ∧ (writeCheckRecord s).contact = s.contact ∧
    (writeCheckRecord s).guard = s.guard ∧ (writeCheckRecord s).dock = s.dock ∧
    (writeCheckRecord s).port = s.port ∧ (writeCheckRecord s).notice = s.notice ∧
    (writeCheckRecord s).pending = s.pending := by simp [writeCheckRecord]

@[simp] theorem writeResetRecord_frame (s : State) :
    (writeResetRecord s).timebase = s.timebase ∧ (writeResetRecord s).partTime = s.partTime ∧
    (writeResetRecord s).resetting = s.resetting ∧ (writeResetRecord s).pins = s.pins ∧
    (writeResetRecord s).recv = s.recv ∧ (writeResetRecord s).loops = s.loops ∧
    (writeResetRecord s).plan = s.plan ∧ (writeResetRecord s).drive = s.drive ∧
    (writeResetRecord s).track = s.track ∧ (writeResetRecord s).gov = s.gov ∧
    (writeResetRecord s).blade = s.blade ∧ (writeResetRecord s).contact = s.contact ∧
    (writeResetRecord s).guard = s.guard ∧ (writeResetRecord s).dock = s.dock ∧
    (writeResetRecord s).port = s.port ∧ (writeResetRecord s).notice = s.notice ∧
    (writeResetRecord s).pending = s.pending := by and_intros <;> rfl

@[simp] theorem noteLoops_frame (s : State) :
    (noteLoops s).timebase = s.timebase ∧ (noteLoops s).partTime = s.partTime ∧
    (noteLoops s).resetting = s.resetting ∧ (noteLoops s).pins = s.pins ∧ (noteLoops s).recv = s.recv ∧
    (noteLoops s).loops = s.loops ∧ (noteLoops s).plan = s.plan ∧ (noteLoops s).drive = s.drive ∧
    (noteLoops s).track = s.track ∧ (noteLoops s).gov = s.gov ∧ (noteLoops s).blade = s.blade ∧
    (noteLoops s).contact = s.contact ∧ (noteLoops s).guard = s.guard ∧ (noteLoops s).dock = s.dock ∧
    (noteLoops s).port = s.port ∧ (noteLoops s).notice = s.notice ∧ (noteLoops s).mem = s.mem ∧
    (noteLoops s).pending = s.pending := by and_intros <;> rfl

@[simp] theorem noteContacts_frame (s : State) :
    (noteContacts s).timebase = s.timebase ∧ (noteContacts s).partTime = s.partTime ∧
    (noteContacts s).resetting = s.resetting ∧ (noteContacts s).pins = s.pins ∧
    (noteContacts s).recv = s.recv ∧ (noteContacts s).loops = s.loops ∧ (noteContacts s).plan = s.plan ∧
    (noteContacts s).drive = s.drive ∧ (noteContacts s).track = s.track ∧ (noteContacts s).gov = s.gov ∧
    (noteContacts s).blade = s.blade ∧ (noteContacts s).contact = s.contact ∧
    (noteContacts s).guard = s.guard ∧ (noteContacts s).dock = s.dock ∧ (noteContacts s).port = s.port ∧
    (noteContacts s).notice = s.notice ∧ (noteContacts s).mem = s.mem ∧ (noteContacts s).pending = s.pending := by and_intros <;> rfl

/-- Between the notes it puts aside and takes up again, an event's rules do what they do. -/
@[simp] theorem State.noting_frame (s : State) (f : State → State) :
    (s.noting f).timebase = (f { s with causes := Causes.none }).timebase ∧
    (s.noting f).partTime = (f { s with causes := Causes.none }).partTime ∧
    (s.noting f).resetting = (f { s with causes := Causes.none }).resetting ∧
    (s.noting f).pins = (f { s with causes := Causes.none }).pins ∧
    (s.noting f).recv = (f { s with causes := Causes.none }).recv ∧
    (s.noting f).loops = (f { s with causes := Causes.none }).loops ∧
    (s.noting f).plan = (f { s with causes := Causes.none }).plan ∧
    (s.noting f).drive = (f { s with causes := Causes.none }).drive ∧
    (s.noting f).track = (f { s with causes := Causes.none }).track ∧
    (s.noting f).gov = (f { s with causes := Causes.none }).gov ∧
    (s.noting f).blade = (f { s with causes := Causes.none }).blade ∧
    (s.noting f).contact = (f { s with causes := Causes.none }).contact ∧
    (s.noting f).guard = (f { s with causes := Causes.none }).guard ∧
    (s.noting f).dock = (f { s with causes := Causes.none }).dock ∧
    (s.noting f).port = (f { s with causes := Causes.none }).port ∧
    (s.noting f).notice = (f { s with causes := Causes.none }).notice ∧
    (s.noting f).mem = (f { s with causes := Causes.none }).mem ∧
    (s.noting f).pending = (f { s with causes := Causes.none }).pending ∧ (s.noting f).causes = s.causes := by and_intros <;> rfl

@[simp] theorem startRefresh_port (m : Mirror) (s : State) :
    (startRefresh m s).port.answer = s.port.answer ∧
    (startRefresh m s).port.requestCount = s.port.requestCount ∧
    (startRefresh m s).port.inHand = s.port.inHand ∧ (startRefresh m s).port.args = s.port.args ∧
    (startRefresh m s).port.faults = s.port.faults ∧ (startRefresh m s).port.snapTimer = s.port.snapTimer ∧
    (startRefresh m s).port.latched = s.port.latched ∧ (startRefresh m s).port.dataLines = s.port.dataLines := by
  unfold startRefresh
  split <;> cases m <;> and_intros <;> rfl

@[simp] theorem startMirrors_frame (w : Bool) (a b : State) :
    (startMirrors w a b).timebase = b.timebase ∧ (startMirrors w a b).partTime = b.partTime ∧
    (startMirrors w a b).resetting = b.resetting ∧ (startMirrors w a b).pins = b.pins ∧
    (startMirrors w a b).recv = b.recv ∧ (startMirrors w a b).loops = b.loops ∧
    (startMirrors w a b).plan = b.plan ∧ (startMirrors w a b).drive = b.drive ∧
    (startMirrors w a b).track = b.track ∧ (startMirrors w a b).gov = b.gov ∧
    (startMirrors w a b).blade = b.blade ∧ (startMirrors w a b).contact = b.contact ∧
    (startMirrors w a b).guard = b.guard ∧ (startMirrors w a b).dock = b.dock ∧
    (startMirrors w a b).notice = b.notice ∧ (startMirrors w a b).pending = b.pending ∧
    (startMirrors w a b).port.answer = b.port.answer ∧
    (startMirrors w a b).port.requestCount = b.port.requestCount ∧
    (startMirrors w a b).port.inHand = b.port.inHand ∧ (startMirrors w a b).port.args = b.port.args ∧
    (startMirrors w a b).port.faults = b.port.faults ∧ (startMirrors w a b).port.snapTimer = b.port.snapTimer ∧
    (startMirrors w a b).port.latched = b.port.latched ∧ (startMirrors w a b).port.dataLines = b.port.dataLines := by
  unfold startMirrors
  dsimp only
  split <;> split <;> split <;> simp

end Sys2Proof.Machine
end

