-- ==== Sys2Proof/Laws/FrameBladeCore.lean ====
section
/-! SUPPORT. What each operation of Machine/BladeCore.lean leaves unchanged. -/

namespace Sys2Proof.Machine

@[simp] theorem setBlade_frame (b : Blade) (s : State) :
    (setBlade b s).timebase = s.timebase ∧ (setBlade b s).partTime = s.partTime ∧
    (setBlade b s).resetting = s.resetting ∧ (setBlade b s).pins = s.pins ∧ (setBlade b s).recv = s.recv ∧
    (setBlade b s).loops = s.loops ∧ (setBlade b s).plan = s.plan ∧ (setBlade b s).drive = s.drive ∧
    (setBlade b s).track = s.track ∧ (setBlade b s).gov = s.gov ∧ (setBlade b s).contact = s.contact ∧
    (setBlade b s).guard = s.guard ∧ (setBlade b s).dock = s.dock ∧ (setBlade b s).port = s.port ∧
    (setBlade b s).notice = s.notice ∧ (setBlade b s).pending = s.pending := by and_intros <;> rfl

@[simp] theorem enterBraking_frame (s : State) :
    (enterBraking s).timebase = s.timebase ∧ (enterBraking s).partTime = s.partTime ∧
    (enterBraking s).resetting = s.resetting ∧ (enterBraking s).pins = s.pins ∧
    (enterBraking s).recv = s.recv ∧ (enterBraking s).loops = s.loops ∧ (enterBraking s).plan = s.plan ∧
    (enterBraking s).drive = s.drive ∧ (enterBraking s).track = s.track ∧ (enterBraking s).gov = s.gov ∧
    (enterBraking s).contact = s.contact ∧ (enterBraking s).guard = s.guard ∧ (enterBraking s).dock = s.dock ∧
    (enterBraking s).port = s.port ∧ (enterBraking s).notice = s.notice ∧ (enterBraking s).pending = s.pending := by and_intros <;> rfl

@[simp] theorem enterSpinup_frame (s : State) :
    (enterSpinup s).timebase = s.timebase ∧ (enterSpinup s).partTime = s.partTime ∧
    (enterSpinup s).resetting = s.resetting ∧ (enterSpinup s).pins = s.pins ∧ (enterSpinup s).recv = s.recv ∧
    (enterSpinup s).loops = s.loops ∧ (enterSpinup s).plan = s.plan ∧ (enterSpinup s).drive = s.drive ∧
    (enterSpinup s).track = s.track ∧ (enterSpinup s).gov = s.gov ∧ (enterSpinup s).contact = s.contact ∧
    (enterSpinup s).guard = s.guard ∧ (enterSpinup s).dock = s.dock ∧ (enterSpinup s).port = s.port ∧
    (enterSpinup s).notice = s.notice ∧ (enterSpinup s).pending = s.pending := by and_intros <;> rfl

@[simp] theorem enterOff_frame (s : State) :
    (enterOff s).timebase = s.timebase ∧ (enterOff s).partTime = s.partTime ∧
    (enterOff s).resetting = s.resetting ∧ (enterOff s).pins = s.pins ∧ (enterOff s).recv = s.recv ∧
    (enterOff s).loops = s.loops ∧ (enterOff s).plan = s.plan ∧ (enterOff s).drive = s.drive ∧
    (enterOff s).track = s.track ∧ (enterOff s).gov = s.gov ∧ (enterOff s).contact = s.contact ∧
    (enterOff s).guard = s.guard ∧ (enterOff s).dock = s.dock ∧ (enterOff s).port = s.port ∧
    (enterOff s).notice = s.notice ∧ (enterOff s).pending = s.pending := by and_intros <;> rfl

@[simp] theorem markUncut_frame (s : State) :
    (markUncut s).timebase = s.timebase ∧ (markUncut s).partTime = s.partTime ∧
    (markUncut s).resetting = s.resetting ∧ (markUncut s).pins = s.pins ∧ (markUncut s).recv = s.recv ∧
    (markUncut s).loops = s.loops ∧ (markUncut s).drive = s.drive ∧ (markUncut s).track = s.track ∧
    (markUncut s).gov = s.gov ∧ (markUncut s).blade = s.blade ∧ (markUncut s).contact = s.contact ∧
    (markUncut s).guard = s.guard ∧ (markUncut s).dock = s.dock ∧ (markUncut s).port = s.port ∧
    (markUncut s).notice = s.notice ∧ (markUncut s).mem = s.mem ∧ (markUncut s).pending = s.pending ∧
    (markUncut s).plan.applied = s.plan.applied ∧ (markUncut s).plan.standing = s.plan.standing := by and_intros <;> rfl

@[simp] theorem reportUncut_frame (s : State) :
    (reportUncut s).timebase = s.timebase ∧ (reportUncut s).partTime = s.partTime ∧
    (reportUncut s).resetting = s.resetting ∧ (reportUncut s).pins = s.pins ∧ (reportUncut s).recv = s.recv ∧
    (reportUncut s).loops = s.loops ∧ (reportUncut s).drive = s.drive ∧ (reportUncut s).track = s.track ∧
    (reportUncut s).gov = s.gov ∧ (reportUncut s).blade = s.blade ∧ (reportUncut s).contact = s.contact ∧
    (reportUncut s).guard = s.guard ∧ (reportUncut s).dock = s.dock ∧ (reportUncut s).port = s.port ∧
    (reportUncut s).notice = s.notice ∧ (reportUncut s).mem = s.mem ∧ (reportUncut s).pending = s.pending ∧
    (reportUncut s).plan.applied = s.plan.applied ∧ (reportUncut s).plan.standing = s.plan.standing := by
  unfold reportUncut
  split <;> simp

@[simp] theorem actOnDirective_frame (s : State) :
    (actOnDirective s).timebase = s.timebase ∧ (actOnDirective s).partTime = s.partTime ∧
    (actOnDirective s).resetting = s.resetting ∧ (actOnDirective s).pins = s.pins ∧
    (actOnDirective s).recv = s.recv ∧ (actOnDirective s).loops = s.loops ∧ (actOnDirective s).plan = s.plan ∧
    (actOnDirective s).drive = s.drive ∧ (actOnDirective s).track = s.track ∧ (actOnDirective s).gov = s.gov ∧
    (actOnDirective s).contact = s.contact ∧ (actOnDirective s).guard = s.guard ∧
    (actOnDirective s).dock = s.dock ∧ (actOnDirective s).port = s.port ∧
    (actOnDirective s).notice = s.notice ∧ (actOnDirective s).pending = s.pending := by
  unfold actOnDirective
  split <;> simp

@[simp] theorem judgeBlade_frame (s : State) :
    (judgeBlade s).timebase = s.timebase ∧ (judgeBlade s).partTime = s.partTime ∧
    (judgeBlade s).resetting = s.resetting ∧ (judgeBlade s).pins = s.pins ∧ (judgeBlade s).recv = s.recv ∧
    (judgeBlade s).loops = s.loops ∧ (judgeBlade s).drive = s.drive ∧ (judgeBlade s).track = s.track ∧
    (judgeBlade s).gov = s.gov ∧ (judgeBlade s).contact = s.contact ∧ (judgeBlade s).guard = s.guard ∧
    (judgeBlade s).dock = s.dock ∧ (judgeBlade s).port = s.port ∧ (judgeBlade s).notice = s.notice ∧
    (judgeBlade s).pending = s.pending ∧ (judgeBlade s).plan.applied = s.plan.applied ∧
    (judgeBlade s).plan.standing = s.plan.standing := by simp [judgeBlade]

@[simp] theorem handStanding_frame (d : Directive) (s : State) :
    (handStanding d s).timebase = s.timebase ∧ (handStanding d s).partTime = s.partTime ∧
    (handStanding d s).resetting = s.resetting ∧ (handStanding d s).pins = s.pins ∧
    (handStanding d s).recv = s.recv ∧ (handStanding d s).loops = s.loops ∧
    (handStanding d s).drive = s.drive ∧ (handStanding d s).track = s.track ∧ (handStanding d s).gov = s.gov ∧
    (handStanding d s).contact = s.contact ∧ (handStanding d s).guard = s.guard ∧
    (handStanding d s).dock = s.dock ∧ (handStanding d s).port = s.port ∧
    (handStanding d s).notice = s.notice ∧ (handStanding d s).pending = s.pending ∧
    (handStanding d s).plan.applied = s.plan.applied := by simp [handStanding]

@[simp] theorem setMachine_frame (m : MachineState) (s : State) :
    (setMachine m s).timebase = s.timebase ∧ (setMachine m s).partTime = s.partTime ∧
    (setMachine m s).resetting = s.resetting ∧ (setMachine m s).pins = s.pins ∧
    (setMachine m s).recv = s.recv ∧ (setMachine m s).loops = s.loops ∧ (setMachine m s).drive = s.drive ∧
    (setMachine m s).track = s.track ∧ (setMachine m s).gov = s.gov ∧ (setMachine m s).contact = s.contact ∧
    (setMachine m s).dock = s.dock ∧ (setMachine m s).port = s.port ∧ (setMachine m s).notice = s.notice ∧
    (setMachine m s).pending = s.pending ∧ (setMachine m s).guard.trip = s.guard.trip ∧
    (setMachine m s).guard.lift = s.guard.lift ∧ (setMachine m s).plan.applied = s.plan.applied ∧
    (setMachine m s).plan.standing = s.plan.standing := by simp [setMachine]

end Sys2Proof.Machine
end

