-- ==== Sys2Proof/Laws/FrameLoopCore.lean ====
section
/-! SUPPORT. What each operation of Machine/LoopCore.lean leaves unchanged. -/

namespace Sys2Proof.Machine

@[simp] theorem followNoSignal_frame (before : LoopState) (after : LoopState) (s : State) :
    (followNoSignal before after s).timebase = s.timebase ∧
    (followNoSignal before after s).partTime = s.partTime ∧
    (followNoSignal before after s).resetting = s.resetting ∧ (followNoSignal before after s).pins = s.pins ∧
    (followNoSignal before after s).recv = s.recv ∧ (followNoSignal before after s).loops = s.loops ∧
    (followNoSignal before after s).plan = s.plan ∧ (followNoSignal before after s).drive = s.drive ∧
    (followNoSignal before after s).track = s.track ∧ (followNoSignal before after s).gov = s.gov ∧
    (followNoSignal before after s).blade = s.blade ∧ (followNoSignal before after s).contact = s.contact ∧
    (followNoSignal before after s).dock = s.dock ∧ (followNoSignal before after s).port = s.port ∧
    (followNoSignal before after s).notice = s.notice ∧ (followNoSignal before after s).mem = s.mem ∧
    (followNoSignal before after s).pending = s.pending ∧
    (followNoSignal before after s).guard.machine = s.guard.machine ∧
    (followNoSignal before after s).guard.trip = s.guard.trip ∧
    (followNoSignal before after s).guard.lift = s.guard.lift := by
  unfold followNoSignal
  (repeat' split) <;> simp_all

@[simp] theorem recomputeLoop_frame (n : Loop) (s : State) :
    (recomputeLoop n s).timebase = s.timebase ∧ (recomputeLoop n s).partTime = s.partTime ∧
    (recomputeLoop n s).resetting = s.resetting ∧ (recomputeLoop n s).pins = s.pins ∧
    (recomputeLoop n s).recv = s.recv ∧ (recomputeLoop n s).plan = s.plan ∧
    (recomputeLoop n s).drive = s.drive ∧ (recomputeLoop n s).track = s.track ∧
    (recomputeLoop n s).gov = s.gov ∧ (recomputeLoop n s).blade = s.blade ∧
    (recomputeLoop n s).contact = s.contact ∧ (recomputeLoop n s).dock = s.dock ∧
    (recomputeLoop n s).port = s.port ∧ (recomputeLoop n s).pending = s.pending ∧
    (recomputeLoop n s).guard.machine = s.guard.machine ∧ (recomputeLoop n s).guard.trip = s.guard.trip ∧
    (recomputeLoop n s).guard.lift = s.guard.lift ∧
    (recomputeLoop n s).loops.windowTimer = s.loops.windowTimer ∧
    (recomputeLoop n s).loops.checkFlag = s.loops.checkFlag := by
  unfold recomputeLoop
  dsimp only
  (repeat' split) <;> simp_all

@[simp] theorem recomputeLoops_frame (s : State) :
    (recomputeLoops s).timebase = s.timebase ∧ (recomputeLoops s).partTime = s.partTime ∧
    (recomputeLoops s).resetting = s.resetting ∧ (recomputeLoops s).pins = s.pins ∧
    (recomputeLoops s).recv = s.recv ∧ (recomputeLoops s).plan = s.plan ∧ (recomputeLoops s).drive = s.drive ∧
    (recomputeLoops s).track = s.track ∧ (recomputeLoops s).gov = s.gov ∧ (recomputeLoops s).blade = s.blade ∧
    (recomputeLoops s).contact = s.contact ∧ (recomputeLoops s).dock = s.dock ∧
    (recomputeLoops s).port = s.port ∧ (recomputeLoops s).pending = s.pending ∧
    (recomputeLoops s).guard.machine = s.guard.machine ∧ (recomputeLoops s).guard.trip = s.guard.trip ∧
    (recomputeLoops s).guard.lift = s.guard.lift ∧ (recomputeLoops s).loops.windowTimer = s.loops.windowTimer ∧
    (recomputeLoops s).loops.checkFlag = s.loops.checkFlag := by simp [recomputeLoops]

@[simp] theorem guardOnClass_frame (s : State) :
    (guardOnClass s).timebase = s.timebase ∧ (guardOnClass s).partTime = s.partTime ∧
    (guardOnClass s).resetting = s.resetting ∧ (guardOnClass s).pins = s.pins ∧
    (guardOnClass s).recv = s.recv ∧ (guardOnClass s).loops = s.loops ∧ (guardOnClass s).drive = s.drive ∧
    (guardOnClass s).track = s.track ∧ (guardOnClass s).gov = s.gov ∧ (guardOnClass s).contact = s.contact ∧
    (guardOnClass s).dock = s.dock ∧ (guardOnClass s).port = s.port ∧ (guardOnClass s).pending = s.pending ∧
    (guardOnClass s).guard.machine = s.guard.machine ∧ (guardOnClass s).guard.trip = s.guard.trip ∧
    (guardOnClass s).guard.lift = s.guard.lift ∧ (guardOnClass s).plan.applied = s.plan.applied ∧
    (guardOnClass s).plan.standing = s.plan.standing := by
  unfold guardOnClass
  dsimp only
  (repeat' split) <;> simp_all

@[simp] theorem bladeOnClass_frame (s : State) :
    (bladeOnClass s).timebase = s.timebase ∧ (bladeOnClass s).partTime = s.partTime ∧
    (bladeOnClass s).resetting = s.resetting ∧ (bladeOnClass s).pins = s.pins ∧
    (bladeOnClass s).recv = s.recv ∧ (bladeOnClass s).loops = s.loops ∧ (bladeOnClass s).drive = s.drive ∧
    (bladeOnClass s).track = s.track ∧ (bladeOnClass s).gov = s.gov ∧ (bladeOnClass s).contact = s.contact ∧
    (bladeOnClass s).guard = s.guard ∧ (bladeOnClass s).dock = s.dock ∧ (bladeOnClass s).port = s.port ∧
    (bladeOnClass s).notice = s.notice ∧ (bladeOnClass s).pending = s.pending ∧
    (bladeOnClass s).plan.applied = s.plan.applied ∧ (bladeOnClass s).plan.standing = s.plan.standing := by
  unfold bladeOnClass
  split <;> simp

@[simp] theorem recomputeClass_frame (s : State) :
    (recomputeClass s).timebase = s.timebase ∧ (recomputeClass s).partTime = s.partTime ∧
    (recomputeClass s).resetting = s.resetting ∧ (recomputeClass s).pins = s.pins ∧
    (recomputeClass s).recv = s.recv ∧ (recomputeClass s).drive = s.drive ∧
    (recomputeClass s).track = s.track ∧ (recomputeClass s).gov = s.gov ∧
    (recomputeClass s).contact = s.contact ∧ (recomputeClass s).dock = s.dock ∧
    (recomputeClass s).port = s.port ∧ (recomputeClass s).pending = s.pending ∧
    (recomputeClass s).guard.machine = s.guard.machine ∧ (recomputeClass s).guard.trip = s.guard.trip ∧
    (recomputeClass s).guard.lift = s.guard.lift ∧ (recomputeClass s).plan.applied = s.plan.applied ∧
    (recomputeClass s).plan.standing = s.plan.standing ∧ (recomputeClass s).loops.recs = s.loops.recs ∧
    (recomputeClass s).loops.windowTimer = s.loops.windowTimer ∧
    (recomputeClass s).loops.checkFlag = s.loops.checkFlag := by
  unfold recomputeClass
  dsimp only
  (repeat' split) <;> simp_all

@[simp] theorem judgeNear_frame (s : State) :
    (judgeNear s).timebase = s.timebase ∧ (judgeNear s).partTime = s.partTime ∧
    (judgeNear s).resetting = s.resetting ∧ (judgeNear s).pins = s.pins ∧ (judgeNear s).recv = s.recv ∧
    (judgeNear s).plan = s.plan ∧ (judgeNear s).drive = s.drive ∧ (judgeNear s).track = s.track ∧
    (judgeNear s).gov = s.gov ∧ (judgeNear s).blade = s.blade ∧ (judgeNear s).contact = s.contact ∧
    (judgeNear s).guard = s.guard ∧ (judgeNear s).dock = s.dock ∧ (judgeNear s).port = s.port ∧
    (judgeNear s).notice = s.notice ∧ (judgeNear s).mem = s.mem ∧ (judgeNear s).pending = s.pending ∧
    (judgeNear s).loops.recs = s.loops.recs ∧ (judgeNear s).loops.windowTimer = s.loops.windowTimer ∧
    (judgeNear s).loops.checkFlag = s.loops.checkFlag := by
  unfold judgeNear
  dsimp only
  split <;> simp

@[simp] theorem setCoils_frame (n : Loop) (c : Three SubRecord) (s : State) :
    (setCoils n c s).timebase = s.timebase ∧ (setCoils n c s).partTime = s.partTime ∧
    (setCoils n c s).resetting = s.resetting ∧ (setCoils n c s).pins = s.pins ∧
    (setCoils n c s).recv = s.recv ∧ (setCoils n c s).plan = s.plan ∧ (setCoils n c s).drive = s.drive ∧
    (setCoils n c s).track = s.track ∧ (setCoils n c s).gov = s.gov ∧ (setCoils n c s).blade = s.blade ∧
    (setCoils n c s).contact = s.contact ∧ (setCoils n c s).guard = s.guard ∧ (setCoils n c s).dock = s.dock ∧
    (setCoils n c s).port = s.port ∧ (setCoils n c s).notice = s.notice ∧ (setCoils n c s).mem = s.mem ∧
    (setCoils n c s).pending = s.pending ∧ (setCoils n c s).loops.windowTimer = s.loops.windowTimer ∧
    (setCoils n c s).loops.checkFlag = s.loops.checkFlag := by and_intros <;> rfl

@[simp] theorem clearChanged_frame (before : Four Nat) (s : State) :
    (clearChanged before s).timebase = s.timebase ∧ (clearChanged before s).partTime = s.partTime ∧
    (clearChanged before s).resetting = s.resetting ∧ (clearChanged before s).pins = s.pins ∧
    (clearChanged before s).recv = s.recv ∧ (clearChanged before s).plan = s.plan ∧
    (clearChanged before s).drive = s.drive ∧ (clearChanged before s).track = s.track ∧
    (clearChanged before s).gov = s.gov ∧ (clearChanged before s).blade = s.blade ∧
    (clearChanged before s).contact = s.contact ∧ (clearChanged before s).guard = s.guard ∧
    (clearChanged before s).dock = s.dock ∧ (clearChanged before s).port = s.port ∧
    (clearChanged before s).notice = s.notice ∧ (clearChanged before s).mem = s.mem ∧
    (clearChanged before s).pending = s.pending ∧
    (clearChanged before s).loops.windowTimer = s.loops.windowTimer ∧
    (clearChanged before s).loops.checkFlag = s.loops.checkFlag := by and_intros <;> rfl

@[simp] theorem loopsOnApply_frame (before : Four Nat) (s : State) :
    (loopsOnApply before s).timebase = s.timebase ∧ (loopsOnApply before s).partTime = s.partTime ∧
    (loopsOnApply before s).resetting = s.resetting ∧ (loopsOnApply before s).pins = s.pins ∧
    (loopsOnApply before s).recv = s.recv ∧ (loopsOnApply before s).drive = s.drive ∧
    (loopsOnApply before s).track = s.track ∧ (loopsOnApply before s).gov = s.gov ∧
    (loopsOnApply before s).contact = s.contact ∧ (loopsOnApply before s).dock = s.dock ∧
    (loopsOnApply before s).port = s.port ∧ (loopsOnApply before s).pending = s.pending ∧
    (loopsOnApply before s).guard.machine = s.guard.machine ∧
    (loopsOnApply before s).guard.trip = s.guard.trip ∧ (loopsOnApply before s).guard.lift = s.guard.lift ∧
    (loopsOnApply before s).plan.applied = s.plan.applied ∧
    (loopsOnApply before s).plan.standing = s.plan.standing ∧
    (loopsOnApply before s).loops.windowTimer = s.loops.windowTimer ∧
    (loopsOnApply before s).loops.checkFlag = s.loops.checkFlag := by
  unfold loopsOnApply
  split <;> simp

@[simp] theorem applySettings_frame (s : State) :
    (applySettings s).timebase = s.timebase ∧ (applySettings s).partTime = s.partTime ∧
    (applySettings s).resetting = s.resetting ∧ (applySettings s).pins = s.pins ∧
    (applySettings s).recv = s.recv ∧ (applySettings s).drive = s.drive ∧ (applySettings s).track = s.track ∧
    (applySettings s).gov = s.gov ∧ (applySettings s).contact = s.contact ∧ (applySettings s).dock = s.dock ∧
    (applySettings s).port = s.port ∧ (applySettings s).pending = s.pending ∧
    (applySettings s).guard.machine = s.guard.machine ∧ (applySettings s).guard.trip = s.guard.trip ∧
    (applySettings s).guard.lift = s.guard.lift ∧ (applySettings s).plan.standing = s.plan.standing ∧
    (applySettings s).loops.windowTimer = s.loops.windowTimer ∧
    (applySettings s).loops.checkFlag = s.loops.checkFlag := by simp [applySettings]

@[simp] theorem applyIfStaged_frame (s : State) :
    (applyIfStaged s).timebase = s.timebase ∧ (applyIfStaged s).partTime = s.partTime ∧
    (applyIfStaged s).resetting = s.resetting ∧ (applyIfStaged s).pins = s.pins ∧
    (applyIfStaged s).recv = s.recv ∧ (applyIfStaged s).drive = s.drive ∧ (applyIfStaged s).track = s.track ∧
    (applyIfStaged s).gov = s.gov ∧ (applyIfStaged s).contact = s.contact ∧ (applyIfStaged s).dock = s.dock ∧
    (applyIfStaged s).port = s.port ∧ (applyIfStaged s).pending = s.pending ∧
    (applyIfStaged s).guard.machine = s.guard.machine ∧ (applyIfStaged s).guard.trip = s.guard.trip ∧
    (applyIfStaged s).guard.lift = s.guard.lift ∧ (applyIfStaged s).plan.standing = s.plan.standing ∧
    (applyIfStaged s).loops.windowTimer = s.loops.windowTimer ∧
    (applyIfStaged s).loops.checkFlag = s.loops.checkFlag := by
  unfold applyIfStaged
  split <;> simp

end Sys2Proof.Machine
end

