-- ==== Sys2Proof/Laws/FramePlanCore.lean ====
section
/-! SUPPORT. What each operation of Machine/PlanCore.lean leaves unchanged. -/

namespace Sys2Proof.Machine

@[simp] theorem startHold_frame (s : State) :
    (startHold s).timebase = s.timebase ∧ (startHold s).partTime = s.partTime ∧
    (startHold s).resetting = s.resetting ∧ (startHold s).pins = s.pins ∧ (startHold s).recv = s.recv ∧
    (startHold s).loops = s.loops ∧ (startHold s).drive = s.drive ∧ (startHold s).track = s.track ∧
    (startHold s).gov = s.gov ∧ (startHold s).contact = s.contact ∧ (startHold s).guard = s.guard ∧
    (startHold s).dock = s.dock ∧ (startHold s).port = s.port ∧ (startHold s).notice = s.notice ∧
    (startHold s).pending = s.pending ∧ (startHold s).plan.applied = s.plan.applied := by
  unfold startHold
  (repeat' split) <;> simp_all

@[simp] theorem becomeIdle_frame (s : State) :
    (becomeIdle s).timebase = s.timebase ∧ (becomeIdle s).partTime = s.partTime ∧
    (becomeIdle s).resetting = s.resetting ∧ (becomeIdle s).pins = s.pins ∧ (becomeIdle s).recv = s.recv ∧
    (becomeIdle s).loops = s.loops ∧ (becomeIdle s).drive = s.drive ∧ (becomeIdle s).track = s.track ∧
    (becomeIdle s).gov = s.gov ∧ (becomeIdle s).contact = s.contact ∧ (becomeIdle s).guard = s.guard ∧
    (becomeIdle s).dock = s.dock ∧ (becomeIdle s).port = s.port ∧ (becomeIdle s).notice = s.notice ∧
    (becomeIdle s).pending = s.pending ∧ (becomeIdle s).plan.applied = s.plan.applied := by simp [becomeIdle]

@[simp] theorem enterWaiting_frame (h : Slot) (s : State) :
    (enterWaiting h s).timebase = s.timebase ∧ (enterWaiting h s).partTime = s.partTime ∧
    (enterWaiting h s).resetting = s.resetting ∧ (enterWaiting h s).pins = s.pins ∧
    (enterWaiting h s).recv = s.recv ∧ (enterWaiting h s).loops = s.loops ∧
    (enterWaiting h s).drive = s.drive ∧ (enterWaiting h s).track = s.track ∧ (enterWaiting h s).gov = s.gov ∧
    (enterWaiting h s).contact = s.contact ∧ (enterWaiting h s).guard = s.guard ∧
    (enterWaiting h s).dock = s.dock ∧ (enterWaiting h s).port = s.port ∧
    (enterWaiting h s).pending = s.pending ∧ (enterWaiting h s).plan.applied = s.plan.applied := by simp [enterWaiting]

@[simp] theorem endDock_frame (cause : EndCause) (s : State) :
    (endDock cause s).timebase = s.timebase ∧ (endDock cause s).partTime = s.partTime ∧
    (endDock cause s).resetting = s.resetting ∧ (endDock cause s).pins = s.pins ∧
    (endDock cause s).recv = s.recv ∧ (endDock cause s).loops = s.loops ∧ (endDock cause s).plan = s.plan ∧
    (endDock cause s).drive = s.drive ∧ (endDock cause s).track = s.track ∧ (endDock cause s).gov = s.gov ∧
    (endDock cause s).blade = s.blade ∧ (endDock cause s).contact = s.contact ∧
    (endDock cause s).guard = s.guard ∧ (endDock cause s).port = s.port ∧ (endDock cause s).notice = s.notice ∧
    (endDock cause s).pending = s.pending ∧ (endDock cause s).dock.sense = s.dock.sense := by
  unfold endDock
  split <;> simp

@[simp] theorem reportDocked_frame (cause : EndCause) (s : State) :
    (reportDocked cause s).timebase = s.timebase ∧ (reportDocked cause s).partTime = s.partTime ∧
    (reportDocked cause s).resetting = s.resetting ∧ (reportDocked cause s).pins = s.pins ∧
    (reportDocked cause s).recv = s.recv ∧ (reportDocked cause s).loops = s.loops ∧
    (reportDocked cause s).plan = s.plan ∧ (reportDocked cause s).drive = s.drive ∧
    (reportDocked cause s).track = s.track ∧ (reportDocked cause s).gov = s.gov ∧
    (reportDocked cause s).blade = s.blade ∧ (reportDocked cause s).contact = s.contact ∧
    (reportDocked cause s).guard = s.guard ∧ (reportDocked cause s).dock = s.dock ∧
    (reportDocked cause s).port = s.port ∧ (reportDocked cause s).pending = s.pending := by
  unfold reportDocked
  split <;> simp

@[simp] theorem closeSegment_frame (seg : Segment) (cause : EndCause) (s : State) :
    (closeSegment seg cause s).timebase = s.timebase ∧ (closeSegment seg cause s).partTime = s.partTime ∧
    (closeSegment seg cause s).resetting = s.resetting ∧ (closeSegment seg cause s).pins = s.pins ∧
    (closeSegment seg cause s).recv = s.recv ∧ (closeSegment seg cause s).loops = s.loops ∧
    (closeSegment seg cause s).gov = s.gov ∧ (closeSegment seg cause s).blade = s.blade ∧
    (closeSegment seg cause s).contact = s.contact ∧ (closeSegment seg cause s).guard = s.guard ∧
    (closeSegment seg cause s).port = s.port ∧ (closeSegment seg cause s).pending = s.pending ∧
    (closeSegment seg cause s).plan.applied = s.plan.applied ∧
    (closeSegment seg cause s).plan.standing = s.plan.standing ∧
    (closeSegment seg cause s).drive.wheels = s.drive.wheels ∧
    (closeSegment seg cause s).dock.sense = s.dock.sense := by simp [closeSegment]

@[simp] theorem postEnd_frame (seg : Segment) (cause : EndCause) (s : State) :
    (postEnd seg cause s).timebase = s.timebase ∧ (postEnd seg cause s).partTime = s.partTime ∧
    (postEnd seg cause s).resetting = s.resetting ∧ (postEnd seg cause s).pins = s.pins ∧
    (postEnd seg cause s).recv = s.recv ∧ (postEnd seg cause s).loops = s.loops ∧
    (postEnd seg cause s).plan = s.plan ∧ (postEnd seg cause s).drive = s.drive ∧
    (postEnd seg cause s).track = s.track ∧ (postEnd seg cause s).gov = s.gov ∧
    (postEnd seg cause s).blade = s.blade ∧ (postEnd seg cause s).contact = s.contact ∧
    (postEnd seg cause s).guard = s.guard ∧ (postEnd seg cause s).dock = s.dock ∧
    (postEnd seg cause s).port = s.port ∧ (postEnd seg cause s).pending = s.pending := by
  unfold postEnd
  (repeat' split) <;> simp_all

@[simp] theorem continuePlan_frame (seg : Segment) (cause : EndCause) (s : State) :
    (continuePlan seg cause s).1.timebase = s.timebase ∧ (continuePlan seg cause s).1.partTime = s.partTime ∧
    (continuePlan seg cause s).1.resetting = s.resetting ∧ (continuePlan seg cause s).1.pins = s.pins ∧
    (continuePlan seg cause s).1.recv = s.recv ∧ (continuePlan seg cause s).1.loops = s.loops ∧
    (continuePlan seg cause s).1.drive = s.drive ∧ (continuePlan seg cause s).1.track = s.track ∧
    (continuePlan seg cause s).1.gov = s.gov ∧ (continuePlan seg cause s).1.contact = s.contact ∧
    (continuePlan seg cause s).1.guard = s.guard ∧ (continuePlan seg cause s).1.dock = s.dock ∧
    (continuePlan seg cause s).1.port = s.port ∧ (continuePlan seg cause s).1.pending = s.pending ∧
    (continuePlan seg cause s).1.plan.applied = s.plan.applied := by
  unfold continuePlan
  (repeat' split) <;> simp_all

@[simp] theorem settleEnd_frame (cause : EndCause) (s : State) :
    (settleEnd cause s).1.timebase = s.timebase ∧ (settleEnd cause s).1.partTime = s.partTime ∧
    (settleEnd cause s).1.resetting = s.resetting ∧ (settleEnd cause s).1.pins = s.pins ∧
    (settleEnd cause s).1.recv = s.recv ∧ (settleEnd cause s).1.loops = s.loops ∧
    (settleEnd cause s).1.gov = s.gov ∧ (settleEnd cause s).1.contact = s.contact ∧
    (settleEnd cause s).1.guard = s.guard ∧ (settleEnd cause s).1.port = s.port ∧
    (settleEnd cause s).1.pending = s.pending ∧ (settleEnd cause s).1.plan.applied = s.plan.applied ∧
    (settleEnd cause s).1.drive.wheels = s.drive.wheels ∧ (settleEnd cause s).1.dock.sense = s.dock.sense := by
  unfold settleEnd
  split <;> simp

@[simp] theorem startWatch_frame (s : State) :
    (startWatch s).timebase = s.timebase ∧ (startWatch s).partTime = s.partTime ∧
    (startWatch s).resetting = s.resetting ∧ (startWatch s).pins = s.pins ∧ (startWatch s).recv = s.recv ∧
    (startWatch s).loops = s.loops ∧ (startWatch s).drive = s.drive ∧ (startWatch s).track = s.track ∧
    (startWatch s).gov = s.gov ∧ (startWatch s).blade = s.blade ∧ (startWatch s).contact = s.contact ∧
    (startWatch s).guard = s.guard ∧ (startWatch s).dock = s.dock ∧ (startWatch s).port = s.port ∧
    (startWatch s).notice = s.notice ∧ (startWatch s).mem = s.mem ∧ (startWatch s).pending = s.pending ∧
    (startWatch s).plan.applied = s.plan.applied ∧ (startWatch s).plan.standing = s.plan.standing := by
  unfold startWatch
  split <;> simp

@[simp] theorem clampActive_frame (s : State) :
    (clampActive s).timebase = s.timebase ∧ (clampActive s).partTime = s.partTime ∧
    (clampActive s).resetting = s.resetting ∧ (clampActive s).pins = s.pins ∧ (clampActive s).recv = s.recv ∧
    (clampActive s).loops = s.loops ∧ (clampActive s).drive = s.drive ∧ (clampActive s).track = s.track ∧
    (clampActive s).gov = s.gov ∧ (clampActive s).blade = s.blade ∧ (clampActive s).contact = s.contact ∧
    (clampActive s).guard = s.guard ∧ (clampActive s).dock = s.dock ∧ (clampActive s).port = s.port ∧
    (clampActive s).notice = s.notice ∧ (clampActive s).pending = s.pending ∧
    (clampActive s).plan.applied = s.plan.applied ∧ (clampActive s).plan.standing = s.plan.standing := by
  unfold clampActive
  split <;> simp

@[simp] theorem captureSlot_frame (h : Slot) (s : State) :
    (captureSlot h s).timebase = s.timebase ∧ (captureSlot h s).partTime = s.partTime ∧
    (captureSlot h s).resetting = s.resetting ∧ (captureSlot h s).pins = s.pins ∧
    (captureSlot h s).recv = s.recv ∧ (captureSlot h s).loops = s.loops ∧ (captureSlot h s).track = s.track ∧
    (captureSlot h s).gov = s.gov ∧ (captureSlot h s).blade = s.blade ∧ (captureSlot h s).contact = s.contact ∧
    (captureSlot h s).guard = s.guard ∧ (captureSlot h s).dock = s.dock ∧ (captureSlot h s).port = s.port ∧
    (captureSlot h s).notice = s.notice ∧ (captureSlot h s).pending = s.pending ∧
    (captureSlot h s).plan.applied = s.plan.applied ∧ (captureSlot h s).plan.standing = s.plan.standing ∧
    (captureSlot h s).drive.wheels = s.drive.wheels := by and_intros <;> rfl

@[simp] theorem beginTrack_frame (act : BitVec 16) (f : Fields) (s : State) :
    (beginTrack act f s).timebase = s.timebase ∧ (beginTrack act f s).partTime = s.partTime ∧
    (beginTrack act f s).resetting = s.resetting ∧ (beginTrack act f s).pins = s.pins ∧
    (beginTrack act f s).recv = s.recv ∧ (beginTrack act f s).loops = s.loops ∧
    (beginTrack act f s).plan = s.plan ∧ (beginTrack act f s).drive = s.drive ∧
    (beginTrack act f s).gov = s.gov ∧ (beginTrack act f s).blade = s.blade ∧
    (beginTrack act f s).contact = s.contact ∧ (beginTrack act f s).guard = s.guard ∧
    (beginTrack act f s).dock = s.dock ∧ (beginTrack act f s).port = s.port ∧
    (beginTrack act f s).notice = s.notice ∧ (beginTrack act f s).mem = s.mem ∧
    (beginTrack act f s).pending = s.pending := by and_intros <;> rfl

@[simp] theorem enterNear_frame (s : State) :
    (enterNear s).timebase = s.timebase ∧ (enterNear s).partTime = s.partTime ∧
    (enterNear s).resetting = s.resetting ∧ (enterNear s).pins = s.pins ∧ (enterNear s).recv = s.recv ∧
    (enterNear s).loops = s.loops ∧ (enterNear s).plan = s.plan ∧ (enterNear s).drive = s.drive ∧
    (enterNear s).track = s.track ∧ (enterNear s).gov = s.gov ∧ (enterNear s).blade = s.blade ∧
    (enterNear s).contact = s.contact ∧ (enterNear s).guard = s.guard ∧ (enterNear s).port = s.port ∧
    (enterNear s).pending = s.pending ∧ (enterNear s).dock.sense = s.dock.sense := by simp [enterNear]

@[simp] theorem beginDock_frame (act : BitVec 16) (s : State) :
    (beginDock act s).timebase = s.timebase ∧ (beginDock act s).partTime = s.partTime ∧
    (beginDock act s).resetting = s.resetting ∧ (beginDock act s).pins = s.pins ∧
    (beginDock act s).recv = s.recv ∧ (beginDock act s).loops = s.loops ∧ (beginDock act s).plan = s.plan ∧
    (beginDock act s).drive = s.drive ∧ (beginDock act s).track = s.track ∧ (beginDock act s).gov = s.gov ∧
    (beginDock act s).blade = s.blade ∧ (beginDock act s).contact = s.contact ∧
    (beginDock act s).guard = s.guard ∧ (beginDock act s).port = s.port ∧
    (beginDock act s).pending = s.pending ∧ (beginDock act s).dock.sense = s.dock.sense := by
  unfold beginDock
  dsimp only
  (repeat' split) <;> simp_all

@[simp] theorem beginUndock_frame (act : BitVec 16) (s : State) :
    (beginUndock act s).timebase = s.timebase ∧ (beginUndock act s).partTime = s.partTime ∧
    (beginUndock act s).resetting = s.resetting ∧ (beginUndock act s).pins = s.pins ∧
    (beginUndock act s).recv = s.recv ∧ (beginUndock act s).loops = s.loops ∧
    (beginUndock act s).plan = s.plan ∧ (beginUndock act s).drive = s.drive ∧
    (beginUndock act s).track = s.track ∧ (beginUndock act s).gov = s.gov ∧
    (beginUndock act s).blade = s.blade ∧ (beginUndock act s).contact = s.contact ∧
    (beginUndock act s).guard = s.guard ∧ (beginUndock act s).port = s.port ∧
    (beginUndock act s).notice = s.notice ∧ (beginUndock act s).pending = s.pending ∧
    (beginUndock act s).dock.sense = s.dock.sense := by and_intros <;> rfl

@[simp] theorem beginKind_frame (seg : Segment) (s : State) :
    (beginKind seg s).timebase = s.timebase ∧ (beginKind seg s).partTime = s.partTime ∧
    (beginKind seg s).resetting = s.resetting ∧ (beginKind seg s).pins = s.pins ∧
    (beginKind seg s).recv = s.recv ∧ (beginKind seg s).loops = s.loops ∧ (beginKind seg s).plan = s.plan ∧
    (beginKind seg s).drive = s.drive ∧ (beginKind seg s).gov = s.gov ∧ (beginKind seg s).blade = s.blade ∧
    (beginKind seg s).contact = s.contact ∧ (beginKind seg s).guard = s.guard ∧
    (beginKind seg s).port = s.port ∧ (beginKind seg s).pending = s.pending ∧
    (beginKind seg s).dock.sense = s.dock.sense := by
  unfold beginKind
  split <;> simp

@[simp] theorem handOn_frame (s : State) :
    (handOn s).1.timebase = s.timebase ∧ (handOn s).1.partTime = s.partTime ∧
    (handOn s).1.resetting = s.resetting ∧ (handOn s).1.pins = s.pins ∧ (handOn s).1.recv = s.recv ∧
    (handOn s).1.loops = s.loops ∧ (handOn s).1.gov = s.gov ∧ (handOn s).1.contact = s.contact ∧
    (handOn s).1.guard = s.guard ∧ (handOn s).1.port = s.port ∧ (handOn s).1.pending = s.pending ∧
    (handOn s).1.plan.applied = s.plan.applied ∧ (handOn s).1.drive.wheels = s.drive.wheels ∧
    (handOn s).1.dock.sense = s.dock.sense := by
  unfold handOn
  dsimp only
  (repeat' split) <;> simp_all

@[simp] theorem checkCaptured_frame (s : State) :
    (checkCaptured s).1.timebase = s.timebase ∧ (checkCaptured s).1.partTime = s.partTime ∧
    (checkCaptured s).1.resetting = s.resetting ∧ (checkCaptured s).1.pins = s.pins ∧
    (checkCaptured s).1.recv = s.recv ∧ (checkCaptured s).1.loops = s.loops ∧ (checkCaptured s).1.gov = s.gov ∧
    (checkCaptured s).1.contact = s.contact ∧ (checkCaptured s).1.guard = s.guard ∧
    (checkCaptured s).1.port = s.port ∧ (checkCaptured s).1.pending = s.pending ∧
    (checkCaptured s).1.plan.applied = s.plan.applied ∧ (checkCaptured s).1.drive.wheels = s.drive.wheels ∧
    (checkCaptured s).1.dock.sense = s.dock.sense := by
  unfold checkCaptured
  (repeat' split) <;> simp_all

@[simp] theorem activateOne_frame (h : Slot) (s : State) :
    (activateOne h s).1.timebase = s.timebase ∧ (activateOne h s).1.partTime = s.partTime ∧
    (activateOne h s).1.resetting = s.resetting ∧ (activateOne h s).1.pins = s.pins ∧
    (activateOne h s).1.recv = s.recv ∧ (activateOne h s).1.gov = s.gov ∧
    (activateOne h s).1.contact = s.contact ∧ (activateOne h s).1.port = s.port ∧
    (activateOne h s).1.pending = s.pending ∧ (activateOne h s).1.guard.machine = s.guard.machine ∧
    (activateOne h s).1.guard.trip = s.guard.trip ∧ (activateOne h s).1.guard.lift = s.guard.lift ∧
    (activateOne h s).1.drive.wheels = s.drive.wheels ∧
    (activateOne h s).1.loops.windowTimer = s.loops.windowTimer ∧
    (activateOne h s).1.loops.checkFlag = s.loops.checkFlag ∧ (activateOne h s).1.dock.sense = s.dock.sense := by
  unfold activateOne
  (repeat' split) <;> simp_all

@[simp] theorem activateChain_frame (n : Nat) (h : Slot) (s : State) :
    (activateChain n h s).timebase = s.timebase ∧ (activateChain n h s).partTime = s.partTime ∧
    (activateChain n h s).resetting = s.resetting ∧ (activateChain n h s).pins = s.pins ∧
    (activateChain n h s).recv = s.recv ∧ (activateChain n h s).gov = s.gov ∧
    (activateChain n h s).contact = s.contact ∧ (activateChain n h s).port = s.port ∧
    (activateChain n h s).pending = s.pending ∧ (activateChain n h s).guard.machine = s.guard.machine ∧
    (activateChain n h s).guard.trip = s.guard.trip ∧ (activateChain n h s).guard.lift = s.guard.lift ∧
    (activateChain n h s).drive.wheels = s.drive.wheels ∧
    (activateChain n h s).loops.windowTimer = s.loops.windowTimer ∧
    (activateChain n h s).loops.checkFlag = s.loops.checkFlag ∧ (activateChain n h s).dock.sense = s.dock.sense := by
  induction n generalizing h s with
  | zero => simp [activateChain]
  | succ n ih =>
    unfold activateChain
    split
    · rename_i s1 he
      have := congrArg (fun p => p.1) he
      simp only at this
      subst this
      simp
    · rename_i s1 h1 he
      have := congrArg (fun p => p.1) he
      simp only at this
      subst this
      simp [ih]

@[simp] theorem activate_frame (h : Slot) (s : State) :
    (activate h s).timebase = s.timebase ∧ (activate h s).partTime = s.partTime ∧
    (activate h s).resetting = s.resetting ∧ (activate h s).pins = s.pins ∧ (activate h s).recv = s.recv ∧
    (activate h s).gov = s.gov ∧ (activate h s).contact = s.contact ∧ (activate h s).port = s.port ∧
    (activate h s).pending = s.pending ∧ (activate h s).guard.machine = s.guard.machine ∧
    (activate h s).guard.trip = s.guard.trip ∧ (activate h s).guard.lift = s.guard.lift ∧
    (activate h s).drive.wheels = s.drive.wheels ∧ (activate h s).loops.windowTimer = s.loops.windowTimer ∧
    (activate h s).loops.checkFlag = s.loops.checkFlag ∧ (activate h s).dock.sense = s.dock.sense := by simp [activate]

@[simp] theorem endActive_frame (cause : EndCause) (s : State) :
    (endActive cause s).timebase = s.timebase ∧ (endActive cause s).partTime = s.partTime ∧
    (endActive cause s).resetting = s.resetting ∧ (endActive cause s).pins = s.pins ∧
    (endActive cause s).recv = s.recv ∧ (endActive cause s).gov = s.gov ∧
    (endActive cause s).contact = s.contact ∧ (endActive cause s).port = s.port ∧
    (endActive cause s).pending = s.pending ∧ (endActive cause s).guard.machine = s.guard.machine ∧
    (endActive cause s).guard.trip = s.guard.trip ∧ (endActive cause s).guard.lift = s.guard.lift ∧
    (endActive cause s).drive.wheels = s.drive.wheels ∧
    (endActive cause s).loops.windowTimer = s.loops.windowTimer ∧
    (endActive cause s).loops.checkFlag = s.loops.checkFlag ∧ (endActive cause s).dock.sense = s.dock.sense := by
  unfold endActive goOn
  split <;> simp

@[simp] theorem endSegment_frame (act : BitVec 16) (cause : EndCause) (s : State) :
    (endSegment act cause s).timebase = s.timebase ∧ (endSegment act cause s).partTime = s.partTime ∧
    (endSegment act cause s).resetting = s.resetting ∧ (endSegment act cause s).pins = s.pins ∧
    (endSegment act cause s).recv = s.recv ∧ (endSegment act cause s).gov = s.gov ∧
    (endSegment act cause s).contact = s.contact ∧ (endSegment act cause s).port = s.port ∧
    (endSegment act cause s).pending = s.pending ∧ (endSegment act cause s).guard.machine = s.guard.machine ∧
    (endSegment act cause s).guard.trip = s.guard.trip ∧ (endSegment act cause s).guard.lift = s.guard.lift ∧
    (endSegment act cause s).drive.wheels = s.drive.wheels ∧
    (endSegment act cause s).loops.windowTimer = s.loops.windowTimer ∧
    (endSegment act cause s).loops.checkFlag = s.loops.checkFlag ∧
    (endSegment act cause s).dock.sense = s.dock.sense := by
  unfold endSegment
  (repeat' split) <;> simp_all

@[simp] theorem resumeKind_frame (f : Fields) (s : State) :
    (resumeKind f s).timebase = s.timebase ∧ (resumeKind f s).partTime = s.partTime ∧
    (resumeKind f s).resetting = s.resetting ∧ (resumeKind f s).pins = s.pins ∧
    (resumeKind f s).recv = s.recv ∧ (resumeKind f s).loops = s.loops ∧ (resumeKind f s).plan = s.plan ∧
    (resumeKind f s).gov = s.gov ∧ (resumeKind f s).blade = s.blade ∧ (resumeKind f s).contact = s.contact ∧
    (resumeKind f s).guard = s.guard ∧ (resumeKind f s).port = s.port ∧ (resumeKind f s).pending = s.pending ∧
    (resumeKind f s).drive.wheels = s.drive.wheels ∧ (resumeKind f s).dock.sense = s.dock.sense := by
  unfold resumeKind
  (repeat' split) <;> simp_all

@[simp] theorem resumeSegment_frame (s : State) :
    (resumeSegment s).timebase = s.timebase ∧ (resumeSegment s).partTime = s.partTime ∧
    (resumeSegment s).resetting = s.resetting ∧ (resumeSegment s).pins = s.pins ∧
    (resumeSegment s).recv = s.recv ∧ (resumeSegment s).gov = s.gov ∧ (resumeSegment s).contact = s.contact ∧
    (resumeSegment s).port = s.port ∧ (resumeSegment s).pending = s.pending ∧
    (resumeSegment s).guard.machine = s.guard.machine ∧ (resumeSegment s).guard.trip = s.guard.trip ∧
    (resumeSegment s).guard.lift = s.guard.lift ∧ (resumeSegment s).drive.wheels = s.drive.wheels ∧
    (resumeSegment s).loops.windowTimer = s.loops.windowTimer ∧
    (resumeSegment s).loops.checkFlag = s.loops.checkFlag ∧ (resumeSegment s).dock.sense = s.dock.sense := by
  unfold resumeSegment
  dsimp only
  (repeat' split) <;> simp_all

end Sys2Proof.Machine
end

