-- ==== Sys2Proof/Laws/FrameLoopPublish.lean ====
section
/-! SUPPORT. What each operation of Machine/LoopPublish.lean leaves unchanged. -/

namespace Sys2Proof.Machine

@[simp] theorem testWatch_frame (s : State) :
    (testWatch s).timebase = s.timebase ∧ (testWatch s).partTime = s.partTime ∧
    (testWatch s).resetting = s.resetting ∧ (testWatch s).pins = s.pins ∧ (testWatch s).recv = s.recv ∧
    (testWatch s).gov = s.gov ∧ (testWatch s).contact = s.contact ∧ (testWatch s).port = s.port ∧
    (testWatch s).pending = s.pending ∧ (testWatch s).guard.machine = s.guard.machine ∧
    (testWatch s).guard.trip = s.guard.trip ∧ (testWatch s).guard.lift = s.guard.lift ∧
    (testWatch s).drive.wheels = s.drive.wheels ∧ (testWatch s).loops.windowTimer = s.loops.windowTimer ∧
    (testWatch s).loops.checkFlag = s.loops.checkFlag ∧ (testWatch s).dock.sense = s.dock.sense := by
  unfold testWatch
  (repeat' split) <;> simp_all

@[simp] theorem testBoundary_frame (s : State) :
    (testBoundary s).timebase = s.timebase ∧ (testBoundary s).partTime = s.partTime ∧
    (testBoundary s).resetting = s.resetting ∧ (testBoundary s).pins = s.pins ∧
    (testBoundary s).recv = s.recv ∧ (testBoundary s).gov = s.gov ∧ (testBoundary s).contact = s.contact ∧
    (testBoundary s).port = s.port ∧ (testBoundary s).pending = s.pending ∧
    (testBoundary s).guard.machine = s.guard.machine ∧ (testBoundary s).guard.trip = s.guard.trip ∧
    (testBoundary s).guard.lift = s.guard.lift ∧ (testBoundary s).drive.wheels = s.drive.wheels ∧
    (testBoundary s).loops.windowTimer = s.loops.windowTimer ∧
    (testBoundary s).loops.checkFlag = s.loops.checkFlag ∧ (testBoundary s).dock.sense = s.dock.sense := by
  unfold testBoundary
  (repeat' split) <;> simp_all

@[simp] theorem publishClass_frame (s : State) :
    (publishClass s).timebase = s.timebase ∧ (publishClass s).partTime = s.partTime ∧
    (publishClass s).resetting = s.resetting ∧ (publishClass s).pins = s.pins ∧
    (publishClass s).recv = s.recv ∧ (publishClass s).gov = s.gov ∧ (publishClass s).contact = s.contact ∧
    (publishClass s).port = s.port ∧ (publishClass s).pending = s.pending ∧
    (publishClass s).guard.machine = s.guard.machine ∧ (publishClass s).guard.trip = s.guard.trip ∧
    (publishClass s).guard.lift = s.guard.lift ∧ (publishClass s).drive.wheels = s.drive.wheels ∧
    (publishClass s).loops.windowTimer = s.loops.windowTimer ∧
    (publishClass s).loops.checkFlag = s.loops.checkFlag ∧ (publishClass s).dock.sense = s.dock.sense := by
  unfold publishClass
  split <;> simp

@[simp] theorem dockOnNear_frame (s : State) :
    (dockOnNear s).timebase = s.timebase ∧ (dockOnNear s).partTime = s.partTime ∧
    (dockOnNear s).resetting = s.resetting ∧ (dockOnNear s).pins = s.pins ∧ (dockOnNear s).recv = s.recv ∧
    (dockOnNear s).loops = s.loops ∧ (dockOnNear s).plan = s.plan ∧ (dockOnNear s).drive = s.drive ∧
    (dockOnNear s).track = s.track ∧ (dockOnNear s).gov = s.gov ∧ (dockOnNear s).blade = s.blade ∧
    (dockOnNear s).contact = s.contact ∧ (dockOnNear s).guard = s.guard ∧ (dockOnNear s).port = s.port ∧
    (dockOnNear s).pending = s.pending ∧ (dockOnNear s).dock.sense = s.dock.sense := by
  unfold dockOnNear
  (repeat' split) <;> simp_all

@[simp] theorem publishNear_frame (s : State) :
    (publishNear s).timebase = s.timebase ∧ (publishNear s).partTime = s.partTime ∧
    (publishNear s).resetting = s.resetting ∧ (publishNear s).pins = s.pins ∧ (publishNear s).recv = s.recv ∧
    (publishNear s).gov = s.gov ∧ (publishNear s).contact = s.contact ∧ (publishNear s).port = s.port ∧
    (publishNear s).pending = s.pending ∧ (publishNear s).guard.machine = s.guard.machine ∧
    (publishNear s).guard.trip = s.guard.trip ∧ (publishNear s).guard.lift = s.guard.lift ∧
    (publishNear s).drive.wheels = s.drive.wheels ∧ (publishNear s).loops.windowTimer = s.loops.windowTimer ∧
    (publishNear s).loops.checkFlag = s.loops.checkFlag ∧ (publishNear s).dock.sense = s.dock.sense := by
  unfold publishNear
  dsimp only
  (repeat' split) <;> simp_all

@[simp] theorem frameReport_frame (f : FrameReport) (s : State) :
    (frameReport f s).timebase = s.timebase ∧ (frameReport f s).partTime = s.partTime ∧
    (frameReport f s).resetting = s.resetting ∧ (frameReport f s).pins = s.pins ∧
    (frameReport f s).recv = s.recv ∧ (frameReport f s).gov = s.gov ∧ (frameReport f s).contact = s.contact ∧
    (frameReport f s).port = s.port ∧ (frameReport f s).pending = s.pending ∧
    (frameReport f s).guard.machine = s.guard.machine ∧ (frameReport f s).guard.trip = s.guard.trip ∧
    (frameReport f s).guard.lift = s.guard.lift ∧ (frameReport f s).drive.wheels = s.drive.wheels ∧
    (frameReport f s).loops.windowTimer = s.loops.windowTimer ∧
    (frameReport f s).loops.checkFlag = s.loops.checkFlag ∧ (frameReport f s).dock.sense = s.dock.sense := by
  unfold frameReport
  (repeat' split) <;> simp_all

@[simp] theorem clearWindows_frame (s : State) :
    (clearWindows s).timebase = s.timebase ∧ (clearWindows s).partTime = s.partTime ∧
    (clearWindows s).resetting = s.resetting ∧ (clearWindows s).pins = s.pins ∧
    (clearWindows s).recv = s.recv ∧ (clearWindows s).plan = s.plan ∧ (clearWindows s).drive = s.drive ∧
    (clearWindows s).track = s.track ∧ (clearWindows s).gov = s.gov ∧ (clearWindows s).blade = s.blade ∧
    (clearWindows s).contact = s.contact ∧ (clearWindows s).guard = s.guard ∧ (clearWindows s).dock = s.dock ∧
    (clearWindows s).port = s.port ∧ (clearWindows s).notice = s.notice ∧ (clearWindows s).mem = s.mem ∧
    (clearWindows s).pending = s.pending ∧ (clearWindows s).loops.windowTimer = s.loops.windowTimer ∧
    (clearWindows s).loops.checkFlag = s.loops.checkFlag := by and_intros <;> rfl

@[simp] theorem restartWindow_frame (period : Time) (s : State) :
    (restartWindow period s).timebase = s.timebase ∧ (restartWindow period s).partTime = s.partTime ∧
    (restartWindow period s).resetting = s.resetting ∧ (restartWindow period s).pins = s.pins ∧
    (restartWindow period s).recv = s.recv ∧ (restartWindow period s).plan = s.plan ∧ (restartWindow period s).drive = s.drive ∧
    (restartWindow period s).track = s.track ∧ (restartWindow period s).gov = s.gov ∧ (restartWindow period s).blade = s.blade ∧
    (restartWindow period s).contact = s.contact ∧ (restartWindow period s).guard = s.guard ∧ (restartWindow period s).dock = s.dock ∧
    (restartWindow period s).port = s.port ∧ (restartWindow period s).notice = s.notice ∧ (restartWindow period s).mem = s.mem ∧
    (restartWindow period s).pending = s.pending ∧ (restartWindow period s).loops.windowTimer = s.partTime + period ∧
    (restartWindow period s).loops.checkFlag = s.loops.checkFlag ∧
    (restartWindow period s).loops.spoiled = (s.loops.checkFlag && s.loops.spoiled) := by and_intros <;> rfl

@[simp] theorem judgeWindows_frame (s : State) :
    (judgeWindows s).timebase = s.timebase ∧ (judgeWindows s).partTime = s.partTime ∧
    (judgeWindows s).resetting = s.resetting ∧ (judgeWindows s).pins = s.pins ∧
    (judgeWindows s).recv = s.recv ∧ (judgeWindows s).plan = s.plan ∧ (judgeWindows s).drive = s.drive ∧
    (judgeWindows s).track = s.track ∧ (judgeWindows s).gov = s.gov ∧ (judgeWindows s).blade = s.blade ∧
    (judgeWindows s).contact = s.contact ∧ (judgeWindows s).guard = s.guard ∧ (judgeWindows s).dock = s.dock ∧
    (judgeWindows s).port = s.port ∧ (judgeWindows s).notice = s.notice ∧ (judgeWindows s).mem = s.mem ∧
    (judgeWindows s).pending = s.pending ∧ (judgeWindows s).loops.windowTimer = s.loops.windowTimer ∧
    (judgeWindows s).loops.checkFlag = s.loops.checkFlag := by and_intros <;> rfl

@[simp] theorem holdParked_frame (s : State) :
    (holdParked s).timebase = s.timebase ∧ (holdParked s).partTime = s.partTime ∧
    (holdParked s).resetting = s.resetting ∧ (holdParked s).pins = s.pins ∧ (holdParked s).recv = s.recv ∧
    (holdParked s).plan = s.plan ∧ (holdParked s).drive = s.drive ∧ (holdParked s).track = s.track ∧
    (holdParked s).gov = s.gov ∧ (holdParked s).blade = s.blade ∧ (holdParked s).contact = s.contact ∧
    (holdParked s).guard = s.guard ∧ (holdParked s).dock = s.dock ∧ (holdParked s).port = s.port ∧
    (holdParked s).notice = s.notice ∧ (holdParked s).mem = s.mem ∧ (holdParked s).pending = s.pending ∧
    (holdParked s).loops.windowTimer = s.loops.windowTimer ∧ (holdParked s).loops.checkFlag = s.loops.checkFlag := by and_intros <;> rfl

@[simp] theorem loopsEnterParked_frame (s : State) :
    (loopsEnterParked s).timebase = s.timebase ∧ (loopsEnterParked s).partTime = s.partTime ∧
    (loopsEnterParked s).resetting = s.resetting ∧ (loopsEnterParked s).pins = s.pins ∧
    (loopsEnterParked s).recv = s.recv ∧ (loopsEnterParked s).drive = s.drive ∧
    (loopsEnterParked s).track = s.track ∧ (loopsEnterParked s).gov = s.gov ∧
    (loopsEnterParked s).contact = s.contact ∧ (loopsEnterParked s).dock = s.dock ∧
    (loopsEnterParked s).port = s.port ∧ (loopsEnterParked s).pending = s.pending ∧
    (loopsEnterParked s).guard.machine = s.guard.machine ∧ (loopsEnterParked s).guard.trip = s.guard.trip ∧
    (loopsEnterParked s).guard.lift = s.guard.lift ∧ (loopsEnterParked s).plan.applied = s.plan.applied ∧
    (loopsEnterParked s).plan.standing = s.plan.standing ∧
    (loopsEnterParked s).loops.checkFlag = s.loops.checkFlag := by simp [loopsEnterParked]

@[simp] theorem loopsLeaveParked_frame (s : State) :
    (loopsLeaveParked s).timebase = s.timebase ∧ (loopsLeaveParked s).partTime = s.partTime ∧
    (loopsLeaveParked s).resetting = s.resetting ∧ (loopsLeaveParked s).pins = s.pins ∧
    (loopsLeaveParked s).recv = s.recv ∧ (loopsLeaveParked s).plan = s.plan ∧
    (loopsLeaveParked s).drive = s.drive ∧ (loopsLeaveParked s).track = s.track ∧
    (loopsLeaveParked s).gov = s.gov ∧ (loopsLeaveParked s).blade = s.blade ∧
    (loopsLeaveParked s).contact = s.contact ∧ (loopsLeaveParked s).dock = s.dock ∧
    (loopsLeaveParked s).port = s.port ∧ (loopsLeaveParked s).pending = s.pending ∧
    (loopsLeaveParked s).guard.machine = s.guard.machine ∧ (loopsLeaveParked s).guard.trip = s.guard.trip ∧
    (loopsLeaveParked s).guard.lift = s.guard.lift ∧ (loopsLeaveParked s).loops.checkFlag = s.loops.checkFlag := by simp [loopsLeaveParked]

end Sys2Proof.Machine
end

