-- ==== Sys2Proof/Laws/FrameContactCore.lean ====
section
/-! SUPPORT. What each operation of Machine/ContactCore.lean leaves unchanged. -/

namespace Sys2Proof.Machine

@[simp] theorem setList_frame (l : List Entry) (s : State) :
    (setList l s).timebase = s.timebase ∧ (setList l s).partTime = s.partTime ∧
    (setList l s).resetting = s.resetting ∧ (setList l s).pins = s.pins ∧ (setList l s).recv = s.recv ∧
    (setList l s).loops = s.loops ∧ (setList l s).plan = s.plan ∧ (setList l s).drive = s.drive ∧
    (setList l s).track = s.track ∧ (setList l s).gov = s.gov ∧ (setList l s).blade = s.blade ∧
    (setList l s).guard = s.guard ∧ (setList l s).dock = s.dock ∧ (setList l s).port = s.port ∧
    (setList l s).notice = s.notice ∧ (setList l s).mem = s.mem ∧ (setList l s).pending = s.pending ∧
    (setList l s).contact.stage = s.contact.stage ∧ (setList l s).contact.bump = s.contact.bump := by and_intros <;> rfl

@[simp] theorem writeEpisode_frame (o : ContactOutcome) (s : State) :
    (writeEpisode o s).timebase = s.timebase ∧ (writeEpisode o s).partTime = s.partTime ∧
    (writeEpisode o s).resetting = s.resetting ∧ (writeEpisode o s).pins = s.pins ∧
    (writeEpisode o s).recv = s.recv ∧ (writeEpisode o s).loops = s.loops ∧ (writeEpisode o s).plan = s.plan ∧
    (writeEpisode o s).drive = s.drive ∧ (writeEpisode o s).track = s.track ∧ (writeEpisode o s).gov = s.gov ∧
    (writeEpisode o s).blade = s.blade ∧ (writeEpisode o s).guard = s.guard ∧
    (writeEpisode o s).dock = s.dock ∧ (writeEpisode o s).port = s.port ∧
    (writeEpisode o s).notice = s.notice ∧ (writeEpisode o s).mem = s.mem ∧
    (writeEpisode o s).pending = s.pending ∧ (writeEpisode o s).contact.stage = s.contact.stage ∧
    (writeEpisode o s).contact.bump = s.contact.bump := by and_intros <;> rfl

@[simp] theorem writeNewest_frame (o : Option ContactOutcome) (s : State) :
    (writeNewest o s).timebase = s.timebase ∧ (writeNewest o s).partTime = s.partTime ∧
    (writeNewest o s).resetting = s.resetting ∧ (writeNewest o s).pins = s.pins ∧
    (writeNewest o s).recv = s.recv ∧ (writeNewest o s).loops = s.loops ∧ (writeNewest o s).plan = s.plan ∧
    (writeNewest o s).drive = s.drive ∧ (writeNewest o s).track = s.track ∧ (writeNewest o s).gov = s.gov ∧
    (writeNewest o s).blade = s.blade ∧ (writeNewest o s).guard = s.guard ∧ (writeNewest o s).dock = s.dock ∧
    (writeNewest o s).port = s.port ∧ (writeNewest o s).notice = s.notice ∧ (writeNewest o s).mem = s.mem ∧
    (writeNewest o s).pending = s.pending ∧ (writeNewest o s).contact.stage = s.contact.stage ∧
    (writeNewest o s).contact.bump = s.contact.bump := by and_intros <;> rfl

@[simp] theorem planTrapped_frame (s : State) :
    (planTrapped s).timebase = s.timebase ∧ (planTrapped s).partTime = s.partTime ∧
    (planTrapped s).resetting = s.resetting ∧ (planTrapped s).pins = s.pins ∧ (planTrapped s).recv = s.recv ∧
    (planTrapped s).gov = s.gov ∧ (planTrapped s).contact = s.contact ∧ (planTrapped s).port = s.port ∧
    (planTrapped s).pending = s.pending ∧ (planTrapped s).guard.machine = s.guard.machine ∧
    (planTrapped s).guard.trip = s.guard.trip ∧ (planTrapped s).guard.lift = s.guard.lift ∧
    (planTrapped s).drive.wheels = s.drive.wheels ∧ (planTrapped s).loops.windowTimer = s.loops.windowTimer ∧
    (planTrapped s).loops.checkFlag = s.loops.checkFlag ∧ (planTrapped s).dock.sense = s.dock.sense := by
  unfold planTrapped
  (repeat' split) <;> simp_all

@[simp] theorem takeTrap_frame (cause : TrapCause) (s : State) :
    (takeTrap cause s).timebase = s.timebase ∧ (takeTrap cause s).partTime = s.partTime ∧
    (takeTrap cause s).resetting = s.resetting ∧ (takeTrap cause s).pins = s.pins ∧
    (takeTrap cause s).recv = s.recv ∧ (takeTrap cause s).gov = s.gov ∧ (takeTrap cause s).port = s.port ∧
    (takeTrap cause s).pending = s.pending ∧ (takeTrap cause s).guard.machine = s.guard.machine ∧
    (takeTrap cause s).guard.trip = s.guard.trip ∧ (takeTrap cause s).guard.lift = s.guard.lift ∧
    (takeTrap cause s).contact.bump = s.contact.bump ∧ (takeTrap cause s).drive.wheels = s.drive.wheels ∧
    (takeTrap cause s).loops.windowTimer = s.loops.windowTimer ∧
    (takeTrap cause s).loops.checkFlag = s.loops.checkFlag ∧ (takeTrap cause s).dock.sense = s.dock.sense := by
  unfold takeTrap
  dsimp only
  (repeat' split) <;> simp_all

@[simp] theorem startReflex_frame (e : Entry) (s : State) :
    (startReflex e s).timebase = s.timebase ∧ (startReflex e s).partTime = s.partTime ∧
    (startReflex e s).resetting = s.resetting ∧ (startReflex e s).pins = s.pins ∧
    (startReflex e s).recv = s.recv ∧ (startReflex e s).loops = s.loops ∧ (startReflex e s).plan = s.plan ∧
    (startReflex e s).track = s.track ∧ (startReflex e s).gov = s.gov ∧ (startReflex e s).blade = s.blade ∧
    (startReflex e s).guard = s.guard ∧ (startReflex e s).dock = s.dock ∧ (startReflex e s).port = s.port ∧
    (startReflex e s).notice = s.notice ∧ (startReflex e s).mem = s.mem ∧
    (startReflex e s).pending = s.pending ∧ (startReflex e s).contact.list = s.contact.list ∧
    (startReflex e s).contact.bump = s.contact.bump ∧ (startReflex e s).drive.wheels = s.drive.wheels := by and_intros <;> rfl

@[simp] theorem startOrTrap_frame (e : Entry) (s : State) :
    (startOrTrap e s).timebase = s.timebase ∧ (startOrTrap e s).partTime = s.partTime ∧
    (startOrTrap e s).resetting = s.resetting ∧ (startOrTrap e s).pins = s.pins ∧
    (startOrTrap e s).recv = s.recv ∧ (startOrTrap e s).gov = s.gov ∧ (startOrTrap e s).port = s.port ∧
    (startOrTrap e s).pending = s.pending ∧ (startOrTrap e s).guard.machine = s.guard.machine ∧
    (startOrTrap e s).guard.trip = s.guard.trip ∧ (startOrTrap e s).guard.lift = s.guard.lift ∧
    (startOrTrap e s).contact.bump = s.contact.bump ∧ (startOrTrap e s).drive.wheels = s.drive.wheels ∧
    (startOrTrap e s).loops.windowTimer = s.loops.windowTimer ∧
    (startOrTrap e s).loops.checkFlag = s.loops.checkFlag ∧ (startOrTrap e s).dock.sense = s.dock.sense := by
  unfold startOrTrap
  split <;> simp

@[simp] theorem restartReflex_frame (e : Entry) (s : State) :
    (restartReflex e s).timebase = s.timebase ∧ (restartReflex e s).partTime = s.partTime ∧
    (restartReflex e s).resetting = s.resetting ∧ (restartReflex e s).pins = s.pins ∧
    (restartReflex e s).recv = s.recv ∧ (restartReflex e s).loops = s.loops ∧
    (restartReflex e s).plan = s.plan ∧ (restartReflex e s).drive = s.drive ∧
    (restartReflex e s).track = s.track ∧ (restartReflex e s).gov = s.gov ∧
    (restartReflex e s).blade = s.blade ∧ (restartReflex e s).guard = s.guard ∧
    (restartReflex e s).dock = s.dock ∧ (restartReflex e s).port = s.port ∧
    (restartReflex e s).notice = s.notice ∧ (restartReflex e s).mem = s.mem ∧
    (restartReflex e s).pending = s.pending ∧ (restartReflex e s).contact.list = s.contact.list ∧
    (restartReflex e s).contact.bump = s.contact.bump := by and_intros <;> rfl

@[simp] theorem joinHits_frame (src : Sources) (s : State) :
    (joinHits src s).timebase = s.timebase ∧ (joinHits src s).partTime = s.partTime ∧
    (joinHits src s).resetting = s.resetting ∧ (joinHits src s).pins = s.pins ∧
    (joinHits src s).recv = s.recv ∧ (joinHits src s).loops = s.loops ∧ (joinHits src s).plan = s.plan ∧
    (joinHits src s).drive = s.drive ∧ (joinHits src s).track = s.track ∧ (joinHits src s).gov = s.gov ∧
    (joinHits src s).blade = s.blade ∧ (joinHits src s).guard = s.guard ∧ (joinHits src s).dock = s.dock ∧
    (joinHits src s).port = s.port ∧ (joinHits src s).notice = s.notice ∧ (joinHits src s).mem = s.mem ∧
    (joinHits src s).pending = s.pending ∧ (joinHits src s).contact.list = s.contact.list ∧
    (joinHits src s).contact.stage = s.contact.stage ∧ (joinHits src s).contact.bump = s.contact.bump := by and_intros <;> rfl

@[simp] theorem restartOrTrap_frame (e : Entry) (s : State) :
    (restartOrTrap e s).timebase = s.timebase ∧ (restartOrTrap e s).partTime = s.partTime ∧
    (restartOrTrap e s).resetting = s.resetting ∧ (restartOrTrap e s).pins = s.pins ∧
    (restartOrTrap e s).recv = s.recv ∧ (restartOrTrap e s).gov = s.gov ∧ (restartOrTrap e s).port = s.port ∧
    (restartOrTrap e s).pending = s.pending ∧ (restartOrTrap e s).guard.machine = s.guard.machine ∧
    (restartOrTrap e s).guard.trip = s.guard.trip ∧ (restartOrTrap e s).guard.lift = s.guard.lift ∧
    (restartOrTrap e s).contact.bump = s.contact.bump ∧ (restartOrTrap e s).drive.wheels = s.drive.wheels ∧
    (restartOrTrap e s).loops.windowTimer = s.loops.windowTimer ∧
    (restartOrTrap e s).loops.checkFlag = s.loops.checkFlag ∧ (restartOrTrap e s).dock.sense = s.dock.sense := by
  unfold restartOrTrap
  dsimp only
  (repeat' split) <;> simp_all

@[simp] theorem joinReflex_frame (e : Entry) (s : State) :
    (joinReflex e s).timebase = s.timebase ∧ (joinReflex e s).partTime = s.partTime ∧
    (joinReflex e s).resetting = s.resetting ∧ (joinReflex e s).pins = s.pins ∧
    (joinReflex e s).recv = s.recv ∧ (joinReflex e s).gov = s.gov ∧ (joinReflex e s).port = s.port ∧
    (joinReflex e s).pending = s.pending ∧ (joinReflex e s).guard.machine = s.guard.machine ∧
    (joinReflex e s).guard.trip = s.guard.trip ∧ (joinReflex e s).guard.lift = s.guard.lift ∧
    (joinReflex e s).contact.bump = s.contact.bump ∧ (joinReflex e s).drive.wheels = s.drive.wheels ∧
    (joinReflex e s).loops.windowTimer = s.loops.windowTimer ∧
    (joinReflex e s).loops.checkFlag = s.loops.checkFlag ∧ (joinReflex e s).dock.sense = s.dock.sense := by
  unfold joinReflex
  (repeat' split) <;> simp_all

@[simp] theorem takeMiss_frame (s : State) :
    (takeMiss s).timebase = s.timebase ∧ (takeMiss s).partTime = s.partTime ∧
    (takeMiss s).resetting = s.resetting ∧ (takeMiss s).pins = s.pins ∧ (takeMiss s).recv = s.recv ∧
    (takeMiss s).gov = s.gov ∧ (takeMiss s).contact = s.contact ∧ (takeMiss s).port = s.port ∧
    (takeMiss s).pending = s.pending ∧ (takeMiss s).guard.machine = s.guard.machine ∧
    (takeMiss s).guard.trip = s.guard.trip ∧ (takeMiss s).guard.lift = s.guard.lift ∧
    (takeMiss s).drive.wheels = s.drive.wheels ∧ (takeMiss s).loops.windowTimer = s.loops.windowTimer ∧
    (takeMiss s).loops.checkFlag = s.loops.checkFlag ∧ (takeMiss s).dock.sense = s.dock.sense := by
  unfold takeMiss
  dsimp only
  (repeat' split) <;> simp_all

@[simp] theorem dockBump_frame (s : State) :
    (dockBump s).timebase = s.timebase ∧ (dockBump s).partTime = s.partTime ∧
    (dockBump s).resetting = s.resetting ∧ (dockBump s).pins = s.pins ∧ (dockBump s).recv = s.recv ∧
    (dockBump s).gov = s.gov ∧ (dockBump s).contact = s.contact ∧ (dockBump s).port = s.port ∧
    (dockBump s).pending = s.pending ∧ (dockBump s).guard.machine = s.guard.machine ∧
    (dockBump s).guard.trip = s.guard.trip ∧ (dockBump s).guard.lift = s.guard.lift ∧
    (dockBump s).drive.wheels = s.drive.wheels ∧ (dockBump s).loops.windowTimer = s.loops.windowTimer ∧
    (dockBump s).loops.checkFlag = s.loops.checkFlag ∧ (dockBump s).dock.sense = s.dock.sense := by
  unfold dockBump
  dsimp only
  (repeat' split) <;> simp_all

@[simp] theorem dispose_frame (e : Entry) (s : State) :
    (dispose e s).timebase = s.timebase ∧ (dispose e s).partTime = s.partTime ∧
    (dispose e s).resetting = s.resetting ∧ (dispose e s).pins = s.pins ∧ (dispose e s).recv = s.recv ∧
    (dispose e s).gov = s.gov ∧ (dispose e s).port = s.port ∧ (dispose e s).pending = s.pending ∧
    (dispose e s).guard.machine = s.guard.machine ∧ (dispose e s).guard.trip = s.guard.trip ∧
    (dispose e s).guard.lift = s.guard.lift ∧ (dispose e s).contact.bump = s.contact.bump ∧
    (dispose e s).drive.wheels = s.drive.wheels ∧ (dispose e s).loops.windowTimer = s.loops.windowTimer ∧
    (dispose e s).loops.checkFlag = s.loops.checkFlag ∧ (dispose e s).dock.sense = s.dock.sense := by
  unfold dispose
  (repeat' split) <;> simp_all

@[simp] theorem countContact_frame (s : State) :
    (countContact s).timebase = s.timebase ∧ (countContact s).partTime = s.partTime ∧
    (countContact s).resetting = s.resetting ∧ (countContact s).pins = s.pins ∧
    (countContact s).recv = s.recv ∧ (countContact s).loops = s.loops ∧ (countContact s).drive = s.drive ∧
    (countContact s).track = s.track ∧ (countContact s).gov = s.gov ∧ (countContact s).blade = s.blade ∧
    (countContact s).contact = s.contact ∧ (countContact s).guard = s.guard ∧ (countContact s).dock = s.dock ∧
    (countContact s).port = s.port ∧ (countContact s).notice = s.notice ∧ (countContact s).mem = s.mem ∧
    (countContact s).pending = s.pending ∧ (countContact s).plan.applied = s.plan.applied ∧
    (countContact s).plan.standing = s.plan.standing := by and_intros <;> rfl

@[simp] theorem appendContact_frame (e : Entry) (s : State) :
    (appendContact e s).timebase = s.timebase ∧ (appendContact e s).partTime = s.partTime ∧
    (appendContact e s).resetting = s.resetting ∧ (appendContact e s).pins = s.pins ∧
    (appendContact e s).recv = s.recv ∧ (appendContact e s).gov = s.gov ∧ (appendContact e s).port = s.port ∧
    (appendContact e s).pending = s.pending ∧ (appendContact e s).guard.machine = s.guard.machine ∧
    (appendContact e s).guard.trip = s.guard.trip ∧ (appendContact e s).guard.lift = s.guard.lift ∧
    (appendContact e s).contact.bump = s.contact.bump ∧ (appendContact e s).drive.wheels = s.drive.wheels ∧
    (appendContact e s).loops.windowTimer = s.loops.windowTimer ∧
    (appendContact e s).loops.checkFlag = s.loops.checkFlag ∧ (appendContact e s).dock.sense = s.dock.sense := by simp [appendContact]

@[simp] theorem foldContact_frame (e : Entry) (src : Sources) (range : Option Nat) (s : State) :
    (foldContact e src range s).timebase = s.timebase ∧ (foldContact e src range s).partTime = s.partTime ∧
    (foldContact e src range s).resetting = s.resetting ∧ (foldContact e src range s).pins = s.pins ∧
    (foldContact e src range s).recv = s.recv ∧ (foldContact e src range s).gov = s.gov ∧
    (foldContact e src range s).port = s.port ∧ (foldContact e src range s).pending = s.pending ∧
    (foldContact e src range s).guard.machine = s.guard.machine ∧
    (foldContact e src range s).guard.trip = s.guard.trip ∧
    (foldContact e src range s).guard.lift = s.guard.lift ∧
    (foldContact e src range s).contact.bump = s.contact.bump ∧
    (foldContact e src range s).drive.wheels = s.drive.wheels ∧
    (foldContact e src range s).loops.windowTimer = s.loops.windowTimer ∧
    (foldContact e src range s).loops.checkFlag = s.loops.checkFlag ∧
    (foldContact e src range s).dock.sense = s.dock.sense := by
  unfold foldContact
  dsimp only
  (repeat' split) <;> simp_all

@[simp] theorem formContact_frame (src : Sources) (range : Option Nat) (s : State) :
    (formContact src range s).timebase = s.timebase ∧ (formContact src range s).partTime = s.partTime ∧
    (formContact src range s).resetting = s.resetting ∧ (formContact src range s).pins = s.pins ∧
    (formContact src range s).recv = s.recv ∧ (formContact src range s).gov = s.gov ∧
    (formContact src range s).port = s.port ∧ (formContact src range s).pending = s.pending ∧
    (formContact src range s).guard.machine = s.guard.machine ∧
    (formContact src range s).guard.trip = s.guard.trip ∧ (formContact src range s).guard.lift = s.guard.lift ∧
    (formContact src range s).contact.bump = s.contact.bump ∧
    (formContact src range s).drive.wheels = s.drive.wheels ∧
    (formContact src range s).loops.windowTimer = s.loops.windowTimer ∧
    (formContact src range s).loops.checkFlag = s.loops.checkFlag ∧
    (formContact src range s).dock.sense = s.dock.sense := by
  unfold formContact
  (repeat' split) <;> simp_all

@[simp] theorem formArmed_frame (src : Sources) (range : Option Nat) (s : State) :
    (formArmed src range s).timebase = s.timebase ∧ (formArmed src range s).partTime = s.partTime ∧
    (formArmed src range s).resetting = s.resetting ∧ (formArmed src range s).pins = s.pins ∧
    (formArmed src range s).recv = s.recv ∧ (formArmed src range s).gov = s.gov ∧
    (formArmed src range s).port = s.port ∧ (formArmed src range s).pending = s.pending ∧
    (formArmed src range s).guard.machine = s.guard.machine ∧
    (formArmed src range s).guard.trip = s.guard.trip ∧ (formArmed src range s).guard.lift = s.guard.lift ∧
    (formArmed src range s).contact.bump = s.contact.bump ∧
    (formArmed src range s).drive.wheels = s.drive.wheels ∧
    (formArmed src range s).loops.windowTimer = s.loops.windowTimer ∧
    (formArmed src range s).loops.checkFlag = s.loops.checkFlag ∧
    (formArmed src range s).dock.sense = s.dock.sense := by
  unfold formArmed
  split <;> simp

@[simp] theorem reportReflex_frame (s : State) :
    (reportReflex s).1.timebase = s.timebase ∧ (reportReflex s).1.partTime = s.partTime ∧
    (reportReflex s).1.resetting = s.resetting ∧ (reportReflex s).1.pins = s.pins ∧
    (reportReflex s).1.recv = s.recv ∧ (reportReflex s).1.gov = s.gov ∧
    (reportReflex s).1.contact = s.contact ∧ (reportReflex s).1.port = s.port ∧
    (reportReflex s).1.pending = s.pending ∧ (reportReflex s).1.guard.machine = s.guard.machine ∧
    (reportReflex s).1.guard.trip = s.guard.trip ∧ (reportReflex s).1.guard.lift = s.guard.lift ∧
    (reportReflex s).1.drive.wheels = s.drive.wheels ∧
    (reportReflex s).1.loops.windowTimer = s.loops.windowTimer ∧
    (reportReflex s).1.loops.checkFlag = s.loops.checkFlag ∧ (reportReflex s).1.dock.sense = s.dock.sense := by
  unfold reportReflex
  (repeat' split) <;> simp_all

@[simp] theorem publishQuiet_frame (s : State) :
    (publishQuiet s).timebase = s.timebase ∧ (publishQuiet s).partTime = s.partTime ∧
    (publishQuiet s).resetting = s.resetting ∧ (publishQuiet s).pins = s.pins ∧
    (publishQuiet s).recv = s.recv ∧ (publishQuiet s).gov = s.gov ∧ (publishQuiet s).contact = s.contact ∧
    (publishQuiet s).port = s.port ∧ (publishQuiet s).pending = s.pending ∧
    (publishQuiet s).guard.machine = s.guard.machine ∧ (publishQuiet s).guard.trip = s.guard.trip ∧
    (publishQuiet s).guard.lift = s.guard.lift ∧ (publishQuiet s).drive.wheels = s.drive.wheels ∧
    (publishQuiet s).loops.windowTimer = s.loops.windowTimer ∧
    (publishQuiet s).loops.checkFlag = s.loops.checkFlag ∧ (publishQuiet s).dock.sense = s.dock.sense := by
  unfold publishQuiet
  (repeat' split) <;> simp_all

@[simp] theorem finishReflex_frame (s : State) :
    (finishReflex s).timebase = s.timebase ∧ (finishReflex s).partTime = s.partTime ∧
    (finishReflex s).resetting = s.resetting ∧ (finishReflex s).pins = s.pins ∧
    (finishReflex s).recv = s.recv ∧ (finishReflex s).gov = s.gov ∧ (finishReflex s).port = s.port ∧
    (finishReflex s).pending = s.pending ∧ (finishReflex s).guard.machine = s.guard.machine ∧
    (finishReflex s).guard.trip = s.guard.trip ∧ (finishReflex s).guard.lift = s.guard.lift ∧
    (finishReflex s).contact.bump = s.contact.bump ∧ (finishReflex s).drive.wheels = s.drive.wheels ∧
    (finishReflex s).loops.windowTimer = s.loops.windowTimer ∧
    (finishReflex s).loops.checkFlag = s.loops.checkFlag ∧ (finishReflex s).dock.sense = s.dock.sense := by simp [finishReflex]

@[simp] theorem abortReflex_frame (s : State) :
    (abortReflex s).timebase = s.timebase ∧ (abortReflex s).partTime = s.partTime ∧
    (abortReflex s).resetting = s.resetting ∧ (abortReflex s).pins = s.pins ∧ (abortReflex s).recv = s.recv ∧
    (abortReflex s).loops = s.loops ∧ (abortReflex s).plan = s.plan ∧ (abortReflex s).drive = s.drive ∧
    (abortReflex s).track = s.track ∧ (abortReflex s).gov = s.gov ∧ (abortReflex s).blade = s.blade ∧
    (abortReflex s).guard = s.guard ∧ (abortReflex s).dock = s.dock ∧ (abortReflex s).port = s.port ∧
    (abortReflex s).notice = s.notice ∧ (abortReflex s).mem = s.mem ∧ (abortReflex s).pending = s.pending ∧
    (abortReflex s).contact.bump = s.contact.bump := by
  unfold abortReflex
  split <;> simp

@[simp] theorem triggerNext_frame (s : State) :
    (triggerNext s).timebase = s.timebase ∧ (triggerNext s).partTime = s.partTime ∧
    (triggerNext s).resetting = s.resetting ∧ (triggerNext s).pins = s.pins ∧ (triggerNext s).recv = s.recv ∧
    (triggerNext s).loops = s.loops ∧ (triggerNext s).plan = s.plan ∧ (triggerNext s).drive = s.drive ∧
    (triggerNext s).track = s.track ∧ (triggerNext s).gov = s.gov ∧ (triggerNext s).blade = s.blade ∧
    (triggerNext s).guard = s.guard ∧ (triggerNext s).dock = s.dock ∧ (triggerNext s).port = s.port ∧
    (triggerNext s).notice = s.notice ∧ (triggerNext s).mem = s.mem ∧ (triggerNext s).pending = s.pending ∧
    (triggerNext s).contact.list = s.contact.list ∧ (triggerNext s).contact.stage = s.contact.stage ∧
    (triggerNext s).contact.bump = s.contact.bump := by and_intros <;> rfl

@[simp] theorem pingOn_frame (s : State) :
    (pingOn s).timebase = s.timebase ∧ (pingOn s).partTime = s.partTime ∧ (pingOn s).resetting = s.resetting ∧
    (pingOn s).pins = s.pins ∧ (pingOn s).recv = s.recv ∧ (pingOn s).loops = s.loops ∧
    (pingOn s).plan = s.plan ∧ (pingOn s).drive = s.drive ∧ (pingOn s).track = s.track ∧
    (pingOn s).gov = s.gov ∧ (pingOn s).blade = s.blade ∧ (pingOn s).guard = s.guard ∧
    (pingOn s).dock = s.dock ∧ (pingOn s).port = s.port ∧ (pingOn s).notice = s.notice ∧
    (pingOn s).mem = s.mem ∧ (pingOn s).pending = s.pending ∧ (pingOn s).contact.list = s.contact.list ∧
    (pingOn s).contact.stage = s.contact.stage ∧ (pingOn s).contact.bump = s.contact.bump := by and_intros <;> rfl

@[simp] theorem pingOff_frame (s : State) :
    (pingOff s).timebase = s.timebase ∧ (pingOff s).partTime = s.partTime ∧
    (pingOff s).resetting = s.resetting ∧ (pingOff s).pins = s.pins ∧ (pingOff s).recv = s.recv ∧
    (pingOff s).loops = s.loops ∧ (pingOff s).plan = s.plan ∧ (pingOff s).drive = s.drive ∧
    (pingOff s).track = s.track ∧ (pingOff s).gov = s.gov ∧ (pingOff s).blade = s.blade ∧
    (pingOff s).guard = s.guard ∧ (pingOff s).dock = s.dock ∧ (pingOff s).port = s.port ∧
    (pingOff s).notice = s.notice ∧ (pingOff s).mem = s.mem ∧ (pingOff s).pending = s.pending ∧
    (pingOff s).contact.list = s.contact.list ∧ (pingOff s).contact.stage = s.contact.stage ∧
    (pingOff s).contact.bump = s.contact.bump := by and_intros <;> rfl

@[simp] theorem judgePinging_frame (s : State) :
    (judgePinging s).timebase = s.timebase ∧ (judgePinging s).partTime = s.partTime ∧
    (judgePinging s).resetting = s.resetting ∧ (judgePinging s).pins = s.pins ∧
    (judgePinging s).recv = s.recv ∧ (judgePinging s).loops = s.loops ∧ (judgePinging s).plan = s.plan ∧
    (judgePinging s).drive = s.drive ∧ (judgePinging s).track = s.track ∧ (judgePinging s).gov = s.gov ∧
    (judgePinging s).blade = s.blade ∧ (judgePinging s).guard = s.guard ∧ (judgePinging s).dock = s.dock ∧
    (judgePinging s).port = s.port ∧ (judgePinging s).notice = s.notice ∧ (judgePinging s).mem = s.mem ∧
    (judgePinging s).pending = s.pending ∧ (judgePinging s).contact.list = s.contact.list ∧
    (judgePinging s).contact.stage = s.contact.stage ∧ (judgePinging s).contact.bump = s.contact.bump := by
  unfold judgePinging
  dsimp only
  (repeat' split) <;> simp_all

end Sys2Proof.Machine
end

