-- ==== Sys2Proof/Laws/FrameGuardCore.lean ====
section
/-! SUPPORT. What each operation of Machine/GuardCore.lean leaves unchanged. -/

namespace Sys2Proof.Machine

@[simp] theorem zeroTargets_frame (s : State) :
    (zeroTargets s).timebase = s.timebase ∧ (zeroTargets s).partTime = s.partTime ∧
    (zeroTargets s).resetting = s.resetting ∧ (zeroTargets s).pins = s.pins ∧ (zeroTargets s).recv = s.recv ∧
    (zeroTargets s).loops = s.loops ∧ (zeroTargets s).plan = s.plan ∧ (zeroTargets s).track = s.track ∧
    (zeroTargets s).gov = s.gov ∧ (zeroTargets s).blade = s.blade ∧ (zeroTargets s).contact = s.contact ∧
    (zeroTargets s).guard = s.guard ∧ (zeroTargets s).dock = s.dock ∧ (zeroTargets s).port = s.port ∧
    (zeroTargets s).notice = s.notice ∧ (zeroTargets s).mem = s.mem ∧ (zeroTargets s).pending = s.pending := by and_intros <;> rfl

@[simp] theorem abortPlan_frame (cause : EndCause) (s : State) :
    (abortPlan cause s).timebase = s.timebase ∧ (abortPlan cause s).partTime = s.partTime ∧
    (abortPlan cause s).resetting = s.resetting ∧ (abortPlan cause s).pins = s.pins ∧
    (abortPlan cause s).recv = s.recv ∧ (abortPlan cause s).loops = s.loops ∧ (abortPlan cause s).gov = s.gov ∧
    (abortPlan cause s).contact = s.contact ∧ (abortPlan cause s).guard = s.guard ∧
    (abortPlan cause s).port = s.port ∧ (abortPlan cause s).pending = s.pending ∧
    (abortPlan cause s).plan.applied = s.plan.applied ∧ (abortPlan cause s).drive.wheels = s.drive.wheels ∧
    (abortPlan cause s).dock.sense = s.dock.sense := by
  unfold abortPlan
  split <;> simp

@[simp] theorem clearArmed_frame (s : State) :
    (clearArmed s).timebase = s.timebase ∧ (clearArmed s).partTime = s.partTime ∧
    (clearArmed s).resetting = s.resetting ∧ (clearArmed s).pins = s.pins ∧ (clearArmed s).recv = s.recv ∧
    (clearArmed s).loops = s.loops ∧ (clearArmed s).plan = s.plan ∧ (clearArmed s).drive = s.drive ∧
    (clearArmed s).track = s.track ∧ (clearArmed s).gov = s.gov ∧ (clearArmed s).blade = s.blade ∧
    (clearArmed s).contact = s.contact ∧ (clearArmed s).dock = s.dock ∧ (clearArmed s).port = s.port ∧
    (clearArmed s).notice = s.notice ∧ (clearArmed s).mem = s.mem ∧ (clearArmed s).pending = s.pending ∧
    (clearArmed s).guard.machine = s.guard.machine ∧ (clearArmed s).guard.trip = s.guard.trip ∧
    (clearArmed s).guard.lift = s.guard.lift := by and_intros <;> rfl

@[simp] theorem leaveArmed_frame (cause : EndCause) (dest : MachineState) (s : State) :
    (leaveArmed cause dest s).timebase = s.timebase ∧ (leaveArmed cause dest s).partTime = s.partTime ∧
    (leaveArmed cause dest s).resetting = s.resetting ∧ (leaveArmed cause dest s).pins = s.pins ∧
    (leaveArmed cause dest s).recv = s.recv ∧ (leaveArmed cause dest s).loops = s.loops ∧
    (leaveArmed cause dest s).gov = s.gov ∧ (leaveArmed cause dest s).port = s.port ∧
    (leaveArmed cause dest s).pending = s.pending ∧ (leaveArmed cause dest s).guard.trip = s.guard.trip ∧
    (leaveArmed cause dest s).guard.lift = s.guard.lift ∧
    (leaveArmed cause dest s).plan.applied = s.plan.applied ∧
    (leaveArmed cause dest s).contact.bump = s.contact.bump ∧
    (leaveArmed cause dest s).dock.sense = s.dock.sense := by simp [leaveArmed]

@[simp] theorem trip_frame (c : TripCause) (s : State) :
    (trip c s).timebase = s.timebase ∧ (trip c s).partTime = s.partTime ∧ (trip c s).resetting = s.resetting ∧
    (trip c s).pins = s.pins ∧ (trip c s).recv = s.recv ∧ (trip c s).loops = s.loops ∧ (trip c s).gov = s.gov ∧
    (trip c s).port = s.port ∧ (trip c s).pending = s.pending ∧ (trip c s).guard.lift = s.guard.lift ∧
    (trip c s).plan.applied = s.plan.applied ∧ (trip c s).contact.bump = s.contact.bump ∧
    (trip c s).dock.sense = s.dock.sense := by simp [trip]

@[simp] theorem addFurther_frame (c : TripCause) (s : State) :
    (addFurther c s).timebase = s.timebase ∧ (addFurther c s).partTime = s.partTime ∧
    (addFurther c s).resetting = s.resetting ∧ (addFurther c s).pins = s.pins ∧
    (addFurther c s).recv = s.recv ∧ (addFurther c s).loops = s.loops ∧ (addFurther c s).plan = s.plan ∧
    (addFurther c s).drive = s.drive ∧ (addFurther c s).track = s.track ∧ (addFurther c s).gov = s.gov ∧
    (addFurther c s).blade = s.blade ∧ (addFurther c s).contact = s.contact ∧ (addFurther c s).dock = s.dock ∧
    (addFurther c s).port = s.port ∧ (addFurther c s).notice = s.notice ∧
    (addFurther c s).pending = s.pending ∧ (addFurther c s).guard.machine = s.guard.machine ∧
    (addFurther c s).guard.lift = s.guard.lift := by
  unfold addFurther
  split <;> simp

@[simp] theorem find_frame (c : TripCause) (s : State) :
    (find c s).timebase = s.timebase ∧ (find c s).partTime = s.partTime ∧ (find c s).resetting = s.resetting ∧
    (find c s).pins = s.pins ∧ (find c s).recv = s.recv ∧ (find c s).loops = s.loops ∧ (find c s).gov = s.gov ∧
    (find c s).port = s.port ∧ (find c s).pending = s.pending ∧ (find c s).guard.lift = s.guard.lift ∧
    (find c s).plan.applied = s.plan.applied ∧ (find c s).contact.bump = s.contact.bump ∧
    (find c s).dock.sense = s.dock.sense := by
  unfold find
  split <;> simp

@[simp] theorem answerRestart_frame (s : State) :
    (answerRestart s).timebase = s.timebase ∧ (answerRestart s).partTime = s.partTime ∧
    (answerRestart s).resetting = s.resetting ∧ (answerRestart s).pins = s.pins ∧
    (answerRestart s).recv = s.recv ∧ (answerRestart s).loops = s.loops ∧ (answerRestart s).plan = s.plan ∧
    (answerRestart s).drive = s.drive ∧ (answerRestart s).track = s.track ∧ (answerRestart s).gov = s.gov ∧
    (answerRestart s).blade = s.blade ∧ (answerRestart s).contact = s.contact ∧
    (answerRestart s).guard = s.guard ∧ (answerRestart s).dock = s.dock ∧
    (answerRestart s).pending = s.pending ∧ (answerRestart s).port.requestCount = s.port.requestCount := by
  unfold answerRestart
  split <;> simp

@[simp] theorem finishStart_frame (s : State) :
    (finishStart s).timebase = s.timebase ∧ (finishStart s).partTime = s.partTime ∧
    (finishStart s).resetting = s.resetting ∧ (finishStart s).pins = s.pins ∧ (finishStart s).recv = s.recv ∧
    (finishStart s).loops = s.loops ∧ (finishStart s).drive = s.drive ∧ (finishStart s).track = s.track ∧
    (finishStart s).gov = s.gov ∧ (finishStart s).contact = s.contact ∧ (finishStart s).dock = s.dock ∧
    (finishStart s).pending = s.pending ∧ (finishStart s).guard.trip = s.guard.trip ∧
    (finishStart s).guard.lift = s.guard.lift ∧ (finishStart s).plan.applied = s.plan.applied ∧
    (finishStart s).plan.standing = s.plan.standing ∧ (finishStart s).port.requestCount = s.port.requestCount := by
  unfold finishStart
  split <;> simp

@[simp] theorem noteBladeOff_frame (s : State) :
    (noteBladeOff s).timebase = s.timebase ∧ (noteBladeOff s).partTime = s.partTime ∧
    (noteBladeOff s).resetting = s.resetting ∧ (noteBladeOff s).pins = s.pins ∧
    (noteBladeOff s).recv = s.recv ∧ (noteBladeOff s).loops = s.loops ∧ (noteBladeOff s).drive = s.drive ∧
    (noteBladeOff s).track = s.track ∧ (noteBladeOff s).gov = s.gov ∧ (noteBladeOff s).contact = s.contact ∧
    (noteBladeOff s).dock = s.dock ∧ (noteBladeOff s).pending = s.pending ∧
    (noteBladeOff s).guard.trip = s.guard.trip ∧ (noteBladeOff s).guard.lift = s.guard.lift ∧
    (noteBladeOff s).plan.applied = s.plan.applied ∧ (noteBladeOff s).plan.standing = s.plan.standing ∧
    (noteBladeOff s).port.requestCount = s.port.requestCount := by
  unfold noteBladeOff
  split <;> simp

@[simp] theorem noteWindow_frame (s : State) :
    (noteWindow s).timebase = s.timebase ∧ (noteWindow s).partTime = s.partTime ∧
    (noteWindow s).resetting = s.resetting ∧ (noteWindow s).pins = s.pins ∧ (noteWindow s).recv = s.recv ∧
    (noteWindow s).loops = s.loops ∧ (noteWindow s).drive = s.drive ∧ (noteWindow s).track = s.track ∧
    (noteWindow s).gov = s.gov ∧ (noteWindow s).contact = s.contact ∧ (noteWindow s).dock = s.dock ∧
    (noteWindow s).pending = s.pending ∧ (noteWindow s).guard.trip = s.guard.trip ∧
    (noteWindow s).guard.lift = s.guard.lift ∧ (noteWindow s).plan.applied = s.plan.applied ∧
    (noteWindow s).plan.standing = s.plan.standing ∧ (noteWindow s).port.requestCount = s.port.requestCount := by
  unfold noteWindow
  split <;> simp

end Sys2Proof.Machine
end

