-- ==== Sys2Proof/Laws/FrameGovernor.lean ====
section
/-! SUPPORT. What each operation of Machine/GovernorCore.lean leaves unchanged. -/

namespace Sys2Proof.Machine

@[simp] theorem judgeTilt_frame (s : State) :
    (judgeTilt s).timebase = s.timebase ∧ (judgeTilt s).partTime = s.partTime ∧
    (judgeTilt s).resetting = s.resetting ∧ (judgeTilt s).pins = s.pins ∧ (judgeTilt s).recv = s.recv ∧
    (judgeTilt s).loops = s.loops ∧ (judgeTilt s).gov = s.gov ∧ (judgeTilt s).port = s.port ∧
    (judgeTilt s).pending = s.pending ∧ (judgeTilt s).guard.lift = s.guard.lift ∧
    (judgeTilt s).plan.applied = s.plan.applied ∧ (judgeTilt s).contact.bump = s.contact.bump ∧
    (judgeTilt s).dock.sense = s.dock.sense := by
  unfold judgeTilt
  (repeat' split) <;> simp_all

@[simp] theorem governStep_frame (pitch : Byte) (roll : Byte) (s : State) :
    (governStep pitch roll s).timebase = s.timebase ∧ (governStep pitch roll s).partTime = s.partTime ∧
    (governStep pitch roll s).resetting = s.resetting ∧ (governStep pitch roll s).pins = s.pins ∧
    (governStep pitch roll s).recv = s.recv ∧ (governStep pitch roll s).loops = s.loops ∧
    (governStep pitch roll s).port = s.port ∧ (governStep pitch roll s).pending = s.pending ∧
    (governStep pitch roll s).guard.lift = s.guard.lift ∧
    (governStep pitch roll s).plan.applied = s.plan.applied ∧
    (governStep pitch roll s).contact.bump = s.contact.bump ∧
    (governStep pitch roll s).dock.sense = s.dock.sense := by simp [governStep]

end Sys2Proof.Machine
end

