-- ==== Sys2Proof/Laws/FrameSteering.lean ====
section
/-! SUPPORT. What each operation of Machine/Steering.lean leaves unchanged. -/

namespace Sys2Proof.Machine

@[simp] theorem stepEnds_frame (s : State) :
    (stepEnds s).timebase = s.timebase ∧ (stepEnds s).partTime = s.partTime ∧
    (stepEnds s).resetting = s.resetting ∧ (stepEnds s).pins = s.pins ∧ (stepEnds s).recv = s.recv ∧
    (stepEnds s).gov = s.gov ∧ (stepEnds s).contact = s.contact ∧ (stepEnds s).port = s.port ∧
    (stepEnds s).pending = s.pending ∧ (stepEnds s).guard.machine = s.guard.machine ∧
    (stepEnds s).guard.trip = s.guard.trip ∧ (stepEnds s).guard.lift = s.guard.lift ∧
    (stepEnds s).drive.wheels = s.drive.wheels ∧ (stepEnds s).loops.windowTimer = s.loops.windowTimer ∧
    (stepEnds s).loops.checkFlag = s.loops.checkFlag ∧ (stepEnds s).dock.sense = s.dock.sense := by
  unfold stepEnds
  (repeat' split) <;> simp_all

@[simp] theorem handPair_frame (cap : Nat) (e : Int) (weak : Nat) (s : State) :
    (handPair cap e weak s).1.timebase = s.timebase ∧ (handPair cap e weak s).1.partTime = s.partTime ∧
    (handPair cap e weak s).1.resetting = s.resetting ∧ (handPair cap e weak s).1.pins = s.pins ∧
    (handPair cap e weak s).1.recv = s.recv ∧ (handPair cap e weak s).1.loops = s.loops ∧
    (handPair cap e weak s).1.plan = s.plan ∧ (handPair cap e weak s).1.drive = s.drive ∧
    (handPair cap e weak s).1.gov = s.gov ∧ (handPair cap e weak s).1.blade = s.blade ∧
    (handPair cap e weak s).1.contact = s.contact ∧ (handPair cap e weak s).1.guard = s.guard ∧
    (handPair cap e weak s).1.dock = s.dock ∧ (handPair cap e weak s).1.port = s.port ∧
    (handPair cap e weak s).1.notice = s.notice ∧ (handPair cap e weak s).1.mem = s.mem ∧
    (handPair cap e weak s).1.pending = s.pending := by and_intros <;> rfl

@[simp] theorem steer_frame (fresh : Bool) (cap : Nat) (s : State) :
    (steer fresh cap s).1.timebase = s.timebase ∧ (steer fresh cap s).1.partTime = s.partTime ∧
    (steer fresh cap s).1.resetting = s.resetting ∧ (steer fresh cap s).1.pins = s.pins ∧
    (steer fresh cap s).1.recv = s.recv ∧ (steer fresh cap s).1.gov = s.gov ∧
    (steer fresh cap s).1.contact = s.contact ∧ (steer fresh cap s).1.port = s.port ∧
    (steer fresh cap s).1.pending = s.pending ∧ (steer fresh cap s).1.guard.machine = s.guard.machine ∧
    (steer fresh cap s).1.guard.trip = s.guard.trip ∧ (steer fresh cap s).1.guard.lift = s.guard.lift ∧
    (steer fresh cap s).1.drive.wheels = s.drive.wheels ∧
    (steer fresh cap s).1.loops.windowTimer = s.loops.windowTimer ∧
    (steer fresh cap s).1.loops.checkFlag = s.loops.checkFlag ∧ (steer fresh cap s).1.dock.sense = s.dock.sense := by
  unfold steer
  dsimp only
  (repeat' split) <;> simp_all

@[simp] theorem trackRequest_frame (fresh : Bool) (cap : Nat) (seg : Segment) (s : State) :
    (trackRequest fresh cap seg s).1.timebase = s.timebase ∧
    (trackRequest fresh cap seg s).1.partTime = s.partTime ∧
    (trackRequest fresh cap seg s).1.resetting = s.resetting ∧ (trackRequest fresh cap seg s).1.pins = s.pins ∧
    (trackRequest fresh cap seg s).1.recv = s.recv ∧ (trackRequest fresh cap seg s).1.gov = s.gov ∧
    (trackRequest fresh cap seg s).1.contact = s.contact ∧ (trackRequest fresh cap seg s).1.port = s.port ∧
    (trackRequest fresh cap seg s).1.pending = s.pending ∧
    (trackRequest fresh cap seg s).1.guard.machine = s.guard.machine ∧
    (trackRequest fresh cap seg s).1.guard.trip = s.guard.trip ∧
    (trackRequest fresh cap seg s).1.guard.lift = s.guard.lift ∧
    (trackRequest fresh cap seg s).1.drive.wheels = s.drive.wheels ∧
    (trackRequest fresh cap seg s).1.loops.windowTimer = s.loops.windowTimer ∧
    (trackRequest fresh cap seg s).1.loops.checkFlag = s.loops.checkFlag ∧
    (trackRequest fresh cap seg s).1.dock.sense = s.dock.sense := by
  unfold trackRequest
  (repeat' split) <;> simp_all

@[simp] theorem leaveBackoff_frame (s : State) :
    (leaveBackoff s).timebase = s.timebase ∧ (leaveBackoff s).partTime = s.partTime ∧
    (leaveBackoff s).resetting = s.resetting ∧ (leaveBackoff s).pins = s.pins ∧
    (leaveBackoff s).recv = s.recv ∧ (leaveBackoff s).loops = s.loops ∧ (leaveBackoff s).plan = s.plan ∧
    (leaveBackoff s).drive = s.drive ∧ (leaveBackoff s).gov = s.gov ∧ (leaveBackoff s).blade = s.blade ∧
    (leaveBackoff s).contact = s.contact ∧ (leaveBackoff s).guard = s.guard ∧ (leaveBackoff s).port = s.port ∧
    (leaveBackoff s).pending = s.pending ∧ (leaveBackoff s).dock.sense = s.dock.sense := by
  unfold leaveBackoff
  dsimp only
  (repeat' split) <;> simp_all

@[simp] theorem dockPhaseRequest_frame (fresh : Bool) (cap : Nat) (s : State) :
    (dockPhaseRequest fresh cap s).1.timebase = s.timebase ∧
    (dockPhaseRequest fresh cap s).1.partTime = s.partTime ∧
    (dockPhaseRequest fresh cap s).1.resetting = s.resetting ∧ (dockPhaseRequest fresh cap s).1.pins = s.pins ∧
    (dockPhaseRequest fresh cap s).1.recv = s.recv ∧ (dockPhaseRequest fresh cap s).1.gov = s.gov ∧
    (dockPhaseRequest fresh cap s).1.contact = s.contact ∧ (dockPhaseRequest fresh cap s).1.port = s.port ∧
    (dockPhaseRequest fresh cap s).1.pending = s.pending ∧
    (dockPhaseRequest fresh cap s).1.guard.machine = s.guard.machine ∧
    (dockPhaseRequest fresh cap s).1.guard.trip = s.guard.trip ∧
    (dockPhaseRequest fresh cap s).1.guard.lift = s.guard.lift ∧
    (dockPhaseRequest fresh cap s).1.drive.wheels = s.drive.wheels ∧
    (dockPhaseRequest fresh cap s).1.loops.windowTimer = s.loops.windowTimer ∧
    (dockPhaseRequest fresh cap s).1.loops.checkFlag = s.loops.checkFlag ∧
    (dockPhaseRequest fresh cap s).1.dock.sense = s.dock.sense := by
  unfold dockPhaseRequest
  (repeat' split) <;> simp_all

@[simp] theorem dockRequest_frame (fresh : Bool) (cap : Nat) (seg : Segment) (s : State) :
    (dockRequest fresh cap seg s).1.timebase = s.timebase ∧
    (dockRequest fresh cap seg s).1.partTime = s.partTime ∧
    (dockRequest fresh cap seg s).1.resetting = s.resetting ∧ (dockRequest fresh cap seg s).1.pins = s.pins ∧
    (dockRequest fresh cap seg s).1.recv = s.recv ∧ (dockRequest fresh cap seg s).1.gov = s.gov ∧
    (dockRequest fresh cap seg s).1.contact = s.contact ∧ (dockRequest fresh cap seg s).1.port = s.port ∧
    (dockRequest fresh cap seg s).1.pending = s.pending ∧
    (dockRequest fresh cap seg s).1.guard.machine = s.guard.machine ∧
    (dockRequest fresh cap seg s).1.guard.trip = s.guard.trip ∧
    (dockRequest fresh cap seg s).1.guard.lift = s.guard.lift ∧
    (dockRequest fresh cap seg s).1.drive.wheels = s.drive.wheels ∧
    (dockRequest fresh cap seg s).1.loops.windowTimer = s.loops.windowTimer ∧
    (dockRequest fresh cap seg s).1.loops.checkFlag = s.loops.checkFlag ∧
    (dockRequest fresh cap seg s).1.dock.sense = s.dock.sense := by
  unfold dockRequest
  (repeat' split) <;> simp_all

@[simp] theorem enterTurn_frame (s : State) :
    (enterTurn s).timebase = s.timebase ∧ (enterTurn s).partTime = s.partTime ∧
    (enterTurn s).resetting = s.resetting ∧ (enterTurn s).pins = s.pins ∧ (enterTurn s).recv = s.recv ∧
    (enterTurn s).loops = s.loops ∧ (enterTurn s).plan = s.plan ∧ (enterTurn s).drive = s.drive ∧
    (enterTurn s).track = s.track ∧ (enterTurn s).gov = s.gov ∧ (enterTurn s).blade = s.blade ∧
    (enterTurn s).contact = s.contact ∧ (enterTurn s).guard = s.guard ∧ (enterTurn s).port = s.port ∧
    (enterTurn s).notice = s.notice ∧ (enterTurn s).pending = s.pending ∧
    (enterTurn s).dock.sense = s.dock.sense := by and_intros <;> rfl

@[simp] theorem undockTurn_frame (cap : Nat) (f : Fields) (s : State) :
    (undockTurn cap f s).1.timebase = s.timebase ∧ (undockTurn cap f s).1.partTime = s.partTime ∧
    (undockTurn cap f s).1.resetting = s.resetting ∧ (undockTurn cap f s).1.pins = s.pins ∧
    (undockTurn cap f s).1.recv = s.recv ∧ (undockTurn cap f s).1.gov = s.gov ∧
    (undockTurn cap f s).1.contact = s.contact ∧ (undockTurn cap f s).1.port = s.port ∧
    (undockTurn cap f s).1.pending = s.pending ∧ (undockTurn cap f s).1.guard.machine = s.guard.machine ∧
    (undockTurn cap f s).1.guard.trip = s.guard.trip ∧ (undockTurn cap f s).1.guard.lift = s.guard.lift ∧
    (undockTurn cap f s).1.drive.wheels = s.drive.wheels ∧
    (undockTurn cap f s).1.loops.windowTimer = s.loops.windowTimer ∧
    (undockTurn cap f s).1.loops.checkFlag = s.loops.checkFlag ∧
    (undockTurn cap f s).1.dock.sense = s.dock.sense := by
  unfold undockTurn
  split <;> simp

@[simp] theorem undockRequest_frame (fresh : Bool) (cap : Nat) (seg : Segment) (s : State) :
    (undockRequest fresh cap seg s).1.timebase = s.timebase ∧
    (undockRequest fresh cap seg s).1.partTime = s.partTime ∧
    (undockRequest fresh cap seg s).1.resetting = s.resetting ∧
    (undockRequest fresh cap seg s).1.pins = s.pins ∧ (undockRequest fresh cap seg s).1.recv = s.recv ∧
    (undockRequest fresh cap seg s).1.gov = s.gov ∧ (undockRequest fresh cap seg s).1.contact = s.contact ∧
    (undockRequest fresh cap seg s).1.port = s.port ∧ (undockRequest fresh cap seg s).1.pending = s.pending ∧
    (undockRequest fresh cap seg s).1.guard.machine = s.guard.machine ∧
    (undockRequest fresh cap seg s).1.guard.trip = s.guard.trip ∧
    (undockRequest fresh cap seg s).1.guard.lift = s.guard.lift ∧
    (undockRequest fresh cap seg s).1.drive.wheels = s.drive.wheels ∧
    (undockRequest fresh cap seg s).1.loops.windowTimer = s.loops.windowTimer ∧
    (undockRequest fresh cap seg s).1.loops.checkFlag = s.loops.checkFlag ∧
    (undockRequest fresh cap seg s).1.dock.sense = s.dock.sense := by
  unfold undockRequest
  (repeat' split) <;> simp_all

@[simp] theorem kindRequest_frame (fresh : Bool) (cap : Nat) (s : State) :
    (kindRequest fresh cap s).1.timebase = s.timebase ∧ (kindRequest fresh cap s).1.partTime = s.partTime ∧
    (kindRequest fresh cap s).1.resetting = s.resetting ∧ (kindRequest fresh cap s).1.pins = s.pins ∧
    (kindRequest fresh cap s).1.recv = s.recv ∧ (kindRequest fresh cap s).1.gov = s.gov ∧
    (kindRequest fresh cap s).1.contact = s.contact ∧ (kindRequest fresh cap s).1.port = s.port ∧
    (kindRequest fresh cap s).1.pending = s.pending ∧
    (kindRequest fresh cap s).1.guard.machine = s.guard.machine ∧
    (kindRequest fresh cap s).1.guard.trip = s.guard.trip ∧
    (kindRequest fresh cap s).1.guard.lift = s.guard.lift ∧
    (kindRequest fresh cap s).1.drive.wheels = s.drive.wheels ∧
    (kindRequest fresh cap s).1.loops.windowTimer = s.loops.windowTimer ∧
    (kindRequest fresh cap s).1.loops.checkFlag = s.loops.checkFlag ∧
    (kindRequest fresh cap s).1.dock.sense = s.dock.sense := by
  unfold kindRequest
  (repeat' split) <;> simp_all

@[simp] theorem requestStep_frame (cap : Nat) (s : State) :
    (requestStep cap s).1.timebase = s.timebase ∧ (requestStep cap s).1.partTime = s.partTime ∧
    (requestStep cap s).1.resetting = s.resetting ∧ (requestStep cap s).1.pins = s.pins ∧
    (requestStep cap s).1.recv = s.recv ∧ (requestStep cap s).1.gov = s.gov ∧
    (requestStep cap s).1.contact = s.contact ∧ (requestStep cap s).1.port = s.port ∧
    (requestStep cap s).1.pending = s.pending ∧ (requestStep cap s).1.guard.machine = s.guard.machine ∧
    (requestStep cap s).1.guard.trip = s.guard.trip ∧ (requestStep cap s).1.guard.lift = s.guard.lift ∧
    (requestStep cap s).1.drive.wheels = s.drive.wheels ∧
    (requestStep cap s).1.loops.windowTimer = s.loops.windowTimer ∧
    (requestStep cap s).1.loops.checkFlag = s.loops.checkFlag ∧ (requestStep cap s).1.dock.sense = s.dock.sense := by
  unfold requestStep
  split <;> rename_i he <;> (have := congrArg Prod.fst he; simp only at this; subst this; simp)

end Sys2Proof.Machine
end

