-- ==== Sys2Proof/Laws/FrameDriveCore.lean ====
section
/-! SUPPORT. What each operation of Machine/DriveCore.lean leaves unchanged. -/

namespace Sys2Proof.Machine

@[simp] theorem measureWheels_frame (t : Capture) (s : State) :
    (measureWheels t s).timebase = s.timebase ∧ (measureWheels t s).partTime = s.partTime ∧
    (measureWheels t s).resetting = s.resetting ∧ (measureWheels t s).pins = s.pins ∧
    (measureWheels t s).recv = s.recv ∧ (measureWheels t s).loops = s.loops ∧
    (measureWheels t s).plan = s.plan ∧ (measureWheels t s).track = s.track ∧ (measureWheels t s).gov = s.gov ∧
    (measureWheels t s).blade = s.blade ∧ (measureWheels t s).contact = s.contact ∧
    (measureWheels t s).guard = s.guard ∧ (measureWheels t s).dock = s.dock ∧
    (measureWheels t s).port = s.port ∧ (measureWheels t s).notice = s.notice ∧
    (measureWheels t s).mem = s.mem ∧ (measureWheels t s).pending = s.pending := by and_intros <;> rfl

@[simp] theorem odometryStep_frame (v : Travel) (s : State) :
    (odometryStep v s).timebase = s.timebase ∧ (odometryStep v s).partTime = s.partTime ∧
    (odometryStep v s).resetting = s.resetting ∧ (odometryStep v s).pins = s.pins ∧
    (odometryStep v s).recv = s.recv ∧ (odometryStep v s).loops = s.loops ∧ (odometryStep v s).plan = s.plan ∧
    (odometryStep v s).track = s.track ∧ (odometryStep v s).gov = s.gov ∧ (odometryStep v s).blade = s.blade ∧
    (odometryStep v s).contact = s.contact ∧ (odometryStep v s).guard = s.guard ∧
    (odometryStep v s).dock = s.dock ∧ (odometryStep v s).port = s.port ∧
    (odometryStep v s).notice = s.notice ∧ (odometryStep v s).mem = s.mem ∧
    (odometryStep v s).pending = s.pending := by and_intros <;> rfl

@[simp] theorem dockTravel_frame (v : Travel) (s : State) :
    (dockTravel v s).timebase = s.timebase ∧ (dockTravel v s).partTime = s.partTime ∧
    (dockTravel v s).resetting = s.resetting ∧ (dockTravel v s).pins = s.pins ∧
    (dockTravel v s).recv = s.recv ∧ (dockTravel v s).loops = s.loops ∧ (dockTravel v s).plan = s.plan ∧
    (dockTravel v s).drive = s.drive ∧ (dockTravel v s).track = s.track ∧ (dockTravel v s).gov = s.gov ∧
    (dockTravel v s).blade = s.blade ∧ (dockTravel v s).contact = s.contact ∧
    (dockTravel v s).guard = s.guard ∧ (dockTravel v s).port = s.port ∧ (dockTravel v s).notice = s.notice ∧
    (dockTravel v s).mem = s.mem ∧ (dockTravel v s).pending = s.pending ∧
    (dockTravel v s).dock.sense = s.dock.sense := by
  unfold dockTravel
  (repeat' split) <;> simp_all

@[simp] theorem reflexTravel_frame (v : Travel) (s : State) :
    (reflexTravel v s).timebase = s.timebase ∧ (reflexTravel v s).partTime = s.partTime ∧
    (reflexTravel v s).resetting = s.resetting ∧ (reflexTravel v s).pins = s.pins ∧
    (reflexTravel v s).recv = s.recv ∧ (reflexTravel v s).loops = s.loops ∧ (reflexTravel v s).plan = s.plan ∧
    (reflexTravel v s).drive = s.drive ∧ (reflexTravel v s).track = s.track ∧ (reflexTravel v s).gov = s.gov ∧
    (reflexTravel v s).blade = s.blade ∧ (reflexTravel v s).guard = s.guard ∧
    (reflexTravel v s).dock = s.dock ∧ (reflexTravel v s).port = s.port ∧
    (reflexTravel v s).notice = s.notice ∧ (reflexTravel v s).mem = s.mem ∧
    (reflexTravel v s).pending = s.pending ∧ (reflexTravel v s).contact.list = s.contact.list ∧
    (reflexTravel v s).contact.stage = s.contact.stage ∧ (reflexTravel v s).contact.bump = s.contact.bump := by
  unfold reflexTravel
  split <;> simp

@[simp] theorem escapeStep_frame (v : Travel) (s : State) :
    (escapeStep v s).timebase = s.timebase ∧ (escapeStep v s).partTime = s.partTime ∧
    (escapeStep v s).resetting = s.resetting ∧ (escapeStep v s).pins = s.pins ∧
    (escapeStep v s).recv = s.recv ∧ (escapeStep v s).loops = s.loops ∧ (escapeStep v s).gov = s.gov ∧
    (escapeStep v s).port = s.port ∧ (escapeStep v s).pending = s.pending ∧
    (escapeStep v s).guard.lift = s.guard.lift ∧ (escapeStep v s).plan.applied = s.plan.applied ∧
    (escapeStep v s).contact.bump = s.contact.bump ∧ (escapeStep v s).dock.sense = s.dock.sense := by
  unfold escapeStep
  dsimp only
  (repeat' split) <;> simp_all

@[simp] theorem travelStep_frame (v : Travel) (s : State) :
    (travelStep v s).timebase = s.timebase ∧ (travelStep v s).partTime = s.partTime ∧
    (travelStep v s).resetting = s.resetting ∧ (travelStep v s).pins = s.pins ∧
    (travelStep v s).recv = s.recv ∧ (travelStep v s).loops = s.loops ∧ (travelStep v s).gov = s.gov ∧
    (travelStep v s).port = s.port ∧ (travelStep v s).pending = s.pending ∧
    (travelStep v s).guard.lift = s.guard.lift ∧ (travelStep v s).plan.applied = s.plan.applied ∧
    (travelStep v s).contact.bump = s.contact.bump ∧ (travelStep v s).dock.sense = s.dock.sense := by simp [travelStep]

@[simp] theorem enterBacking_frame (s : State) :
    (enterBacking s).timebase = s.timebase ∧ (enterBacking s).partTime = s.partTime ∧
    (enterBacking s).resetting = s.resetting ∧ (enterBacking s).pins = s.pins ∧
    (enterBacking s).recv = s.recv ∧ (enterBacking s).loops = s.loops ∧ (enterBacking s).plan = s.plan ∧
    (enterBacking s).drive = s.drive ∧ (enterBacking s).track = s.track ∧ (enterBacking s).gov = s.gov ∧
    (enterBacking s).blade = s.blade ∧ (enterBacking s).guard = s.guard ∧ (enterBacking s).dock = s.dock ∧
    (enterBacking s).port = s.port ∧ (enterBacking s).notice = s.notice ∧ (enterBacking s).mem = s.mem ∧
    (enterBacking s).pending = s.pending ∧ (enterBacking s).contact.list = s.contact.list ∧
    (enterBacking s).contact.bump = s.contact.bump := by and_intros <;> rfl

@[simp] theorem enterTurning_frame (s : State) :
    (enterTurning s).timebase = s.timebase ∧ (enterTurning s).partTime = s.partTime ∧
    (enterTurning s).resetting = s.resetting ∧ (enterTurning s).pins = s.pins ∧
    (enterTurning s).recv = s.recv ∧ (enterTurning s).loops = s.loops ∧ (enterTurning s).plan = s.plan ∧
    (enterTurning s).drive = s.drive ∧ (enterTurning s).track = s.track ∧ (enterTurning s).gov = s.gov ∧
    (enterTurning s).blade = s.blade ∧ (enterTurning s).guard = s.guard ∧ (enterTurning s).dock = s.dock ∧
    (enterTurning s).port = s.port ∧ (enterTurning s).notice = s.notice ∧ (enterTurning s).mem = s.mem ∧
    (enterTurning s).pending = s.pending ∧ (enterTurning s).contact.list = s.contact.list ∧
    (enterTurning s).contact.bump = s.contact.bump := by and_intros <;> rfl

@[simp] theorem runStage_frame (cap : Nat) (moved : Bool) (p : Pair) (s : State) :
    (runStage cap moved p s).state.timebase = s.timebase ∧
    (runStage cap moved p s).state.partTime = s.partTime ∧
    (runStage cap moved p s).state.resetting = s.resetting ∧ (runStage cap moved p s).state.pins = s.pins ∧
    (runStage cap moved p s).state.recv = s.recv ∧ (runStage cap moved p s).state.gov = s.gov ∧
    (runStage cap moved p s).state.port = s.port ∧ (runStage cap moved p s).state.pending = s.pending ∧
    (runStage cap moved p s).state.guard.machine = s.guard.machine ∧
    (runStage cap moved p s).state.guard.trip = s.guard.trip ∧
    (runStage cap moved p s).state.guard.lift = s.guard.lift ∧
    (runStage cap moved p s).state.contact.bump = s.contact.bump ∧
    (runStage cap moved p s).state.drive.wheels = s.drive.wheels ∧
    (runStage cap moved p s).state.loops.windowTimer = s.loops.windowTimer ∧
    (runStage cap moved p s).state.loops.checkFlag = s.loops.checkFlag ∧
    (runStage cap moved p s).state.dock.sense = s.dock.sense := by
  unfold runStage
  dsimp only
  (repeat' split) <;> simp_all

@[simp] theorem reflexStep_frame (cap : Nat) (v : Travel) (s : State) :
    (reflexStep cap v s).state.timebase = s.timebase ∧ (reflexStep cap v s).state.partTime = s.partTime ∧
    (reflexStep cap v s).state.resetting = s.resetting ∧ (reflexStep cap v s).state.pins = s.pins ∧
    (reflexStep cap v s).state.recv = s.recv ∧ (reflexStep cap v s).state.gov = s.gov ∧
    (reflexStep cap v s).state.port = s.port ∧ (reflexStep cap v s).state.pending = s.pending ∧
    (reflexStep cap v s).state.guard.machine = s.guard.machine ∧
    (reflexStep cap v s).state.guard.trip = s.guard.trip ∧
    (reflexStep cap v s).state.guard.lift = s.guard.lift ∧
    (reflexStep cap v s).state.contact.bump = s.contact.bump ∧
    (reflexStep cap v s).state.drive.wheels = s.drive.wheels ∧
    (reflexStep cap v s).state.loops.windowTimer = s.loops.windowTimer ∧
    (reflexStep cap v s).state.loops.checkFlag = s.loops.checkFlag ∧
    (reflexStep cap v s).state.dock.sense = s.dock.sense := by
  unfold reflexStep
  (repeat' split) <;> simp_all

@[simp] theorem aimWheels_frame (c : Choice) (p : Pair) (s : State) :
    (aimWheels c p s).timebase = s.timebase ∧ (aimWheels c p s).partTime = s.partTime ∧
    (aimWheels c p s).resetting = s.resetting ∧ (aimWheels c p s).pins = s.pins ∧
    (aimWheels c p s).recv = s.recv ∧ (aimWheels c p s).loops = s.loops ∧ (aimWheels c p s).plan = s.plan ∧
    (aimWheels c p s).track = s.track ∧ (aimWheels c p s).gov = s.gov ∧ (aimWheels c p s).blade = s.blade ∧
    (aimWheels c p s).contact = s.contact ∧ (aimWheels c p s).guard = s.guard ∧
    (aimWheels c p s).dock = s.dock ∧ (aimWheels c p s).port = s.port ∧ (aimWheels c p s).notice = s.notice ∧
    (aimWheels c p s).mem = s.mem ∧ (aimWheels c p s).pending = s.pending := by and_intros <;> rfl

@[simp] theorem chooseStep_frame (v : Travel) (s : State) :
    (chooseStep v s).timebase = s.timebase ∧ (chooseStep v s).partTime = s.partTime ∧
    (chooseStep v s).resetting = s.resetting ∧ (chooseStep v s).pins = s.pins ∧
    (chooseStep v s).recv = s.recv ∧ (chooseStep v s).gov = s.gov ∧ (chooseStep v s).port = s.port ∧
    (chooseStep v s).pending = s.pending ∧ (chooseStep v s).guard.machine = s.guard.machine ∧
    (chooseStep v s).guard.trip = s.guard.trip ∧ (chooseStep v s).guard.lift = s.guard.lift ∧
    (chooseStep v s).contact.bump = s.contact.bump ∧ (chooseStep v s).loops.windowTimer = s.loops.windowTimer ∧
    (chooseStep v s).loops.checkFlag = s.loops.checkFlag ∧ (chooseStep v s).dock.sense = s.dock.sense := by
  unfold chooseStep
  dsimp only
  (repeat' split) <;> simp_all

@[simp] theorem dutyStep_frame (s : State) :
    (dutyStep s).timebase = s.timebase ∧ (dutyStep s).partTime = s.partTime ∧
    (dutyStep s).resetting = s.resetting ∧ (dutyStep s).pins = s.pins ∧ (dutyStep s).recv = s.recv ∧
    (dutyStep s).loops = s.loops ∧ (dutyStep s).plan = s.plan ∧ (dutyStep s).track = s.track ∧
    (dutyStep s).gov = s.gov ∧ (dutyStep s).blade = s.blade ∧ (dutyStep s).contact = s.contact ∧
    (dutyStep s).guard = s.guard ∧ (dutyStep s).dock = s.dock ∧ (dutyStep s).port = s.port ∧
    (dutyStep s).notice = s.notice ∧ (dutyStep s).mem = s.mem ∧ (dutyStep s).pending = s.pending := by and_intros <;> rfl

@[simp] theorem motionStep_frame (s : State) :
    (motionStep s).timebase = s.timebase ∧ (motionStep s).partTime = s.partTime ∧
    (motionStep s).resetting = s.resetting ∧ (motionStep s).pins = s.pins ∧ (motionStep s).recv = s.recv ∧
    (motionStep s).loops = s.loops ∧ (motionStep s).plan = s.plan ∧ (motionStep s).track = s.track ∧
    (motionStep s).gov = s.gov ∧ (motionStep s).blade = s.blade ∧ (motionStep s).guard = s.guard ∧
    (motionStep s).dock = s.dock ∧ (motionStep s).port = s.port ∧ (motionStep s).notice = s.notice ∧
    (motionStep s).mem = s.mem ∧ (motionStep s).pending = s.pending ∧
    (motionStep s).contact.list = s.contact.list ∧ (motionStep s).contact.stage = s.contact.stage ∧
    (motionStep s).contact.bump = s.contact.bump ∧ (motionStep s).drive.wheels = s.drive.wheels := by simp [motionStep]

@[simp] theorem setStall_frame (i : LR) (t : Option Time) (s : State) :
    (setStall i t s).timebase = s.timebase ∧ (setStall i t s).partTime = s.partTime ∧
    (setStall i t s).resetting = s.resetting ∧ (setStall i t s).pins = s.pins ∧
    (setStall i t s).recv = s.recv ∧ (setStall i t s).loops = s.loops ∧ (setStall i t s).plan = s.plan ∧
    (setStall i t s).drive = s.drive ∧ (setStall i t s).track = s.track ∧ (setStall i t s).gov = s.gov ∧
    (setStall i t s).blade = s.blade ∧ (setStall i t s).guard = s.guard ∧ (setStall i t s).dock = s.dock ∧
    (setStall i t s).port = s.port ∧ (setStall i t s).notice = s.notice ∧ (setStall i t s).mem = s.mem ∧
    (setStall i t s).pending = s.pending ∧ (setStall i t s).contact.list = s.contact.list ∧
    (setStall i t s).contact.stage = s.contact.stage ∧ (setStall i t s).contact.bump = s.contact.bump := by and_intros <;> rfl

@[simp] theorem judgeStall_frame (i : LR) (s : State) :
    (judgeStall i s).timebase = s.timebase ∧ (judgeStall i s).partTime = s.partTime ∧
    (judgeStall i s).resetting = s.resetting ∧ (judgeStall i s).pins = s.pins ∧
    (judgeStall i s).recv = s.recv ∧ (judgeStall i s).gov = s.gov ∧ (judgeStall i s).port = s.port ∧
    (judgeStall i s).pending = s.pending ∧ (judgeStall i s).guard.machine = s.guard.machine ∧
    (judgeStall i s).guard.trip = s.guard.trip ∧ (judgeStall i s).guard.lift = s.guard.lift ∧
    (judgeStall i s).contact.bump = s.contact.bump ∧ (judgeStall i s).drive.wheels = s.drive.wheels ∧
    (judgeStall i s).loops.windowTimer = s.loops.windowTimer ∧
    (judgeStall i s).loops.checkFlag = s.loops.checkFlag ∧ (judgeStall i s).dock.sense = s.dock.sense := by
  unfold judgeStall
  dsimp only
  (repeat' split) <;> simp_all

@[simp] theorem latch_frame (s : State) :
    (latch s).timebase = s.timebase ∧ (latch s).partTime = s.partTime ∧ (latch s).resetting = s.resetting ∧
    (latch s).pins = s.pins ∧ (latch s).recv = s.recv ∧ (latch s).loops = s.loops ∧ (latch s).plan = s.plan ∧
    (latch s).drive = s.drive ∧ (latch s).track = s.track ∧ (latch s).gov = s.gov ∧ (latch s).blade = s.blade ∧
    (latch s).contact = s.contact ∧ (latch s).guard = s.guard ∧ (latch s).dock = s.dock ∧
    (latch s).notice = s.notice ∧ (latch s).mem = s.mem ∧ (latch s).pending = s.pending ∧
    (latch s).port.inHand = s.port.inHand ∧ (latch s).port.answer = s.port.answer ∧
    (latch s).port.requestCount = s.port.requestCount := by and_intros <;> rfl

@[simp] theorem controlPeriod_frame (t : Capture) (pitch : Byte) (roll : Byte) (s : State) :
    (controlPeriod t pitch roll s).timebase = s.timebase ∧
    (controlPeriod t pitch roll s).partTime = s.partTime ∧
    (controlPeriod t pitch roll s).resetting = s.resetting ∧ (controlPeriod t pitch roll s).pins = s.pins ∧
    (controlPeriod t pitch roll s).recv = s.recv ∧ (controlPeriod t pitch roll s).pending = s.pending ∧
    (controlPeriod t pitch roll s).guard.lift = s.guard.lift ∧
    (controlPeriod t pitch roll s).contact.bump = s.contact.bump ∧
    (controlPeriod t pitch roll s).loops.windowTimer = s.loops.windowTimer ∧
    (controlPeriod t pitch roll s).loops.checkFlag = s.loops.checkFlag ∧
    (controlPeriod t pitch roll s).port.inHand = s.port.inHand ∧
    (controlPeriod t pitch roll s).port.answer = s.port.answer ∧
    (controlPeriod t pitch roll s).port.requestCount = s.port.requestCount ∧
    (controlPeriod t pitch roll s).dock.sense = s.dock.sense := by simp [controlPeriod]

end Sys2Proof.Machine
end

