-- ==== Sys2Proof/Laws/FrameReceiverCore.lean ====
section
/-! SUPPORT. What each operation of Machine/ReceiverCore.lean leaves unchanged. -/

namespace Sys2Proof.Machine

@[simp] theorem setChannel_frame (i : Coil) (c : Channel) (s : State) :
    (setChannel i c s).timebase = s.timebase ∧ (setChannel i c s).partTime = s.partTime ∧
    (setChannel i c s).resetting = s.resetting ∧ (setChannel i c s).pins = s.pins ∧
    (setChannel i c s).loops = s.loops ∧ (setChannel i c s).plan = s.plan ∧
    (setChannel i c s).drive = s.drive ∧ (setChannel i c s).track = s.track ∧ (setChannel i c s).gov = s.gov ∧
    (setChannel i c s).blade = s.blade ∧ (setChannel i c s).contact = s.contact ∧
    (setChannel i c s).guard = s.guard ∧ (setChannel i c s).dock = s.dock ∧ (setChannel i c s).port = s.port ∧
    (setChannel i c s).notice = s.notice ∧ (setChannel i c s).mem = s.mem ∧
    (setChannel i c s).pending = s.pending ∧ (setChannel i c s).recv.check = s.recv.check := by and_intros <;> rfl

@[simp] theorem foreignFrame_frame (i : Coil) (code : Nat) (s : State) :
    (foreignFrame i code s).timebase = s.timebase ∧ (foreignFrame i code s).partTime = s.partTime ∧
    (foreignFrame i code s).resetting = s.resetting ∧ (foreignFrame i code s).pins = s.pins ∧
    (foreignFrame i code s).loops = s.loops ∧ (foreignFrame i code s).plan = s.plan ∧
    (foreignFrame i code s).drive = s.drive ∧ (foreignFrame i code s).track = s.track ∧
    (foreignFrame i code s).gov = s.gov ∧ (foreignFrame i code s).blade = s.blade ∧
    (foreignFrame i code s).contact = s.contact ∧ (foreignFrame i code s).guard = s.guard ∧
    (foreignFrame i code s).dock = s.dock ∧ (foreignFrame i code s).port = s.port ∧
    (foreignFrame i code s).notice = s.notice ∧ (foreignFrame i code s).mem = s.mem ∧
    (foreignFrame i code s).pending = s.pending ∧ (foreignFrame i code s).recv.check = s.recv.check := by and_intros <;> rfl

@[simp] theorem checkFrame_frame (i : Coil) (f : Frame) (code : Nat) (s : State) :
    (checkFrame i f code s).timebase = s.timebase ∧ (checkFrame i f code s).partTime = s.partTime ∧
    (checkFrame i f code s).resetting = s.resetting ∧ (checkFrame i f code s).pins = s.pins ∧
    (checkFrame i f code s).loops = s.loops ∧ (checkFrame i f code s).plan = s.plan ∧
    (checkFrame i f code s).drive = s.drive ∧ (checkFrame i f code s).track = s.track ∧
    (checkFrame i f code s).gov = s.gov ∧ (checkFrame i f code s).blade = s.blade ∧
    (checkFrame i f code s).contact = s.contact ∧ (checkFrame i f code s).guard = s.guard ∧
    (checkFrame i f code s).dock = s.dock ∧ (checkFrame i f code s).port = s.port ∧
    (checkFrame i f code s).notice = s.notice ∧ (checkFrame i f code s).mem = s.mem ∧
    (checkFrame i f code s).pending = s.pending := by
  unfold checkFrame
  split <;> simp

@[simp] theorem completeFrame_frame (i : Coil) (f : Frame) (code : Nat) (s : State) :
    (completeFrame i f code s).timebase = s.timebase ∧ (completeFrame i f code s).partTime = s.partTime ∧
    (completeFrame i f code s).resetting = s.resetting ∧ (completeFrame i f code s).pins = s.pins ∧
    (completeFrame i f code s).gov = s.gov ∧ (completeFrame i f code s).contact = s.contact ∧
    (completeFrame i f code s).port = s.port ∧ (completeFrame i f code s).pending = s.pending ∧
    (completeFrame i f code s).guard.machine = s.guard.machine ∧
    (completeFrame i f code s).guard.trip = s.guard.trip ∧
    (completeFrame i f code s).guard.lift = s.guard.lift ∧
    (completeFrame i f code s).drive.wheels = s.drive.wheels ∧
    (completeFrame i f code s).loops.windowTimer = s.loops.windowTimer ∧
    (completeFrame i f code s).loops.checkFlag = s.loops.checkFlag ∧
    (completeFrame i f code s).dock.sense = s.dock.sense := by
  unfold completeFrame
  (repeat' split) <;> simp_all

@[simp] theorem takeDecoded_frame (i : Coil) (d : Decoded) (s : State) :
    (takeDecoded i d s).timebase = s.timebase ∧ (takeDecoded i d s).partTime = s.partTime ∧
    (takeDecoded i d s).resetting = s.resetting ∧ (takeDecoded i d s).pins = s.pins ∧
    (takeDecoded i d s).gov = s.gov ∧ (takeDecoded i d s).contact = s.contact ∧
    (takeDecoded i d s).port = s.port ∧ (takeDecoded i d s).pending = s.pending ∧
    (takeDecoded i d s).guard.machine = s.guard.machine ∧ (takeDecoded i d s).guard.trip = s.guard.trip ∧
    (takeDecoded i d s).guard.lift = s.guard.lift ∧ (takeDecoded i d s).drive.wheels = s.drive.wheels ∧
    (takeDecoded i d s).loops.windowTimer = s.loops.windowTimer ∧
    (takeDecoded i d s).loops.checkFlag = s.loops.checkFlag ∧ (takeDecoded i d s).dock.sense = s.dock.sense := by
  unfold takeDecoded
  split <;> simp

@[simp] theorem closeInterval_frame (finish : Capture) (s : State) :
    (closeInterval finish s).timebase = s.timebase ∧ (closeInterval finish s).partTime = s.partTime ∧
    (closeInterval finish s).resetting = s.resetting ∧ (closeInterval finish s).pins = s.pins ∧
    (closeInterval finish s).gov = s.gov ∧ (closeInterval finish s).contact = s.contact ∧
    (closeInterval finish s).port = s.port ∧ (closeInterval finish s).pending = s.pending ∧
    (closeInterval finish s).guard.machine = s.guard.machine ∧
    (closeInterval finish s).guard.trip = s.guard.trip ∧ (closeInterval finish s).guard.lift = s.guard.lift ∧
    (closeInterval finish s).drive.wheels = s.drive.wheels ∧
    (closeInterval finish s).loops.windowTimer = s.loops.windowTimer ∧
    (closeInterval finish s).loops.checkFlag = s.loops.checkFlag ∧
    (closeInterval finish s).dock.sense = s.dock.sense := by simp [closeInterval]

@[simp] theorem settleInterval_frame (t : Capture) (s : State) :
    (settleInterval t s).timebase = s.timebase ∧ (settleInterval t s).partTime = s.partTime ∧
    (settleInterval t s).resetting = s.resetting ∧ (settleInterval t s).pins = s.pins ∧
    (settleInterval t s).gov = s.gov ∧ (settleInterval t s).contact = s.contact ∧
    (settleInterval t s).port = s.port ∧ (settleInterval t s).pending = s.pending ∧
    (settleInterval t s).guard.machine = s.guard.machine ∧ (settleInterval t s).guard.trip = s.guard.trip ∧
    (settleInterval t s).guard.lift = s.guard.lift ∧ (settleInterval t s).drive.wheels = s.drive.wheels ∧
    (settleInterval t s).loops.windowTimer = s.loops.windowTimer ∧
    (settleInterval t s).loops.checkFlag = s.loops.checkFlag ∧ (settleInterval t s).dock.sense = s.dock.sense := by
  unfold settleInterval
  (repeat' split) <;> simp_all

@[simp] theorem leadingAt_frame (i : Coil) (t : Capture) (s : State) :
    (leadingAt i t s).timebase = s.timebase ∧ (leadingAt i t s).partTime = s.partTime ∧
    (leadingAt i t s).resetting = s.resetting ∧ (leadingAt i t s).pins = s.pins ∧
    (leadingAt i t s).gov = s.gov ∧ (leadingAt i t s).contact = s.contact ∧ (leadingAt i t s).port = s.port ∧
    (leadingAt i t s).pending = s.pending ∧ (leadingAt i t s).guard.machine = s.guard.machine ∧
    (leadingAt i t s).guard.trip = s.guard.trip ∧ (leadingAt i t s).guard.lift = s.guard.lift ∧
    (leadingAt i t s).drive.wheels = s.drive.wheels ∧
    (leadingAt i t s).loops.windowTimer = s.loops.windowTimer ∧
    (leadingAt i t s).loops.checkFlag = s.loops.checkFlag ∧ (leadingAt i t s).dock.sense = s.dock.sense := by
  unfold leadingAt
  dsimp only
  split <;> simp

@[simp] theorem trailingAt_frame (i : Coil) (t : Capture) (peak : Byte) (s : State) :
    (trailingAt i t peak s).timebase = s.timebase ∧ (trailingAt i t peak s).partTime = s.partTime ∧
    (trailingAt i t peak s).resetting = s.resetting ∧ (trailingAt i t peak s).pins = s.pins ∧
    (trailingAt i t peak s).gov = s.gov ∧ (trailingAt i t peak s).contact = s.contact ∧
    (trailingAt i t peak s).port = s.port ∧ (trailingAt i t peak s).pending = s.pending ∧
    (trailingAt i t peak s).guard.machine = s.guard.machine ∧
    (trailingAt i t peak s).guard.trip = s.guard.trip ∧ (trailingAt i t peak s).guard.lift = s.guard.lift ∧
    (trailingAt i t peak s).drive.wheels = s.drive.wheels ∧
    (trailingAt i t peak s).loops.windowTimer = s.loops.windowTimer ∧
    (trailingAt i t peak s).loops.checkFlag = s.loops.checkFlag ∧
    (trailingAt i t peak s).dock.sense = s.dock.sense := by
  unfold trailingAt
  dsimp only
  split <;> simp

@[simp] theorem switchingAt_frame (o : PwmOutput) (t : Capture) (s : State) :
    (switchingAt o t s).timebase = s.timebase ∧ (switchingAt o t s).partTime = s.partTime ∧
    (switchingAt o t s).resetting = s.resetting ∧ (switchingAt o t s).pins = s.pins ∧
    (switchingAt o t s).gov = s.gov ∧ (switchingAt o t s).contact = s.contact ∧
    (switchingAt o t s).port = s.port ∧ (switchingAt o t s).pending = s.pending ∧
    (switchingAt o t s).guard.machine = s.guard.machine ∧ (switchingAt o t s).guard.trip = s.guard.trip ∧
    (switchingAt o t s).guard.lift = s.guard.lift ∧ (switchingAt o t s).drive.wheels = s.drive.wheels ∧
    (switchingAt o t s).loops.windowTimer = s.loops.windowTimer ∧
    (switchingAt o t s).loops.checkFlag = s.loops.checkFlag ∧ (switchingAt o t s).dock.sense = s.dock.sense := by
  unfold switchingAt
  dsimp only
  (repeat' split) <;> simp_all

@[simp] theorem discardAll_frame (s : State) :
    (discardAll s).timebase = s.timebase ∧ (discardAll s).partTime = s.partTime ∧
    (discardAll s).resetting = s.resetting ∧ (discardAll s).pins = s.pins ∧ (discardAll s).loops = s.loops ∧
    (discardAll s).plan = s.plan ∧ (discardAll s).drive = s.drive ∧ (discardAll s).track = s.track ∧
    (discardAll s).gov = s.gov ∧ (discardAll s).blade = s.blade ∧ (discardAll s).contact = s.contact ∧
    (discardAll s).guard = s.guard ∧ (discardAll s).dock = s.dock ∧ (discardAll s).port = s.port ∧
    (discardAll s).notice = s.notice ∧ (discardAll s).mem = s.mem ∧ (discardAll s).pending = s.pending ∧
    (discardAll s).recv.check = s.recv.check := by and_intros <;> rfl

@[simp] theorem beginCheck_frame (s : State) :
    (beginCheck s).timebase = s.timebase ∧ (beginCheck s).partTime = s.partTime ∧
    (beginCheck s).resetting = s.resetting ∧ (beginCheck s).pins = s.pins ∧ (beginCheck s).plan = s.plan ∧
    (beginCheck s).drive = s.drive ∧ (beginCheck s).track = s.track ∧ (beginCheck s).gov = s.gov ∧
    (beginCheck s).blade = s.blade ∧ (beginCheck s).contact = s.contact ∧ (beginCheck s).guard = s.guard ∧
    (beginCheck s).dock = s.dock ∧ (beginCheck s).port = s.port ∧ (beginCheck s).notice = s.notice ∧
    (beginCheck s).pending = s.pending ∧ (beginCheck s).loops.recs = s.loops.recs ∧
    (beginCheck s).loops.windowTimer = s.loops.windowTimer := by and_intros <;> rfl

@[simp] theorem finishCheck_frame (s : State) :
    (finishCheck s).timebase = s.timebase ∧ (finishCheck s).partTime = s.partTime ∧
    (finishCheck s).resetting = s.resetting ∧ (finishCheck s).pins = s.pins ∧ (finishCheck s).plan = s.plan ∧
    (finishCheck s).drive = s.drive ∧ (finishCheck s).track = s.track ∧ (finishCheck s).gov = s.gov ∧
    (finishCheck s).blade = s.blade ∧ (finishCheck s).contact = s.contact ∧ (finishCheck s).guard = s.guard ∧
    (finishCheck s).dock = s.dock ∧ (finishCheck s).pending = s.pending ∧
    (finishCheck s).loops.recs = s.loops.recs ∧ (finishCheck s).loops.windowTimer = s.loops.windowTimer ∧
    (finishCheck s).port.answer = s.port.answer ∧ (finishCheck s).port.requestCount = s.port.requestCount := by simp [finishCheck]

end Sys2Proof.Machine
end

