-- ==== Sys2Proof/Laws/FrameBladePeriod.lean ====
section
/-! SUPPORT. What each operation of Machine/BladePeriodCore.lean leaves unchanged. -/

namespace Sys2Proof.Machine

@[simp] theorem runawayStep_frame (s : State) :
    (runawayStep s).timebase = s.timebase ∧ (runawayStep s).partTime = s.partTime ∧
    (runawayStep s).resetting = s.resetting ∧ (runawayStep s).pins = s.pins ∧ (runawayStep s).recv = s.recv ∧
    (runawayStep s).loops = s.loops ∧ (runawayStep s).gov = s.gov ∧ (runawayStep s).port = s.port ∧
    (runawayStep s).pending = s.pending ∧ (runawayStep s).guard.lift = s.guard.lift ∧
    (runawayStep s).plan.applied = s.plan.applied ∧ (runawayStep s).contact.bump = s.contact.bump ∧
    (runawayStep s).dock.sense = s.dock.sense := by
  unfold runawayStep
  (repeat' split) <;> simp_all

@[simp] theorem jamEvent_frame (fault : BladeFault) (report : Report) (s : State) :
    (jamEvent fault report s).timebase = s.timebase ∧ (jamEvent fault report s).partTime = s.partTime ∧
    (jamEvent fault report s).resetting = s.resetting ∧ (jamEvent fault report s).pins = s.pins ∧
    (jamEvent fault report s).recv = s.recv ∧ (jamEvent fault report s).loops = s.loops ∧
    (jamEvent fault report s).plan = s.plan ∧ (jamEvent fault report s).drive = s.drive ∧
    (jamEvent fault report s).track = s.track ∧ (jamEvent fault report s).gov = s.gov ∧
    (jamEvent fault report s).contact = s.contact ∧ (jamEvent fault report s).guard = s.guard ∧
    (jamEvent fault report s).dock = s.dock ∧ (jamEvent fault report s).port = s.port ∧
    (jamEvent fault report s).pending = s.pending := by simp [jamEvent]

@[simp] theorem spinupStep_frame (target : Nat) (s : State) :
    (spinupStep target s).timebase = s.timebase ∧ (spinupStep target s).partTime = s.partTime ∧
    (spinupStep target s).resetting = s.resetting ∧ (spinupStep target s).pins = s.pins ∧
    (spinupStep target s).recv = s.recv ∧ (spinupStep target s).loops = s.loops ∧
    (spinupStep target s).plan = s.plan ∧ (spinupStep target s).drive = s.drive ∧
    (spinupStep target s).track = s.track ∧ (spinupStep target s).gov = s.gov ∧
    (spinupStep target s).contact = s.contact ∧ (spinupStep target s).guard = s.guard ∧
    (spinupStep target s).dock = s.dock ∧ (spinupStep target s).port = s.port ∧
    (spinupStep target s).pending = s.pending := by
  unfold spinupStep
  (repeat' split) <;> simp_all

@[simp] theorem cuttingStep_frame (target : Nat) (s : State) :
    (cuttingStep target s).timebase = s.timebase ∧ (cuttingStep target s).partTime = s.partTime ∧
    (cuttingStep target s).resetting = s.resetting ∧ (cuttingStep target s).pins = s.pins ∧
    (cuttingStep target s).recv = s.recv ∧ (cuttingStep target s).loops = s.loops ∧
    (cuttingStep target s).plan = s.plan ∧ (cuttingStep target s).drive = s.drive ∧
    (cuttingStep target s).track = s.track ∧ (cuttingStep target s).gov = s.gov ∧
    (cuttingStep target s).contact = s.contact ∧ (cuttingStep target s).guard = s.guard ∧
    (cuttingStep target s).dock = s.dock ∧ (cuttingStep target s).port = s.port ∧
    (cuttingStep target s).pending = s.pending := by
  unfold cuttingStep
  (repeat' split) <;> simp_all

@[simp] theorem uncutAtLockout_frame (s : State) :
    (uncutAtLockout s).timebase = s.timebase ∧ (uncutAtLockout s).partTime = s.partTime ∧
    (uncutAtLockout s).resetting = s.resetting ∧ (uncutAtLockout s).pins = s.pins ∧
    (uncutAtLockout s).recv = s.recv ∧ (uncutAtLockout s).loops = s.loops ∧
    (uncutAtLockout s).drive = s.drive ∧ (uncutAtLockout s).track = s.track ∧ (uncutAtLockout s).gov = s.gov ∧
    (uncutAtLockout s).blade = s.blade ∧ (uncutAtLockout s).contact = s.contact ∧
    (uncutAtLockout s).guard = s.guard ∧ (uncutAtLockout s).dock = s.dock ∧ (uncutAtLockout s).port = s.port ∧
    (uncutAtLockout s).notice = s.notice ∧ (uncutAtLockout s).mem = s.mem ∧
    (uncutAtLockout s).pending = s.pending ∧ (uncutAtLockout s).plan.applied = s.plan.applied ∧
    (uncutAtLockout s).plan.standing = s.plan.standing := by
  unfold uncutAtLockout
  split <;> simp

@[simp] theorem enterLockedOut_frame (s : State) :
    (enterLockedOut s).timebase = s.timebase ∧ (enterLockedOut s).partTime = s.partTime ∧
    (enterLockedOut s).resetting = s.resetting ∧ (enterLockedOut s).pins = s.pins ∧
    (enterLockedOut s).recv = s.recv ∧ (enterLockedOut s).loops = s.loops ∧
    (enterLockedOut s).drive = s.drive ∧ (enterLockedOut s).track = s.track ∧ (enterLockedOut s).gov = s.gov ∧
    (enterLockedOut s).contact = s.contact ∧ (enterLockedOut s).guard = s.guard ∧
    (enterLockedOut s).dock = s.dock ∧ (enterLockedOut s).port = s.port ∧
    (enterLockedOut s).pending = s.pending ∧ (enterLockedOut s).plan.applied = s.plan.applied ∧
    (enterLockedOut s).plan.standing = s.plan.standing := by simp [enterLockedOut]

@[simp] theorem takeStop_frame (s : State) :
    (takeStop s).timebase = s.timebase ∧ (takeStop s).partTime = s.partTime ∧
    (takeStop s).resetting = s.resetting ∧ (takeStop s).pins = s.pins ∧ (takeStop s).recv = s.recv ∧
    (takeStop s).loops = s.loops ∧ (takeStop s).drive = s.drive ∧ (takeStop s).track = s.track ∧
    (takeStop s).gov = s.gov ∧ (takeStop s).contact = s.contact ∧ (takeStop s).guard = s.guard ∧
    (takeStop s).dock = s.dock ∧ (takeStop s).port = s.port ∧ (takeStop s).pending = s.pending ∧
    (takeStop s).plan.applied = s.plan.applied ∧ (takeStop s).plan.standing = s.plan.standing := by
  unfold takeStop
  split <;> simp

@[simp] theorem offAndJudge_frame (s : State) :
    (offAndJudge s).timebase = s.timebase ∧ (offAndJudge s).partTime = s.partTime ∧
    (offAndJudge s).resetting = s.resetting ∧ (offAndJudge s).pins = s.pins ∧ (offAndJudge s).recv = s.recv ∧
    (offAndJudge s).loops = s.loops ∧ (offAndJudge s).drive = s.drive ∧ (offAndJudge s).track = s.track ∧
    (offAndJudge s).gov = s.gov ∧ (offAndJudge s).contact = s.contact ∧ (offAndJudge s).guard = s.guard ∧
    (offAndJudge s).dock = s.dock ∧ (offAndJudge s).port = s.port ∧ (offAndJudge s).notice = s.notice ∧
    (offAndJudge s).pending = s.pending ∧ (offAndJudge s).plan.applied = s.plan.applied ∧
    (offAndJudge s).plan.standing = s.plan.standing := by simp [offAndJudge]

@[simp] theorem jammedStep_frame (stopped : Bool) (s : State) :
    (jammedStep stopped s).timebase = s.timebase ∧ (jammedStep stopped s).partTime = s.partTime ∧
    (jammedStep stopped s).resetting = s.resetting ∧ (jammedStep stopped s).pins = s.pins ∧
    (jammedStep stopped s).recv = s.recv ∧ (jammedStep stopped s).loops = s.loops ∧
    (jammedStep stopped s).drive = s.drive ∧ (jammedStep stopped s).track = s.track ∧
    (jammedStep stopped s).gov = s.gov ∧ (jammedStep stopped s).contact = s.contact ∧
    (jammedStep stopped s).guard = s.guard ∧ (jammedStep stopped s).dock = s.dock ∧
    (jammedStep stopped s).port = s.port ∧ (jammedStep stopped s).pending = s.pending ∧
    (jammedStep stopped s).plan.applied = s.plan.applied ∧
    (jammedStep stopped s).plan.standing = s.plan.standing := by
  unfold jammedStep
  split <;> simp

@[simp] theorem bladeAction_frame (target : Nat) (stopped : Bool) (s : State) :
    (bladeAction target stopped s).timebase = s.timebase ∧
    (bladeAction target stopped s).partTime = s.partTime ∧
    (bladeAction target stopped s).resetting = s.resetting ∧ (bladeAction target stopped s).pins = s.pins ∧
    (bladeAction target stopped s).recv = s.recv ∧ (bladeAction target stopped s).loops = s.loops ∧
    (bladeAction target stopped s).drive = s.drive ∧ (bladeAction target stopped s).track = s.track ∧
    (bladeAction target stopped s).gov = s.gov ∧ (bladeAction target stopped s).contact = s.contact ∧
    (bladeAction target stopped s).guard = s.guard ∧ (bladeAction target stopped s).dock = s.dock ∧
    (bladeAction target stopped s).port = s.port ∧ (bladeAction target stopped s).pending = s.pending ∧
    (bladeAction target stopped s).plan.applied = s.plan.applied ∧
    (bladeAction target stopped s).plan.standing = s.plan.standing := by
  unfold bladeAction
  (repeat' split) <;> simp_all

@[simp] theorem publishBlade_frame (s : State) :
    (publishBlade s).timebase = s.timebase ∧ (publishBlade s).partTime = s.partTime ∧
    (publishBlade s).resetting = s.resetting ∧ (publishBlade s).pins = s.pins ∧
    (publishBlade s).recv = s.recv ∧ (publishBlade s).loops = s.loops ∧ (publishBlade s).drive = s.drive ∧
    (publishBlade s).track = s.track ∧ (publishBlade s).gov = s.gov ∧ (publishBlade s).contact = s.contact ∧
    (publishBlade s).dock = s.dock ∧ (publishBlade s).pending = s.pending ∧
    (publishBlade s).guard.trip = s.guard.trip ∧ (publishBlade s).guard.lift = s.guard.lift ∧
    (publishBlade s).plan.applied = s.plan.applied ∧ (publishBlade s).plan.standing = s.plan.standing ∧
    (publishBlade s).port.requestCount = s.port.requestCount := by simp [publishBlade]

@[simp] theorem bladePeriod_frame (t : Capture) (s : State) :
    (bladePeriod t s).timebase = s.timebase ∧ (bladePeriod t s).partTime = s.partTime ∧
    (bladePeriod t s).resetting = s.resetting ∧ (bladePeriod t s).pins = s.pins ∧
    (bladePeriod t s).recv = s.recv ∧ (bladePeriod t s).loops = s.loops ∧ (bladePeriod t s).gov = s.gov ∧
    (bladePeriod t s).pending = s.pending ∧ (bladePeriod t s).guard.lift = s.guard.lift ∧
    (bladePeriod t s).plan.applied = s.plan.applied ∧ (bladePeriod t s).contact.bump = s.contact.bump ∧
    (bladePeriod t s).port.requestCount = s.port.requestCount ∧ (bladePeriod t s).dock.sense = s.dock.sense := by simp [bladePeriod]

@[simp] theorem markBrakeSlow_frame (s : State) :
    (markBrakeSlow s).timebase = s.timebase ∧ (markBrakeSlow s).partTime = s.partTime ∧
    (markBrakeSlow s).resetting = s.resetting ∧ (markBrakeSlow s).pins = s.pins ∧
    (markBrakeSlow s).recv = s.recv ∧ (markBrakeSlow s).loops = s.loops ∧ (markBrakeSlow s).plan = s.plan ∧
    (markBrakeSlow s).drive = s.drive ∧ (markBrakeSlow s).track = s.track ∧ (markBrakeSlow s).gov = s.gov ∧
    (markBrakeSlow s).blade = s.blade ∧ (markBrakeSlow s).contact = s.contact ∧
    (markBrakeSlow s).dock = s.dock ∧ (markBrakeSlow s).port = s.port ∧ (markBrakeSlow s).notice = s.notice ∧
    (markBrakeSlow s).pending = s.pending ∧ (markBrakeSlow s).guard.machine = s.guard.machine ∧
    (markBrakeSlow s).guard.lift = s.guard.lift := by
  unfold markBrakeSlow
  split <;> simp

@[simp] theorem slowBrake_frame (s : State) :
    (slowBrake s).timebase = s.timebase ∧ (slowBrake s).partTime = s.partTime ∧
    (slowBrake s).resetting = s.resetting ∧ (slowBrake s).pins = s.pins ∧ (slowBrake s).recv = s.recv ∧
    (slowBrake s).loops = s.loops ∧ (slowBrake s).drive = s.drive ∧ (slowBrake s).track = s.track ∧
    (slowBrake s).gov = s.gov ∧ (slowBrake s).contact = s.contact ∧ (slowBrake s).dock = s.dock ∧
    (slowBrake s).pending = s.pending ∧ (slowBrake s).guard.lift = s.guard.lift ∧
    (slowBrake s).plan.applied = s.plan.applied ∧ (slowBrake s).plan.standing = s.plan.standing ∧
    (slowBrake s).port.requestCount = s.port.requestCount := by
  unfold slowBrake
  dsimp only
  (repeat' split) <;> simp_all

end Sys2Proof.Machine
end

