-- ==== Sys2Proof/Laws/FrameDockCore.lean ====
section
/-! SUPPORT. What each operation of Machine/DockCore.lean leaves unchanged. -/

namespace Sys2Proof.Machine

@[simp] theorem wakeUp_frame (reason : WakeReason) (s : State) :
    (wakeUp reason s).timebase = s.timebase ∧ (wakeUp reason s).partTime = s.partTime ∧
    (wakeUp reason s).resetting = s.resetting ∧ (wakeUp reason s).pins = s.pins ∧
    (wakeUp reason s).recv = s.recv ∧ (wakeUp reason s).drive = s.drive ∧ (wakeUp reason s).track = s.track ∧
    (wakeUp reason s).gov = s.gov ∧ (wakeUp reason s).contact = s.contact ∧
    (wakeUp reason s).pending = s.pending ∧ (wakeUp reason s).guard.trip = s.guard.trip ∧
    (wakeUp reason s).guard.lift = s.guard.lift ∧ (wakeUp reason s).plan.applied = s.plan.applied ∧
    (wakeUp reason s).plan.standing = s.plan.standing ∧ (wakeUp reason s).loops.checkFlag = s.loops.checkFlag ∧
    (wakeUp reason s).port.inHand = s.port.inHand ∧ (wakeUp reason s).port.answer = s.port.answer ∧
    (wakeUp reason s).port.requestCount = s.port.requestCount ∧ (wakeUp reason s).dock.sense = s.dock.sense := by simp [wakeUp]

@[simp] theorem parkNow_frame (s : State) :
    (parkNow s).timebase = s.timebase ∧ (parkNow s).partTime = s.partTime ∧
    (parkNow s).resetting = s.resetting ∧ (parkNow s).pins = s.pins ∧ (parkNow s).recv = s.recv ∧
    (parkNow s).drive = s.drive ∧ (parkNow s).track = s.track ∧ (parkNow s).gov = s.gov ∧
    (parkNow s).contact = s.contact ∧ (parkNow s).pending = s.pending ∧
    (parkNow s).guard.machine = s.guard.machine ∧ (parkNow s).guard.trip = s.guard.trip ∧
    (parkNow s).guard.lift = s.guard.lift ∧ (parkNow s).plan.applied = s.plan.applied ∧
    (parkNow s).plan.standing = s.plan.standing ∧ (parkNow s).loops.checkFlag = s.loops.checkFlag ∧
    (parkNow s).port.inHand = s.port.inHand ∧ (parkNow s).port.answer = s.port.answer ∧
    (parkNow s).port.requestCount = s.port.requestCount ∧ (parkNow s).dock.sense = s.dock.sense := by simp [parkNow]

@[simp] theorem takePark_frame (s : State) :
    (takePark s).timebase = s.timebase ∧ (takePark s).partTime = s.partTime ∧
    (takePark s).resetting = s.resetting ∧ (takePark s).pins = s.pins ∧ (takePark s).recv = s.recv ∧
    (takePark s).gov = s.gov ∧ (takePark s).pending = s.pending ∧ (takePark s).guard.trip = s.guard.trip ∧
    (takePark s).guard.lift = s.guard.lift ∧ (takePark s).plan.applied = s.plan.applied ∧
    (takePark s).contact.bump = s.contact.bump ∧ (takePark s).loops.checkFlag = s.loops.checkFlag ∧
    (takePark s).port.inHand = s.port.inHand ∧ (takePark s).port.answer = s.port.answer ∧
    (takePark s).port.requestCount = s.port.requestCount ∧ (takePark s).dock.sense = s.dock.sense := by
  unfold takePark
  split <;> simp

@[simp] theorem contactArrived_frame (s : State) :
    (contactArrived s).timebase = s.timebase ∧ (contactArrived s).partTime = s.partTime ∧
    (contactArrived s).resetting = s.resetting ∧ (contactArrived s).pins = s.pins ∧
    (contactArrived s).recv = s.recv ∧ (contactArrived s).gov = s.gov ∧
    (contactArrived s).contact = s.contact ∧ (contactArrived s).port = s.port ∧
    (contactArrived s).pending = s.pending ∧ (contactArrived s).guard.machine = s.guard.machine ∧
    (contactArrived s).guard.trip = s.guard.trip ∧ (contactArrived s).guard.lift = s.guard.lift ∧
    (contactArrived s).drive.wheels = s.drive.wheels ∧
    (contactArrived s).loops.windowTimer = s.loops.windowTimer ∧
    (contactArrived s).loops.checkFlag = s.loops.checkFlag ∧ (contactArrived s).dock.sense = s.dock.sense := by
  unfold contactArrived
  dsimp only
  (repeat' split) <;> simp_all

@[simp] theorem contactLost_frame (s : State) :
    (contactLost s).timebase = s.timebase ∧ (contactLost s).partTime = s.partTime ∧
    (contactLost s).resetting = s.resetting ∧ (contactLost s).pins = s.pins ∧ (contactLost s).recv = s.recv ∧
    (contactLost s).drive = s.drive ∧ (contactLost s).track = s.track ∧ (contactLost s).gov = s.gov ∧
    (contactLost s).contact = s.contact ∧ (contactLost s).pending = s.pending ∧
    (contactLost s).guard.trip = s.guard.trip ∧ (contactLost s).guard.lift = s.guard.lift ∧
    (contactLost s).plan.applied = s.plan.applied ∧ (contactLost s).plan.standing = s.plan.standing ∧
    (contactLost s).loops.checkFlag = s.loops.checkFlag ∧ (contactLost s).port.inHand = s.port.inHand ∧
    (contactLost s).port.answer = s.port.answer ∧ (contactLost s).port.requestCount = s.port.requestCount ∧
    (contactLost s).dock.sense = s.dock.sense := by
  unfold contactLost
  dsimp only
  (repeat' split) <;> simp_all

@[simp] theorem risingFell_frame (s : State) :
    (risingFell s).timebase = s.timebase ∧ (risingFell s).partTime = s.partTime ∧
    (risingFell s).resetting = s.resetting ∧ (risingFell s).pins = s.pins ∧ (risingFell s).recv = s.recv ∧
    (risingFell s).gov = s.gov ∧ (risingFell s).contact = s.contact ∧ (risingFell s).port = s.port ∧
    (risingFell s).pending = s.pending ∧ (risingFell s).guard.machine = s.guard.machine ∧
    (risingFell s).guard.trip = s.guard.trip ∧ (risingFell s).guard.lift = s.guard.lift ∧
    (risingFell s).drive.wheels = s.drive.wheels ∧ (risingFell s).loops.windowTimer = s.loops.windowTimer ∧
    (risingFell s).loops.checkFlag = s.loops.checkFlag ∧ (risingFell s).dock.sense = s.dock.sense := by
  unfold risingFell
  split <;> simp

@[simp] theorem setSense_frame (c : Sense) (start : Option Time) (s : State) :
    (setSense c start s).timebase = s.timebase ∧ (setSense c start s).partTime = s.partTime ∧
    (setSense c start s).resetting = s.resetting ∧ (setSense c start s).pins = s.pins ∧
    (setSense c start s).recv = s.recv ∧ (setSense c start s).loops = s.loops ∧
    (setSense c start s).plan = s.plan ∧ (setSense c start s).drive = s.drive ∧
    (setSense c start s).track = s.track ∧ (setSense c start s).gov = s.gov ∧
    (setSense c start s).blade = s.blade ∧ (setSense c start s).contact = s.contact ∧
    (setSense c start s).guard = s.guard ∧ (setSense c start s).port = s.port ∧
    (setSense c start s).notice = s.notice ∧ (setSense c start s).mem = s.mem ∧
    (setSense c start s).pending = s.pending := by and_intros <;> rfl

@[simp] theorem moveSense_frame (v : Byte) (s : State) :
    (moveSense v s).timebase = s.timebase ∧ (moveSense v s).partTime = s.partTime ∧
    (moveSense v s).resetting = s.resetting ∧ (moveSense v s).pins = s.pins ∧ (moveSense v s).recv = s.recv ∧
    (moveSense v s).gov = s.gov ∧ (moveSense v s).contact = s.contact ∧ (moveSense v s).pending = s.pending ∧
    (moveSense v s).guard.trip = s.guard.trip ∧ (moveSense v s).guard.lift = s.guard.lift ∧
    (moveSense v s).drive.wheels = s.drive.wheels ∧ (moveSense v s).loops.checkFlag = s.loops.checkFlag ∧
    (moveSense v s).port.inHand = s.port.inHand ∧ (moveSense v s).port.answer = s.port.answer ∧
    (moveSense v s).port.requestCount = s.port.requestCount := by
  unfold moveSense
  dsimp only
  (repeat' split) <;> simp_all

@[simp] theorem contactSample_frame (v : Byte) (s : State) :
    (contactSample v s).timebase = s.timebase ∧ (contactSample v s).partTime = s.partTime ∧
    (contactSample v s).resetting = s.resetting ∧ (contactSample v s).pins = s.pins ∧
    (contactSample v s).recv = s.recv ∧ (contactSample v s).gov = s.gov ∧
    (contactSample v s).contact = s.contact ∧ (contactSample v s).pending = s.pending ∧
    (contactSample v s).guard.trip = s.guard.trip ∧ (contactSample v s).guard.lift = s.guard.lift ∧
    (contactSample v s).drive.wheels = s.drive.wheels ∧
    (contactSample v s).loops.checkFlag = s.loops.checkFlag ∧ (contactSample v s).port.inHand = s.port.inHand ∧
    (contactSample v s).port.answer = s.port.answer ∧
    (contactSample v s).port.requestCount = s.port.requestCount := by simp [contactSample]

end Sys2Proof.Machine
end

