-- ==== Sys2Proof/Laws/FrameRequestCore.lean ====
section
/-! SUPPORT. What each operation of Machine/RequestCore.lean leaves unchanged. -/

namespace Sys2Proof.Machine

@[simp] theorem armGuard_frame (s : State) :
    (armGuard s).timebase = s.timebase ∧ (armGuard s).partTime = s.partTime ∧
    (armGuard s).resetting = s.resetting ∧ (armGuard s).pins = s.pins ∧ (armGuard s).recv = s.recv ∧
    (armGuard s).loops = s.loops ∧ (armGuard s).plan = s.plan ∧ (armGuard s).drive = s.drive ∧
    (armGuard s).track = s.track ∧ (armGuard s).gov = s.gov ∧ (armGuard s).blade = s.blade ∧
    (armGuard s).contact = s.contact ∧ (armGuard s).dock = s.dock ∧ (armGuard s).port = s.port ∧
    (armGuard s).notice = s.notice ∧ (armGuard s).mem = s.mem ∧ (armGuard s).pending = s.pending ∧
    (armGuard s).guard.machine = s.guard.machine ∧ (armGuard s).guard.trip = s.guard.trip ∧
    (armGuard s).guard.lift = s.guard.lift := by and_intros <;> rfl

@[simp] theorem takeArm_frame (s : State) :
    (takeArm s).timebase = s.timebase ∧ (takeArm s).partTime = s.partTime ∧
    (takeArm s).resetting = s.resetting ∧ (takeArm s).pins = s.pins ∧ (takeArm s).recv = s.recv ∧
    (takeArm s).drive = s.drive ∧ (takeArm s).track = s.track ∧ (takeArm s).gov = s.gov ∧
    (takeArm s).dock = s.dock ∧ (takeArm s).port = s.port ∧ (takeArm s).pending = s.pending ∧
    (takeArm s).guard.trip = s.guard.trip ∧ (takeArm s).guard.lift = s.guard.lift ∧
    (takeArm s).plan.standing = s.plan.standing ∧ (takeArm s).contact.list = s.contact.list ∧
    (takeArm s).contact.stage = s.contact.stage ∧ (takeArm s).contact.bump = s.contact.bump ∧
    (takeArm s).loops.windowTimer = s.loops.windowTimer ∧ (takeArm s).loops.checkFlag = s.loops.checkFlag := by simp [takeArm]

@[simp] theorem askArm_frame (count : BitVec 8) (s : State) :
    (askArm count s).timebase = s.timebase ∧ (askArm count s).partTime = s.partTime ∧
    (askArm count s).resetting = s.resetting ∧ (askArm count s).pins = s.pins ∧
    (askArm count s).recv = s.recv ∧ (askArm count s).drive = s.drive ∧ (askArm count s).track = s.track ∧
    (askArm count s).gov = s.gov ∧ (askArm count s).dock = s.dock ∧ (askArm count s).pending = s.pending ∧
    (askArm count s).guard.trip = s.guard.trip ∧ (askArm count s).guard.lift = s.guard.lift ∧
    (askArm count s).plan.standing = s.plan.standing ∧ (askArm count s).contact.list = s.contact.list ∧
    (askArm count s).contact.stage = s.contact.stage ∧ (askArm count s).contact.bump = s.contact.bump ∧
    (askArm count s).loops.windowTimer = s.loops.windowTimer ∧
    (askArm count s).loops.checkFlag = s.loops.checkFlag ∧ (askArm count s).port.inHand = s.port.inHand ∧
    (askArm count s).port.requestCount = s.port.requestCount := by
  unfold askArm
  split <;> simp

@[simp] theorem askDisarm_frame (count : BitVec 8) (s : State) :
    (askDisarm count s).timebase = s.timebase ∧ (askDisarm count s).partTime = s.partTime ∧
    (askDisarm count s).resetting = s.resetting ∧ (askDisarm count s).pins = s.pins ∧
    (askDisarm count s).recv = s.recv ∧ (askDisarm count s).loops = s.loops ∧ (askDisarm count s).gov = s.gov ∧
    (askDisarm count s).pending = s.pending ∧ (askDisarm count s).guard.trip = s.guard.trip ∧
    (askDisarm count s).guard.lift = s.guard.lift ∧ (askDisarm count s).plan.applied = s.plan.applied ∧
    (askDisarm count s).contact.bump = s.contact.bump ∧ (askDisarm count s).port.inHand = s.port.inHand ∧
    (askDisarm count s).port.requestCount = s.port.requestCount ∧ (askDisarm count s).dock.sense = s.dock.sense := by
  unfold askDisarm
  split <;> simp

@[simp] theorem takeClearTrip_frame (s : State) :
    (takeClearTrip s).timebase = s.timebase ∧ (takeClearTrip s).partTime = s.partTime ∧
    (takeClearTrip s).resetting = s.resetting ∧ (takeClearTrip s).pins = s.pins ∧
    (takeClearTrip s).recv = s.recv ∧ (takeClearTrip s).loops = s.loops ∧ (takeClearTrip s).drive = s.drive ∧
    (takeClearTrip s).track = s.track ∧ (takeClearTrip s).gov = s.gov ∧ (takeClearTrip s).contact = s.contact ∧
    (takeClearTrip s).dock = s.dock ∧ (takeClearTrip s).port = s.port ∧ (takeClearTrip s).notice = s.notice ∧
    (takeClearTrip s).pending = s.pending ∧ (takeClearTrip s).guard.lift = s.guard.lift ∧
    (takeClearTrip s).plan.applied = s.plan.applied ∧ (takeClearTrip s).plan.standing = s.plan.standing := by simp [takeClearTrip]

@[simp] theorem askClearTrip_frame (count : BitVec 8) (s : State) :
    (askClearTrip count s).timebase = s.timebase ∧ (askClearTrip count s).partTime = s.partTime ∧
    (askClearTrip count s).resetting = s.resetting ∧ (askClearTrip count s).pins = s.pins ∧
    (askClearTrip count s).recv = s.recv ∧ (askClearTrip count s).loops = s.loops ∧
    (askClearTrip count s).drive = s.drive ∧ (askClearTrip count s).track = s.track ∧
    (askClearTrip count s).gov = s.gov ∧ (askClearTrip count s).contact = s.contact ∧
    (askClearTrip count s).dock = s.dock ∧ (askClearTrip count s).pending = s.pending ∧
    (askClearTrip count s).guard.lift = s.guard.lift ∧ (askClearTrip count s).plan.applied = s.plan.applied ∧
    (askClearTrip count s).plan.standing = s.plan.standing ∧
    (askClearTrip count s).port.inHand = s.port.inHand ∧
    (askClearTrip count s).port.requestCount = s.port.requestCount := by
  unfold askClearTrip
  (repeat' split) <;> simp_all

@[simp] theorem takePlanStart_frame (h : Slot) (s : State) :
    (takePlanStart h s).timebase = s.timebase ∧ (takePlanStart h s).partTime = s.partTime ∧
    (takePlanStart h s).resetting = s.resetting ∧ (takePlanStart h s).pins = s.pins ∧
    (takePlanStart h s).recv = s.recv ∧ (takePlanStart h s).gov = s.gov ∧
    (takePlanStart h s).contact = s.contact ∧ (takePlanStart h s).port = s.port ∧
    (takePlanStart h s).pending = s.pending ∧ (takePlanStart h s).guard.machine = s.guard.machine ∧
    (takePlanStart h s).guard.trip = s.guard.trip ∧ (takePlanStart h s).guard.lift = s.guard.lift ∧
    (takePlanStart h s).drive.wheels = s.drive.wheels ∧
    (takePlanStart h s).loops.windowTimer = s.loops.windowTimer ∧
    (takePlanStart h s).loops.checkFlag = s.loops.checkFlag ∧ (takePlanStart h s).dock.sense = s.dock.sense := by
  unfold takePlanStart
  dsimp only
  (repeat' split) <;> simp_all

@[simp] theorem askPlanStart_frame (count : BitVec 8) (s : State) :
    (askPlanStart count s).timebase = s.timebase ∧ (askPlanStart count s).partTime = s.partTime ∧
    (askPlanStart count s).resetting = s.resetting ∧ (askPlanStart count s).pins = s.pins ∧
    (askPlanStart count s).recv = s.recv ∧ (askPlanStart count s).gov = s.gov ∧
    (askPlanStart count s).contact = s.contact ∧ (askPlanStart count s).pending = s.pending ∧
    (askPlanStart count s).guard.machine = s.guard.machine ∧ (askPlanStart count s).guard.trip = s.guard.trip ∧
    (askPlanStart count s).guard.lift = s.guard.lift ∧ (askPlanStart count s).drive.wheels = s.drive.wheels ∧
    (askPlanStart count s).loops.windowTimer = s.loops.windowTimer ∧
    (askPlanStart count s).loops.checkFlag = s.loops.checkFlag ∧
    (askPlanStart count s).port.inHand = s.port.inHand ∧
    (askPlanStart count s).port.requestCount = s.port.requestCount ∧
    (askPlanStart count s).dock.sense = s.dock.sense := by
  unfold askPlanStart
  (repeat' split) <;> simp_all

@[simp] theorem takePlanStop_frame (s : State) :
    (takePlanStop s).timebase = s.timebase ∧ (takePlanStop s).partTime = s.partTime ∧
    (takePlanStop s).resetting = s.resetting ∧ (takePlanStop s).pins = s.pins ∧
    (takePlanStop s).recv = s.recv ∧ (takePlanStop s).loops = s.loops ∧ (takePlanStop s).gov = s.gov ∧
    (takePlanStop s).contact = s.contact ∧ (takePlanStop s).guard = s.guard ∧ (takePlanStop s).port = s.port ∧
    (takePlanStop s).pending = s.pending ∧ (takePlanStop s).plan.applied = s.plan.applied ∧
    (takePlanStop s).drive.wheels = s.drive.wheels ∧ (takePlanStop s).dock.sense = s.dock.sense := by
  unfold takePlanStop
  split <;> simp

@[simp] theorem askPlanStop_frame (count : BitVec 8) (s : State) :
    (askPlanStop count s).timebase = s.timebase ∧ (askPlanStop count s).partTime = s.partTime ∧
    (askPlanStop count s).resetting = s.resetting ∧ (askPlanStop count s).pins = s.pins ∧
    (askPlanStop count s).recv = s.recv ∧ (askPlanStop count s).loops = s.loops ∧
    (askPlanStop count s).gov = s.gov ∧ (askPlanStop count s).contact = s.contact ∧
    (askPlanStop count s).guard = s.guard ∧ (askPlanStop count s).pending = s.pending ∧
    (askPlanStop count s).plan.applied = s.plan.applied ∧ (askPlanStop count s).drive.wheels = s.drive.wheels ∧
    (askPlanStop count s).port.inHand = s.port.inHand ∧
    (askPlanStop count s).port.requestCount = s.port.requestCount ∧
    (askPlanStop count s).dock.sense = s.dock.sense := by simp [askPlanStop]

@[simp] theorem takeSetPose_frame (s : State) :
    (takeSetPose s).timebase = s.timebase ∧ (takeSetPose s).partTime = s.partTime ∧
    (takeSetPose s).resetting = s.resetting ∧ (takeSetPose s).pins = s.pins ∧ (takeSetPose s).recv = s.recv ∧
    (takeSetPose s).loops = s.loops ∧ (takeSetPose s).plan = s.plan ∧ (takeSetPose s).track = s.track ∧
    (takeSetPose s).gov = s.gov ∧ (takeSetPose s).blade = s.blade ∧ (takeSetPose s).contact = s.contact ∧
    (takeSetPose s).guard = s.guard ∧ (takeSetPose s).dock = s.dock ∧ (takeSetPose s).port = s.port ∧
    (takeSetPose s).notice = s.notice ∧ (takeSetPose s).mem = s.mem ∧ (takeSetPose s).pending = s.pending ∧
    (takeSetPose s).drive.wheels = s.drive.wheels := by and_intros <;> rfl

@[simp] theorem askSetPose_frame (count : BitVec 8) (s : State) :
    (askSetPose count s).timebase = s.timebase ∧ (askSetPose count s).partTime = s.partTime ∧
    (askSetPose count s).resetting = s.resetting ∧ (askSetPose count s).pins = s.pins ∧
    (askSetPose count s).recv = s.recv ∧ (askSetPose count s).loops = s.loops ∧
    (askSetPose count s).plan = s.plan ∧ (askSetPose count s).track = s.track ∧
    (askSetPose count s).gov = s.gov ∧ (askSetPose count s).blade = s.blade ∧
    (askSetPose count s).contact = s.contact ∧ (askSetPose count s).guard = s.guard ∧
    (askSetPose count s).dock = s.dock ∧ (askSetPose count s).pending = s.pending ∧
    (askSetPose count s).drive.wheels = s.drive.wheels ∧ (askSetPose count s).port.inHand = s.port.inHand ∧
    (askSetPose count s).port.requestCount = s.port.requestCount := by simp [askSetPose]

@[simp] theorem askClearContacts_frame (count : BitVec 8) (s : State) :
    (askClearContacts count s).timebase = s.timebase ∧ (askClearContacts count s).partTime = s.partTime ∧
    (askClearContacts count s).resetting = s.resetting ∧ (askClearContacts count s).pins = s.pins ∧
    (askClearContacts count s).recv = s.recv ∧ (askClearContacts count s).loops = s.loops ∧
    (askClearContacts count s).plan = s.plan ∧ (askClearContacts count s).drive = s.drive ∧
    (askClearContacts count s).track = s.track ∧ (askClearContacts count s).gov = s.gov ∧
    (askClearContacts count s).blade = s.blade ∧ (askClearContacts count s).guard = s.guard ∧
    (askClearContacts count s).dock = s.dock ∧ (askClearContacts count s).pending = s.pending ∧
    (askClearContacts count s).contact.stage = s.contact.stage ∧
    (askClearContacts count s).contact.bump = s.contact.bump ∧
    (askClearContacts count s).port.inHand = s.port.inHand ∧
    (askClearContacts count s).port.requestCount = s.port.requestCount := by simp [askClearContacts]

@[simp] theorem askBladeUnlock_frame (count : BitVec 8) (s : State) :
    (askBladeUnlock count s).timebase = s.timebase ∧ (askBladeUnlock count s).partTime = s.partTime ∧
    (askBladeUnlock count s).resetting = s.resetting ∧ (askBladeUnlock count s).pins = s.pins ∧
    (askBladeUnlock count s).recv = s.recv ∧ (askBladeUnlock count s).loops = s.loops ∧
    (askBladeUnlock count s).drive = s.drive ∧ (askBladeUnlock count s).track = s.track ∧
    (askBladeUnlock count s).gov = s.gov ∧ (askBladeUnlock count s).contact = s.contact ∧
    (askBladeUnlock count s).guard = s.guard ∧ (askBladeUnlock count s).dock = s.dock ∧
    (askBladeUnlock count s).pending = s.pending ∧ (askBladeUnlock count s).plan.applied = s.plan.applied ∧
    (askBladeUnlock count s).plan.standing = s.plan.standing ∧
    (askBladeUnlock count s).port.inHand = s.port.inHand ∧
    (askBladeUnlock count s).port.requestCount = s.port.requestCount := by
  unfold askBladeUnlock
  split <;> simp

@[simp] theorem askPark_frame (count : BitVec 8) (s : State) :
    (askPark count s).timebase = s.timebase ∧ (askPark count s).partTime = s.partTime ∧
    (askPark count s).resetting = s.resetting ∧ (askPark count s).pins = s.pins ∧
    (askPark count s).recv = s.recv ∧ (askPark count s).gov = s.gov ∧ (askPark count s).pending = s.pending ∧
    (askPark count s).guard.trip = s.guard.trip ∧ (askPark count s).guard.lift = s.guard.lift ∧
    (askPark count s).plan.applied = s.plan.applied ∧ (askPark count s).contact.bump = s.contact.bump ∧
    (askPark count s).loops.checkFlag = s.loops.checkFlag ∧ (askPark count s).port.inHand = s.port.inHand ∧
    (askPark count s).port.requestCount = s.port.requestCount ∧ (askPark count s).dock.sense = s.dock.sense := by
  unfold askPark
  split <;> simp

@[simp] theorem askWake_frame (count : BitVec 8) (s : State) :
    (askWake count s).timebase = s.timebase ∧ (askWake count s).partTime = s.partTime ∧
    (askWake count s).resetting = s.resetting ∧ (askWake count s).pins = s.pins ∧
    (askWake count s).recv = s.recv ∧ (askWake count s).drive = s.drive ∧ (askWake count s).track = s.track ∧
    (askWake count s).gov = s.gov ∧ (askWake count s).contact = s.contact ∧
    (askWake count s).pending = s.pending ∧ (askWake count s).guard.trip = s.guard.trip ∧
    (askWake count s).guard.lift = s.guard.lift ∧ (askWake count s).plan.applied = s.plan.applied ∧
    (askWake count s).plan.standing = s.plan.standing ∧ (askWake count s).loops.checkFlag = s.loops.checkFlag ∧
    (askWake count s).port.inHand = s.port.inHand ∧ (askWake count s).port.requestCount = s.port.requestCount ∧
    (askWake count s).dock.sense = s.dock.sense := by
  unfold askWake
  split <;> simp

@[simp] theorem askSelfCheck_frame (count : BitVec 8) (s : State) :
    (askSelfCheck count s).timebase = s.timebase ∧ (askSelfCheck count s).partTime = s.partTime ∧
    (askSelfCheck count s).resetting = s.resetting ∧ (askSelfCheck count s).pins = s.pins ∧
    (askSelfCheck count s).plan = s.plan ∧ (askSelfCheck count s).drive = s.drive ∧
    (askSelfCheck count s).track = s.track ∧ (askSelfCheck count s).gov = s.gov ∧
    (askSelfCheck count s).blade = s.blade ∧ (askSelfCheck count s).contact = s.contact ∧
    (askSelfCheck count s).guard = s.guard ∧ (askSelfCheck count s).dock = s.dock ∧
    (askSelfCheck count s).pending = s.pending ∧ (askSelfCheck count s).loops.recs = s.loops.recs ∧
    (askSelfCheck count s).loops.windowTimer = s.loops.windowTimer ∧
    (askSelfCheck count s).port.requestCount = s.port.requestCount := by
  unfold askSelfCheck
  split <;> simp

@[simp] theorem endForRestart_frame (s : State) :
    (endForRestart s).timebase = s.timebase ∧ (endForRestart s).partTime = s.partTime ∧
    (endForRestart s).resetting = s.resetting ∧ (endForRestart s).pins = s.pins ∧
    (endForRestart s).recv = s.recv ∧ (endForRestart s).loops = s.loops ∧ (endForRestart s).gov = s.gov ∧
    (endForRestart s).contact = s.contact ∧ (endForRestart s).guard = s.guard ∧
    (endForRestart s).port = s.port ∧ (endForRestart s).pending = s.pending ∧
    (endForRestart s).plan.applied = s.plan.applied ∧ (endForRestart s).drive.wheels = s.drive.wheels ∧
    (endForRestart s).dock.sense = s.dock.sense := by
  unfold endForRestart
  split <;> simp

@[simp] theorem blocksAfterRestart_frame (count : BitVec 8) (s : State) :
    (blocksAfterRestart count s).timebase = s.timebase ∧ (blocksAfterRestart count s).partTime = s.partTime ∧
    (blocksAfterRestart count s).resetting = s.resetting ∧ (blocksAfterRestart count s).pins = s.pins ∧
    (blocksAfterRestart count s).gov = s.gov ∧ (blocksAfterRestart count s).mem = s.mem ∧
    (blocksAfterRestart count s).pending = s.pending := by and_intros <;> rfl

@[simp] theorem startAll_frame (s : State) :
    (startAll s).timebase = s.timebase ∧ (startAll s).partTime = s.partTime ∧
    (startAll s).resetting = s.resetting ∧ (startAll s).pins = s.pins ∧ (startAll s).recv = s.recv ∧
    (startAll s).loops = s.loops ∧ (startAll s).plan = s.plan ∧ (startAll s).drive = s.drive ∧
    (startAll s).track = s.track ∧ (startAll s).gov = s.gov ∧ (startAll s).blade = s.blade ∧
    (startAll s).contact = s.contact ∧ (startAll s).guard = s.guard ∧ (startAll s).dock = s.dock ∧
    (startAll s).notice = s.notice ∧ (startAll s).pending = s.pending := by simp [startAll]

@[simp] theorem takeRestart_frame (count : BitVec 8) (s : State) :
    (takeRestart count s).timebase = s.timebase ∧ (takeRestart count s).partTime = s.partTime ∧
    (takeRestart count s).resetting = s.resetting ∧ (takeRestart count s).pins = s.pins ∧
    (takeRestart count s).gov = s.gov ∧ (takeRestart count s).pending = s.pending := by simp [takeRestart]

@[simp] theorem askOwner_frame (code : Word) (count : BitVec 8) (s : State) :
    (askOwner code count s).timebase = s.timebase ∧ (askOwner code count s).partTime = s.partTime ∧
    (askOwner code count s).resetting = s.resetting ∧ (askOwner code count s).pins = s.pins ∧
    (askOwner code count s).gov = s.gov ∧ (askOwner code count s).pending = s.pending := by
  unfold askOwner
  split <;> simp

@[simp] theorem judgeRequest_frame (code : Word) (count : BitVec 8) (s : State) :
    (judgeRequest code count s).timebase = s.timebase ∧ (judgeRequest code count s).partTime = s.partTime ∧
    (judgeRequest code count s).resetting = s.resetting ∧ (judgeRequest code count s).pins = s.pins ∧
    (judgeRequest code count s).gov = s.gov ∧ (judgeRequest code count s).pending = s.pending := by
  unfold judgeRequest
  (repeat' split) <;> simp_all

@[simp] theorem takeArrival_frame (code : Word) (s : State) :
    (takeArrival code s).timebase = s.timebase ∧ (takeArrival code s).partTime = s.partTime ∧
    (takeArrival code s).resetting = s.resetting ∧ (takeArrival code s).pins = s.pins ∧
    (takeArrival code s).recv = s.recv ∧ (takeArrival code s).loops = s.loops ∧
    (takeArrival code s).plan = s.plan ∧ (takeArrival code s).drive = s.drive ∧
    (takeArrival code s).track = s.track ∧ (takeArrival code s).gov = s.gov ∧
    (takeArrival code s).blade = s.blade ∧ (takeArrival code s).contact = s.contact ∧
    (takeArrival code s).guard = s.guard ∧ (takeArrival code s).dock = s.dock ∧
    (takeArrival code s).notice = s.notice ∧ (takeArrival code s).pending = s.pending ∧
    (takeArrival code s).port.inHand = s.port.inHand ∧ (takeArrival code s).port.answer = s.port.answer := by and_intros <;> rfl

@[simp] theorem arrival_frame (code : Word) (s : State) :
    (arrival code s).timebase = s.timebase ∧ (arrival code s).partTime = s.partTime ∧
    (arrival code s).resetting = s.resetting ∧ (arrival code s).pins = s.pins ∧ (arrival code s).gov = s.gov ∧
    (arrival code s).pending = s.pending := by simp [arrival]

@[simp] theorem State.requestEvent_frame (s : State) (code : Word) :
    (State.requestEvent s code).timebase = s.timebase ∧ (State.requestEvent s code).partTime = s.partTime ∧
    (State.requestEvent s code).resetting = s.resetting ∧ (State.requestEvent s code).pins = s.pins ∧
    (State.requestEvent s code).gov = s.gov ∧ (State.requestEvent s code).pending = s.pending := by
  unfold State.requestEvent State.whenRunning
  split
  · simp only [State.noting_frame]
    split <;> simp
  · simp

@[simp] theorem beginReset_frame (cause : ResetCause) (s : State) :
    (beginReset cause s).timebase = s.timebase ∧ (beginReset cause s).partTime = s.partTime ∧
    (beginReset cause s).pins = s.pins ∧ (beginReset cause s).recv = s.recv ∧
    (beginReset cause s).loops = s.loops ∧ (beginReset cause s).plan = s.plan ∧
    (beginReset cause s).drive = s.drive ∧ (beginReset cause s).track = s.track ∧
    (beginReset cause s).gov = s.gov ∧ (beginReset cause s).blade = s.blade ∧
    (beginReset cause s).contact = s.contact ∧ (beginReset cause s).guard = s.guard ∧
    (beginReset cause s).dock = s.dock ∧ (beginReset cause s).port = s.port ∧
    (beginReset cause s).mem = s.mem ∧ (beginReset cause s).pending = s.pending ∧
    (beginReset cause s).notice.atnEnable = s.notice.atnEnable := by and_intros <;> rfl

@[simp] theorem beginUnlessResetting_frame (cause : ResetCause) (s : State) :
    (beginUnlessResetting cause s).timebase = s.timebase ∧
    (beginUnlessResetting cause s).partTime = s.partTime ∧ (beginUnlessResetting cause s).pins = s.pins ∧
    (beginUnlessResetting cause s).recv = s.recv ∧ (beginUnlessResetting cause s).loops = s.loops ∧
    (beginUnlessResetting cause s).plan = s.plan ∧ (beginUnlessResetting cause s).drive = s.drive ∧
    (beginUnlessResetting cause s).track = s.track ∧ (beginUnlessResetting cause s).gov = s.gov ∧
    (beginUnlessResetting cause s).blade = s.blade ∧ (beginUnlessResetting cause s).contact = s.contact ∧
    (beginUnlessResetting cause s).guard = s.guard ∧ (beginUnlessResetting cause s).dock = s.dock ∧
    (beginUnlessResetting cause s).port = s.port ∧ (beginUnlessResetting cause s).mem = s.mem ∧
    (beginUnlessResetting cause s).pending = s.pending ∧
    (beginUnlessResetting cause s).notice.atnEnable = s.notice.atnEnable := by
  unfold beginUnlessResetting
  split <;> simp

@[simp] theorem endReset_frame (s : State) :
    (endReset s).pins = s.pins ∧ (endReset s).pending = s.pending := by
  unfold endReset
  split <;> simp [State.initial]

end Sys2Proof.Machine
end

