-- ==== Sys2Proof/Laws/FramePortCore.lean ====
section
/-! SUPPORT. What each operation of Machine/PortCore.lean leaves unchanged. -/

namespace Sys2Proof.Machine

@[simp] theorem State.atTime_frame (s : State) (t : Capture) :
    (State.atTime s t).partTime = s.partTime ∧ (State.atTime s t).resetting = s.resetting ∧
    (State.atTime s t).pins = s.pins ∧ (State.atTime s t).recv = s.recv ∧ (State.atTime s t).loops = s.loops ∧
    (State.atTime s t).plan = s.plan ∧ (State.atTime s t).drive = s.drive ∧
    (State.atTime s t).track = s.track ∧ (State.atTime s t).gov = s.gov ∧ (State.atTime s t).blade = s.blade ∧
    (State.atTime s t).contact = s.contact ∧ (State.atTime s t).guard = s.guard ∧
    (State.atTime s t).dock = s.dock ∧ (State.atTime s t).port = s.port ∧
    (State.atTime s t).notice = s.notice ∧ (State.atTime s t).mem = s.mem ∧
    (State.atTime s t).pending = s.pending := by and_intros <;> rfl

@[simp] theorem tick_frame (s : State) :
    (tick s).resetting = s.resetting ∧ (tick s).pins = s.pins ∧ (tick s).recv = s.recv ∧
    (tick s).loops = s.loops ∧ (tick s).plan = s.plan ∧ (tick s).drive = s.drive ∧ (tick s).track = s.track ∧
    (tick s).gov = s.gov ∧ (tick s).blade = s.blade ∧ (tick s).contact = s.contact ∧ (tick s).guard = s.guard ∧
    (tick s).dock = s.dock ∧ (tick s).port = s.port ∧ (tick s).notice = s.notice ∧ (tick s).pending = s.pending := by and_intros <;> rfl

@[simp] theorem writeNext_frame (m : Mirror) (s : State) :
    (writeNext m s).timebase = s.timebase ∧ (writeNext m s).partTime = s.partTime ∧
    (writeNext m s).resetting = s.resetting ∧ (writeNext m s).pins = s.pins ∧ (writeNext m s).recv = s.recv ∧
    (writeNext m s).loops = s.loops ∧ (writeNext m s).plan = s.plan ∧ (writeNext m s).drive = s.drive ∧
    (writeNext m s).track = s.track ∧ (writeNext m s).gov = s.gov ∧ (writeNext m s).blade = s.blade ∧
    (writeNext m s).contact = s.contact ∧ (writeNext m s).guard = s.guard ∧ (writeNext m s).dock = s.dock ∧
    (writeNext m s).notice = s.notice ∧ (writeNext m s).pending = s.pending ∧
    (writeNext m s).causes = s.causes ∧ (writeNext m s).port.faults = s.port.faults ∧
    (writeNext m s).port.requestCount = s.port.requestCount ∧ (writeNext m s).port.inHand = s.port.inHand ∧
    (writeNext m s).port.args = s.port.args ∧ (writeNext m s).port.answer = s.port.answer ∧
    (writeNext m s).port.snapTimer = s.port.snapTimer ∧ (writeNext m s).port.latched = s.port.latched ∧
    (writeNext m s).port.dataLines = s.port.dataLines := by
  unfold writeNext
  split <;> cases m <;> simp [Port.setRefresh]

@[simp] theorem microsecond_frame (s : State) :
    (microsecond s).partTime = s.partTime ∧ (microsecond s).resetting = s.resetting ∧
    (microsecond s).pins = s.pins ∧ (microsecond s).recv = s.recv ∧ (microsecond s).loops = s.loops ∧
    (microsecond s).plan = s.plan ∧ (microsecond s).drive = s.drive ∧ (microsecond s).track = s.track ∧
    (microsecond s).gov = s.gov ∧ (microsecond s).blade = s.blade ∧ (microsecond s).contact = s.contact ∧
    (microsecond s).guard = s.guard ∧ (microsecond s).dock = s.dock ∧ (microsecond s).notice = s.notice ∧
    (microsecond s).pending = s.pending ∧ (microsecond s).causes = s.causes ∧
    (microsecond s).port.faults = s.port.faults ∧ (microsecond s).port.requestCount = s.port.requestCount ∧
    (microsecond s).port.inHand = s.port.inHand ∧ (microsecond s).port.args = s.port.args ∧
    (microsecond s).port.answer = s.port.answer ∧ (microsecond s).port.snapTimer = s.port.snapTimer ∧
    (microsecond s).port.latched = s.port.latched ∧ (microsecond s).port.dataLines = s.port.dataLines := by
  simp [microsecond]

@[simp] theorem idle_frame (s : State) :
    (idle s).partTime = s.partTime ∧ (idle s).resetting = s.resetting ∧ (idle s).pins = s.pins ∧
    (idle s).recv = s.recv ∧ (idle s).loops = s.loops ∧ (idle s).plan = s.plan ∧ (idle s).drive = s.drive ∧
    (idle s).track = s.track ∧ (idle s).gov = s.gov ∧ (idle s).blade = s.blade ∧ (idle s).contact = s.contact ∧
    (idle s).guard = s.guard ∧ (idle s).dock = s.dock ∧ (idle s).notice = s.notice ∧
    (idle s).pending = s.pending ∧ (idle s).causes = s.causes ∧ (idle s).port.faults = s.port.faults ∧
    (idle s).port.requestCount = s.port.requestCount ∧ (idle s).port.inHand = s.port.inHand ∧
    (idle s).port.args = s.port.args ∧ (idle s).port.answer = s.port.answer ∧
    (idle s).port.snapTimer = s.port.snapTimer ∧ (idle s).port.latched = s.port.latched ∧
    (idle s).port.dataLines = s.port.dataLines := by
  unfold idle State.whenRunning
  split <;> simp

@[simp] theorem dropWrite_frame (a : Nat) (s : State) :
    (dropWrite a s).timebase = s.timebase ∧ (dropWrite a s).partTime = s.partTime ∧
    (dropWrite a s).resetting = s.resetting ∧ (dropWrite a s).pins = s.pins ∧ (dropWrite a s).recv = s.recv ∧
    (dropWrite a s).loops = s.loops ∧ (dropWrite a s).plan = s.plan ∧ (dropWrite a s).drive = s.drive ∧
    (dropWrite a s).track = s.track ∧ (dropWrite a s).gov = s.gov ∧ (dropWrite a s).blade = s.blade ∧
    (dropWrite a s).contact = s.contact ∧ (dropWrite a s).guard = s.guard ∧ (dropWrite a s).dock = s.dock ∧
    (dropWrite a s).pending = s.pending ∧ (dropWrite a s).port.inHand = s.port.inHand ∧
    (dropWrite a s).port.answer = s.port.answer ∧ (dropWrite a s).port.requestCount = s.port.requestCount := by simp [dropWrite]

@[simp] theorem heartbeat_frame (v : Word) (s : State) :
    (heartbeat v s).timebase = s.timebase ∧ (heartbeat v s).partTime = s.partTime ∧
    (heartbeat v s).resetting = s.resetting ∧ (heartbeat v s).pins = s.pins ∧ (heartbeat v s).recv = s.recv ∧
    (heartbeat v s).loops = s.loops ∧ (heartbeat v s).plan = s.plan ∧ (heartbeat v s).drive = s.drive ∧
    (heartbeat v s).track = s.track ∧ (heartbeat v s).gov = s.gov ∧ (heartbeat v s).blade = s.blade ∧
    (heartbeat v s).contact = s.contact ∧ (heartbeat v s).dock = s.dock ∧ (heartbeat v s).port = s.port ∧
    (heartbeat v s).notice = s.notice ∧ (heartbeat v s).pending = s.pending ∧
    (heartbeat v s).guard.machine = s.guard.machine ∧ (heartbeat v s).guard.trip = s.guard.trip ∧
    (heartbeat v s).guard.lift = s.guard.lift := by
  unfold heartbeat
  split <;> simp

@[simp] theorem writeLive_frame (a : Nat) (v : Word) (s : State) :
    (writeLive a v s).timebase = s.timebase ∧ (writeLive a v s).partTime = s.partTime ∧
    (writeLive a v s).resetting = s.resetting ∧ (writeLive a v s).pins = s.pins ∧
    (writeLive a v s).recv = s.recv ∧ (writeLive a v s).loops = s.loops ∧ (writeLive a v s).plan = s.plan ∧
    (writeLive a v s).drive = s.drive ∧ (writeLive a v s).track = s.track ∧ (writeLive a v s).gov = s.gov ∧
    (writeLive a v s).blade = s.blade ∧ (writeLive a v s).contact = s.contact ∧
    (writeLive a v s).guard = s.guard ∧ (writeLive a v s).dock = s.dock ∧ (writeLive a v s).port = s.port ∧
    (writeLive a v s).pending = s.pending ∧ (writeLive a v s).notice.atnEnable = s.notice.atnEnable := by
  unfold writeLive
  split <;> simp

@[simp] theorem endService_frame (s : State) :
    (endService s).timebase = s.timebase ∧ (endService s).partTime = s.partTime ∧
    (endService s).resetting = s.resetting ∧ (endService s).pins = s.pins ∧ (endService s).recv = s.recv ∧
    (endService s).loops = s.loops ∧ (endService s).plan = s.plan ∧ (endService s).drive = s.drive ∧
    (endService s).track = s.track ∧ (endService s).gov = s.gov ∧ (endService s).blade = s.blade ∧
    (endService s).contact = s.contact ∧ (endService s).guard = s.guard ∧ (endService s).dock = s.dock ∧
    (endService s).port = s.port ∧ (endService s).pending = s.pending := by
  unfold endService
  split <;> simp

@[simp] theorem clearSource_frame (src : Source) (s : State) :
    (clearSource src s).timebase = s.timebase ∧ (clearSource src s).partTime = s.partTime ∧
    (clearSource src s).resetting = s.resetting ∧ (clearSource src s).pins = s.pins ∧
    (clearSource src s).recv = s.recv ∧ (clearSource src s).loops = s.loops ∧
    (clearSource src s).plan = s.plan ∧ (clearSource src s).drive = s.drive ∧
    (clearSource src s).track = s.track ∧ (clearSource src s).gov = s.gov ∧
    (clearSource src s).blade = s.blade ∧ (clearSource src s).contact = s.contact ∧
    (clearSource src s).guard = s.guard ∧ (clearSource src s).dock = s.dock ∧
    (clearSource src s).port = s.port ∧ (clearSource src s).pending = s.pending := by and_intros <;> rfl

@[simp] theorem serviceNumber_frame (v : Word) (s : State) :
    (serviceNumber v s).timebase = s.timebase ∧ (serviceNumber v s).partTime = s.partTime ∧
    (serviceNumber v s).resetting = s.resetting ∧ (serviceNumber v s).pins = s.pins ∧
    (serviceNumber v s).recv = s.recv ∧ (serviceNumber v s).loops = s.loops ∧
    (serviceNumber v s).plan = s.plan ∧ (serviceNumber v s).drive = s.drive ∧
    (serviceNumber v s).track = s.track ∧ (serviceNumber v s).gov = s.gov ∧
    (serviceNumber v s).blade = s.blade ∧ (serviceNumber v s).contact = s.contact ∧
    (serviceNumber v s).guard = s.guard ∧ (serviceNumber v s).dock = s.dock ∧
    (serviceNumber v s).port = s.port ∧ (serviceNumber v s).pending = s.pending := by
  unfold serviceNumber
  split <;> simp

@[simp] theorem writeService_frame (v : Word) (s : State) :
    (writeService v s).timebase = s.timebase ∧ (writeService v s).partTime = s.partTime ∧
    (writeService v s).resetting = s.resetting ∧ (writeService v s).pins = s.pins ∧
    (writeService v s).recv = s.recv ∧ (writeService v s).loops = s.loops ∧ (writeService v s).plan = s.plan ∧
    (writeService v s).drive = s.drive ∧ (writeService v s).track = s.track ∧ (writeService v s).gov = s.gov ∧
    (writeService v s).blade = s.blade ∧ (writeService v s).contact = s.contact ∧
    (writeService v s).guard = s.guard ∧ (writeService v s).dock = s.dock ∧ (writeService v s).port = s.port ∧
    (writeService v s).pending = s.pending := by
  unfold writeService
  split <;> simp

@[simp] theorem writePortctl_frame (v : Word) (s : State) :
    (writePortctl v s).timebase = s.timebase ∧ (writePortctl v s).partTime = s.partTime ∧
    (writePortctl v s).resetting = s.resetting ∧ (writePortctl v s).pins = s.pins ∧
    (writePortctl v s).recv = s.recv ∧ (writePortctl v s).loops = s.loops ∧ (writePortctl v s).plan = s.plan ∧
    (writePortctl v s).drive = s.drive ∧ (writePortctl v s).track = s.track ∧ (writePortctl v s).gov = s.gov ∧
    (writePortctl v s).blade = s.blade ∧ (writePortctl v s).contact = s.contact ∧
    (writePortctl v s).guard = s.guard ∧ (writePortctl v s).dock = s.dock ∧ (writePortctl v s).port = s.port ∧
    (writePortctl v s).mem = s.mem ∧ (writePortctl v s).pending = s.pending := by and_intros <;> rfl

@[simp] theorem acknowledge_frame (src : Source) (s : State) :
    (acknowledge src s).timebase = s.timebase ∧ (acknowledge src s).partTime = s.partTime ∧
    (acknowledge src s).resetting = s.resetting ∧ (acknowledge src s).pins = s.pins ∧
    (acknowledge src s).recv = s.recv ∧ (acknowledge src s).loops = s.loops ∧
    (acknowledge src s).plan = s.plan ∧ (acknowledge src s).drive = s.drive ∧
    (acknowledge src s).track = s.track ∧ (acknowledge src s).gov = s.gov ∧
    (acknowledge src s).blade = s.blade ∧ (acknowledge src s).contact = s.contact ∧
    (acknowledge src s).guard = s.guard ∧ (acknowledge src s).dock = s.dock ∧
    (acknowledge src s).port = s.port ∧ (acknowledge src s).pending = s.pending := by and_intros <;> rfl

@[simp] theorem driveLines_frame (w : Word) (s : State) :
    (driveLines w s).timebase = s.timebase ∧ (driveLines w s).partTime = s.partTime ∧
    (driveLines w s).resetting = s.resetting ∧ (driveLines w s).pins = s.pins ∧
    (driveLines w s).recv = s.recv ∧ (driveLines w s).loops = s.loops ∧ (driveLines w s).plan = s.plan ∧
    (driveLines w s).drive = s.drive ∧ (driveLines w s).track = s.track ∧ (driveLines w s).gov = s.gov ∧
    (driveLines w s).blade = s.blade ∧ (driveLines w s).contact = s.contact ∧
    (driveLines w s).guard = s.guard ∧ (driveLines w s).dock = s.dock ∧ (driveLines w s).notice = s.notice ∧
    (driveLines w s).mem = s.mem ∧ (driveLines w s).pending = s.pending ∧
    (driveLines w s).port.inHand = s.port.inHand ∧ (driveLines w s).port.answer = s.port.answer ∧
    (driveLines w s).port.requestCount = s.port.requestCount := by and_intros <;> rfl

@[simp] theorem readAttention_frame (s : State) :
    (readAttention s).timebase = s.timebase ∧ (readAttention s).partTime = s.partTime ∧
    (readAttention s).resetting = s.resetting ∧ (readAttention s).pins = s.pins ∧
    (readAttention s).recv = s.recv ∧ (readAttention s).loops = s.loops ∧ (readAttention s).plan = s.plan ∧
    (readAttention s).drive = s.drive ∧ (readAttention s).track = s.track ∧ (readAttention s).gov = s.gov ∧
    (readAttention s).blade = s.blade ∧ (readAttention s).contact = s.contact ∧
    (readAttention s).guard = s.guard ∧ (readAttention s).dock = s.dock ∧
    (readAttention s).pending = s.pending ∧ (readAttention s).port.inHand = s.port.inHand ∧
    (readAttention s).port.answer = s.port.answer ∧ (readAttention s).port.requestCount = s.port.requestCount := by
  unfold readAttention
  split
  · simp
  · split <;> simp

@[simp] theorem attentionAccess_frame (s : State) :
    (attentionAccess s).timebase = s.timebase ∧ (attentionAccess s).partTime = s.partTime ∧
    (attentionAccess s).resetting = s.resetting ∧ (attentionAccess s).pins = s.pins ∧
    (attentionAccess s).recv = s.recv ∧ (attentionAccess s).loops = s.loops ∧
    (attentionAccess s).plan = s.plan ∧ (attentionAccess s).drive = s.drive ∧
    (attentionAccess s).track = s.track ∧ (attentionAccess s).gov = s.gov ∧
    (attentionAccess s).blade = s.blade ∧ (attentionAccess s).contact = s.contact ∧
    (attentionAccess s).guard = s.guard ∧ (attentionAccess s).dock = s.dock ∧
    (attentionAccess s).pending = s.pending ∧ (attentionAccess s).port.inHand = s.port.inHand ∧
    (attentionAccess s).port.answer = s.port.answer ∧
    (attentionAccess s).port.requestCount = s.port.requestCount := by
  unfold attentionAccess hostReadEvent readEffect
  split <;> simp

@[simp] theorem writeRegister_frame (a : Nat) (v : Word) (s : State) :
    (writeRegister a v s).timebase = s.timebase ∧ (writeRegister a v s).partTime = s.partTime ∧
    (writeRegister a v s).resetting = s.resetting ∧ (writeRegister a v s).pins = s.pins ∧
    (writeRegister a v s).recv = s.recv ∧ (writeRegister a v s).loops = s.loops ∧
    (writeRegister a v s).plan = s.plan ∧ (writeRegister a v s).drive = s.drive ∧
    (writeRegister a v s).track = s.track ∧ (writeRegister a v s).gov = s.gov ∧
    (writeRegister a v s).blade = s.blade ∧ (writeRegister a v s).contact = s.contact ∧
    (writeRegister a v s).guard = s.guard ∧ (writeRegister a v s).dock = s.dock ∧
    (writeRegister a v s).port = s.port ∧ (writeRegister a v s).pending = s.pending := by
  unfold writeRegister
  (repeat' split) <;> simp_all

@[simp] theorem hostWrite_frame (a : Nat) (v : Word) (s : State) :
    (hostWrite a v s).timebase = s.timebase ∧ (hostWrite a v s).partTime = s.partTime ∧
    (hostWrite a v s).resetting = s.resetting ∧ (hostWrite a v s).pins = s.pins ∧
    (hostWrite a v s).recv = s.recv ∧ (hostWrite a v s).loops = s.loops ∧ (hostWrite a v s).plan = s.plan ∧
    (hostWrite a v s).drive = s.drive ∧ (hostWrite a v s).track = s.track ∧ (hostWrite a v s).gov = s.gov ∧
    (hostWrite a v s).blade = s.blade ∧ (hostWrite a v s).contact = s.contact ∧
    (hostWrite a v s).dock = s.dock ∧ (hostWrite a v s).pending = s.pending ∧
    (hostWrite a v s).guard.machine = s.guard.machine ∧ (hostWrite a v s).guard.trip = s.guard.trip ∧
    (hostWrite a v s).guard.lift = s.guard.lift ∧ (hostWrite a v s).port.inHand = s.port.inHand ∧
    (hostWrite a v s).port.answer = s.port.answer ∧ (hostWrite a v s).port.requestCount = s.port.requestCount := by
  unfold hostWrite
  (repeat' split) <;> simp_all

@[simp] theorem State.hostWriteEvent_frame (s : State) (a : Nat) (v : Word) :
    (State.hostWriteEvent s a v).timebase = s.timebase ∧ (State.hostWriteEvent s a v).partTime = s.partTime ∧
    (State.hostWriteEvent s a v).resetting = s.resetting ∧ (State.hostWriteEvent s a v).pins = s.pins ∧
    (State.hostWriteEvent s a v).gov = s.gov ∧ (State.hostWriteEvent s a v).pending = s.pending := by
  unfold State.hostWriteEvent State.event State.whenRunning
  split
  · simp
  · split
    · dsimp only
      simp
    · simp

@[simp] theorem endRefresh_frame (m : Mirror) (s : State) :
    (endRefresh m s).timebase = s.timebase ∧ (endRefresh m s).partTime = s.partTime ∧
    (endRefresh m s).resetting = s.resetting ∧ (endRefresh m s).pins = s.pins ∧
    (endRefresh m s).recv = s.recv ∧ (endRefresh m s).loops = s.loops ∧ (endRefresh m s).plan = s.plan ∧
    (endRefresh m s).drive = s.drive ∧ (endRefresh m s).track = s.track ∧ (endRefresh m s).gov = s.gov ∧
    (endRefresh m s).blade = s.blade ∧ (endRefresh m s).contact = s.contact ∧
    (endRefresh m s).guard = s.guard ∧ (endRefresh m s).dock = s.dock ∧ (endRefresh m s).notice = s.notice ∧
    (endRefresh m s).pending = s.pending := by
  unfold endRefresh
  (repeat' split) <;> simp_all

@[simp] theorem snapshotExpiry_frame (s : State) :
    (snapshotExpiry s).timebase = s.timebase ∧ (snapshotExpiry s).partTime = s.partTime ∧
    (snapshotExpiry s).resetting = s.resetting ∧ (snapshotExpiry s).pins = s.pins ∧
    (snapshotExpiry s).recv = s.recv ∧ (snapshotExpiry s).loops = s.loops ∧ (snapshotExpiry s).plan = s.plan ∧
    (snapshotExpiry s).drive = s.drive ∧ (snapshotExpiry s).track = s.track ∧ (snapshotExpiry s).gov = s.gov ∧
    (snapshotExpiry s).blade = s.blade ∧ (snapshotExpiry s).contact = s.contact ∧
    (snapshotExpiry s).guard = s.guard ∧ (snapshotExpiry s).dock = s.dock ∧
    (snapshotExpiry s).notice = s.notice ∧ (snapshotExpiry s).pending = s.pending := by
  unfold snapshotExpiry
  split <;> simp

end Sys2Proof.Machine
end

