-- ==== Sys2Proof/Laws/Memory.lean ====
section
/-! SUPPORT. The exchange memory: read after write, writes elsewhere, and the canonical form kept by every operation. -/

namespace Sys2Proof.Machine

/-! ### The canonical form -/

theorem Memory.above_iff {a : Nat} {m : Memory} (h : Memory.wf m = true) :
    Memory.above a m = true ↔ ∀ c ∈ m, a < c.1 := by
  induction m with
  | nil => simp [Memory.above]
  | cons d m ih =>
    obtain ⟨b, v⟩ := d
    simp only [Memory.wf, Bool.and_eq_true] at h
    constructor
    · intro hb c hc
      simp only [Memory.above, decide_eq_true_eq] at hb
      rcases List.mem_cons.1 hc with rfl | hc
      · exact hb
      · have hbm : Memory.above b m = true := h.1.2
        cases m with
        | nil => simp at hc
        | cons e m =>
          have hbe : b < e.1 := by simpa [Memory.above] using hbm
          exact (ih h.2).1 (by simp only [Memory.above, decide_eq_true_eq]; omega) c hc
    · intro hb
      simpa [Memory.above] using hb (b, v) (by simp)

theorem Memory.wf_tail {c : Nat × Word} {m : Memory} (h : Memory.wf (c :: m) = true) : Memory.wf m = true := by
  simp only [Memory.wf, Bool.and_eq_true] at h
  exact h.2

theorem Memory.wf_head {c : Nat × Word} {m : Memory} (h : Memory.wf (c :: m) = true) :
    c.2 ≠ 0 ∧ ∀ d ∈ m, c.1 < d.1 := by
  simp only [Memory.wf, Bool.and_eq_true, decide_eq_true_eq] at h
  exact ⟨h.1.1, (Memory.above_iff h.2).1 h.1.2⟩

theorem Memory.wf_cons {c : Nat × Word} {m : Memory} (hv : c.2 ≠ 0) (ha : ∀ d ∈ m, c.1 < d.1)
    (h : Memory.wf m = true) : Memory.wf (c :: m) = true := by
  simp only [Memory.wf, Bool.and_eq_true, decide_eq_true_eq]
  exact ⟨⟨hv, (Memory.above_iff h).2 ha⟩, h⟩

/-- The addresses a write leaves listed were listed before, but for the one written. -/
theorem Memory.mem_write {m : Memory} {a : Nat} {v : Word} {c : Nat × Word} (h : c ∈ Memory.write m a v) :
    c.1 = a ∨ c ∈ m := by
  induction m with
  | nil =>
    unfold Memory.write at h
    split at h
    · simp at h
    · left; simp at h; simp [h]
  | cons d m ih =>
    obtain ⟨b, w⟩ := d
    unfold Memory.write at h
    split at h
    · split at h
      · right; exact h
      · rcases List.mem_cons.1 h with rfl | h
        · left; rfl
        · right; exact h
    · split at h
      · split at h
        · right; exact List.mem_cons_of_mem _ h
        · rcases List.mem_cons.1 h with rfl | h
          · left; rfl
          · right; exact List.mem_cons_of_mem _ h
      · rcases List.mem_cons.1 h with rfl | h
        · right; simp
        · rcases ih h with h | h
          · left; exact h
          · right; exact List.mem_cons_of_mem _ h

/-- A write keeps the canonical form. -/
theorem Memory.wf_write {m : Memory} (a : Nat) (v : Word) (h : Memory.wf m = true) :
    Memory.wf (Memory.write m a v) = true := by
  induction m with
  | nil =>
    unfold Memory.write
    split
    · rfl
    · exact Memory.wf_cons ‹_› (by simp) rfl
  | cons d m ih =>
    obtain ⟨b, w⟩ := d
    have hd := Memory.wf_head h
    have ht := Memory.wf_tail h
    unfold Memory.write
    split
    · split
      · exact h
      · refine Memory.wf_cons ‹_› ?_ h
        intro c hc
        rcases List.mem_cons.1 hc with rfl | hc
        · assumption
        · have := hd.2 c hc; simp only at this ⊢; omega
    · split
      · split
        · exact ht
        · subst_vars
          exact Memory.wf_cons ‹_› hd.2 ht
      · refine Memory.wf_cons hd.1 ?_ (ih ht)
        intro c hc
        rcases Memory.mem_write hc with hc | hc
        · simp only; omega
        · exact hd.2 c hc

/-- Writing a list of cells keeps the canonical form. -/
theorem Memory.wf_writeAll {m : Memory} (cs : List (Nat × Word)) (h : Memory.wf m = true) :
    Memory.wf (Memory.writeAll m cs) = true := by
  induction cs generalizing m with
  | nil => exact h
  | cons c cs ih => exact ih (Memory.wf_write c.1 c.2 h)

/-- Keeping part of a memory keeps the canonical form. -/
theorem Memory.wf_filter {m : Memory} (p : Nat × Word → Bool) (h : Memory.wf m = true) :
    Memory.wf (List.filter p m) = true := by
  induction m with
  | nil => rfl
  | cons d m ih =>
    have hd := Memory.wf_head h
    have ht := Memory.wf_tail h
    rw [List.filter_cons]
    split
    · exact Memory.wf_cons hd.1 (fun c hc => hd.2 c (List.mem_of_mem_filter hc)) (ih ht)
    · exact ih ht

/-- Two canonical memories, the first wholly below the second, join to a canonical memory. -/
theorem Memory.wf_append {m n : Memory} (hm : Memory.wf m = true) (hn : Memory.wf n = true)
    (hl : ∀ c ∈ m, ∀ d ∈ n, c.1 < d.1) : Memory.wf (m ++ n) = true := by
  induction m with
  | nil => exact hn
  | cons d m ih =>
    have hd := Memory.wf_head hm
    refine Memory.wf_cons hd.1 ?_ (ih (Memory.wf_tail hm) (fun c hc => hl c (List.mem_cons_of_mem _ hc)))
    intro c hc
    rcases List.mem_append.1 hc with hc | hc
    · exact hd.2 c hc
    · exact hl d (by simp) c hc

/-! ### Reading -/

/-- An address below every listed one reads 0. -/
theorem Memory.read_above {m : Memory} {a : Nat} (h : ∀ c ∈ m, a < c.1) : Memory.read m a = 0 := by
  induction m with
  | nil => rfl
  | cons d m ih =>
    obtain ⟨b, w⟩ := d
    have hb : a < b := h (b, w) (by simp)
    unfold Memory.read
    rw [if_neg (by omega)]
    exact ih (fun c hc => h c (List.mem_cons_of_mem _ hc))

/-- A write leaves every other address as it was, whatever the memory. -/
theorem Memory.read_write_other (m : Memory) {a b : Nat} (v : Word) (hb : b ≠ a) :
    Memory.read (Memory.write m a v) b = Memory.read m b := by
  induction m with
  | nil =>
    unfold Memory.write
    split <;> simp [Memory.read, hb]
  | cons d m ih =>
    obtain ⟨c, w⟩ := d
    unfold Memory.write
    split
    · split
      · rfl
      · simp [Memory.read, hb]
    · split
      · subst_vars
        split <;> simp [Memory.read, hb]
      · simp only [Memory.read]
        split
        · rfl
        · exact ih

/-- A read of the address just written, in a canonical memory. -/
theorem Memory.read_write_same {m : Memory} (h : Memory.wf m = true) (a : Nat) (v : Word) :
    Memory.read (Memory.write m a v) a = v := by
  induction m with
  | nil =>
    unfold Memory.write
    split
    · subst_vars; rfl
    · simp [Memory.read]
  | cons d m ih =>
    obtain ⟨c, w⟩ := d
    have hd := Memory.wf_head h
    have ht := Memory.wf_tail h
    unfold Memory.write
    split
    · split
      · subst_vars
        exact Memory.read_above (fun e he => by
          rcases List.mem_cons.1 he with rfl | he
          · assumption
          · have := hd.2 e he; simp only at this; omega)
      · simp [Memory.read]
    · split
      · subst_vars
        split
        · subst_vars; exact Memory.read_above hd.2
        · simp [Memory.read]
      · simp only [Memory.read]
        rw [if_neg ‹_›]
        exact ih ht

/-- What a read finds after a write in a canonical memory. -/
theorem Memory.read_write {m : Memory} (h : Memory.wf m = true) (a b : Nat) (v : Word) :
    Memory.read (Memory.write m a v) b = if b = a then v else Memory.read m b := by
  split
  · subst_vars; exact Memory.read_write_same h _ v
  · exact Memory.read_write_other m v ‹_›

/-- A list of cells leaves every address it does not name as it was. -/
theorem Memory.read_writeAll_other (m : Memory) (cs : List (Nat × Word)) {b : Nat} (hb : ∀ c ∈ cs, c.1 ≠ b) :
    Memory.read (Memory.writeAll m cs) b = Memory.read m b := by
  induction cs generalizing m with
  | nil => rfl
  | cons c cs ih =>
    have hc : b ≠ c.1 := fun e => hb c (by simp) e.symm
    rw [Memory.writeAll, ih _ (fun d hd => hb d (List.mem_cons_of_mem _ hd)), Memory.read_write_other m c.2 hc]

/-- The addresses of consecutive cells. -/
theorem mem_cellsFrom {a : Nat} {ws : List Word} {c : Nat × Word} (h : c ∈ cellsFrom a ws) :
    a ≤ c.1 ∧ c.1 < a + ws.length := by
  induction ws generalizing a with
  | nil => simp [cellsFrom] at h
  | cons w ws ih =>
    simp only [cellsFrom, List.mem_cons] at h
    rcases h with rfl | h
    · simp
    · have := ih h
      simp only [List.length_cons]
      omega

end Sys2Proof.Machine
end

