-- ==== Sys2Proof/Laws/State.lean ====
section
/-! SUPPORT. The small lemmas of State and of its plain updates: what a field reads after an update of it, the fixed numbers
of like things, reading a word after writes, and the canonical form of the memory. -/

namespace Sys2Proof.Machine

/-! ### Fixed numbers of like things -/

@[simp] theorem Two.get_set_same {α : Type} (p : Two α) (i : LR) (v : α) : (p.set i v).get i = v := by cases i <;> rfl

theorem Two.get_set_other {α : Type} (p : Two α) {i j : LR} (v : α) (h : j ≠ i) : (p.set i v).get j = p.get j := by
  cases i <;> cases j <;> first | rfl | exact absurd rfl h

@[simp] theorem Two.set_get {α : Type} (p : Two α) (i : LR) : p.set i (p.get i) = p := by cases i <;> rfl

@[simp] theorem Two.set_set {α : Type} (p : Two α) (i : LR) (v w : α) : (p.set i v).set i w = p.set i w := by
  cases i <;> rfl

@[simp] theorem Two.get_map {α β : Type} (f : α → β) (p : Two α) (i : LR) : (p.map f).get i = f (p.get i) := by
  cases i <;> rfl

@[simp] theorem Three.get_set_same {α : Type} (p : Three α) (i : Coil) (v : α) : (p.set i v).get i = v := by
  cases i <;> rfl

theorem Three.get_set_other {α : Type} (p : Three α) {i j : Coil} (v : α) (h : j ≠ i) :
    (p.set i v).get j = p.get j := by
  cases i <;> cases j <;> first | rfl | exact absurd rfl h

@[simp] theorem Three.set_get {α : Type} (p : Three α) (i : Coil) : p.set i (p.get i) = p := by cases i <;> rfl

@[simp] theorem Three.set_set {α : Type} (p : Three α) (i : Coil) (v w : α) : (p.set i v).set i w = p.set i w := by
  cases i <;> rfl

@[simp] theorem Three.get_map {α β : Type} (f : α → β) (p : Three α) (i : Coil) : (p.map f).get i = f (p.get i) := by
  cases i <;> rfl

/-- A loop number is one of the four. -/
theorem Loop.cases_four (n : Loop) : n = 0 ∨ n = 1 ∨ n = 2 ∨ n = 3 := by
  revert n; decide

@[simp] theorem Four.get_set_same {α : Type} (p : Four α) (n : Loop) (v : α) : (p.set n v).get n = v := by
  rcases n.cases_four with h | h | h | h <;> subst h <;> rfl

theorem Four.get_set_other {α : Type} (p : Four α) {n m : Loop} (v : α) (h : m ≠ n) :
    (p.set n v).get m = p.get m := by
  rcases n.cases_four with hn | hn | hn | hn <;> rcases m.cases_four with hm | hm | hm | hm <;> subst hn <;> subst hm <;>
    first | rfl | exact absurd rfl h

@[simp] theorem Four.set_get {α : Type} (p : Four α) (n : Loop) : p.set n (p.get n) = p := by
  rcases n.cases_four with h | h | h | h <;> subst h <;> rfl

@[simp] theorem Four.get_map {α β : Type} (f : α → β) (p : Four α) (n : Loop) : (p.map f).get n = f (p.get n) := by
  rcases n.cases_four with h | h | h | h <;> subst h <;> rfl

@[simp] theorem Four.get_mapIdx {α β : Type} (f : Loop → α → β) (p : Four α) (n : Loop) :
    (p.mapIdx f).get n = f n (p.get n) := by
  rcases n.cases_four with h | h | h | h <;> subst h <;> rfl

@[simp] theorem Notices.get_set_same (n : Notices) (a : Source) (v : SourceState) : (n.set a v).get a = v := by
  cases a <;> rfl

theorem Notices.get_set_other (n : Notices) {a b : Source} (v : SourceState) (h : b ≠ a) :
    (n.set a v).get b = n.get b := by
  cases a <;> cases b <;> first | rfl | exact absurd rfl h

@[simp] theorem Notices.set_atnEnable (n : Notices) (a : Source) (v : SourceState) :
    (n.set a v).atnEnable = n.atnEnable := by cases a <;> rfl

@[simp] theorem Notices.set_ackMode (n : Notices) (a : Source) (v : SourceState) :
    (n.set a v).ackMode = n.ackMode := by cases a <;> rfl

@[simp] theorem Notices.set_line (n : Notices) (a : Source) (v : SourceState) : (n.set a v).line = n.line := by
  cases a <;> rfl

@[simp] theorem Port.refresh_setRefresh (p : Port) (m : Mirror) (r : Refresh) : (p.setRefresh m r).refresh m = r := by
  cases m <;> rfl

theorem Port.refresh_setRefresh_other (p : Port) {m k : Mirror} (r : Refresh) (h : k ≠ m) :
    (p.setRefresh m r).refresh k = p.refresh k := by
  cases m <;> cases k <;> first | rfl | exact absurd rfl h

@[simp] theorem Port.setRefresh_setRefresh (p : Port) (m : Mirror) (r q : Refresh) :
    (p.setRefresh m r).setRefresh m q = p.setRefresh m q := by cases m <;> rfl

@[simp] theorem Port.setRefresh_keeps (p : Port) (m : Mirror) (r : Refresh) :
    (p.setRefresh m r).faults = p.faults ∧ (p.setRefresh m r).requestCount = p.requestCount ∧
    (p.setRefresh m r).inHand = p.inHand ∧ (p.setRefresh m r).args = p.args ∧ (p.setRefresh m r).answer = p.answer ∧
    (p.setRefresh m r).snapTimer = p.snapTimer ∧ (p.setRefresh m r).latched = p.latched ∧
    (p.setRefresh m r).dataLines = p.dataLines := by cases m <;> and_intros <;> rfl

/-! ### The field an update changes -/

@[simp] theorem State.put_mem (a : Nat) (v : Word) (s : State) : (s.put a v).mem = s.mem.write a v := rfl
@[simp] theorem State.putAll_mem (cells : List (Nat × Word)) (s : State) :
    (s.putAll cells).mem = s.mem.writeAll cells := rfl
@[simp] theorem State.atTime_timebase (s : State) (t : Capture) : (s.atTime t).timebase = t := rfl
@[simp] theorem driveLines_dataLines (w : Word) (s : State) : (driveLines w s).port.dataLines = w := rfl
@[simp] theorem setList_list (l : List Entry) (s : State) : (setList l s).contact.list = l := rfl
@[simp] theorem setBlade_blade (b : Blade) (s : State) : (setBlade b s).blade = b := rfl
@[simp] theorem setSense_sense (c : Sense) (t : Option Time) (s : State) : (setSense c t s).dock.sense = c := rfl
@[simp] theorem setChannel_get (i : Coil) (c : Channel) (s : State) :
    (setChannel i c s).recv.channels.get i = c := by simp [setChannel]
@[simp] theorem setCoils_get (n : Loop) (c : Three SubRecord) (s : State) :
    ((setCoils n c s).loops.recs.get n).coils = c := by simp [setCoils]
@[simp] theorem setSonar_get (i : LR) (c : Sonar) (s : State) : (setSonar i c s).contact.sonar.get i = c := by
  simp [setSonar]
@[simp] theorem setBump_get (i : LR) (d : Debounce) (t : Option Time) (s : State) :
    (setBump i d t s).contact.bump.get i = d ∧ (setBump i d t s).contact.bumpTimer.get i = t := by simp [setBump]
@[simp] theorem setLift_get (i : LR) (d : Debounce) (t : Option Time) (s : State) :
    (setLift i d t s).guard.lift.get i = d ∧ (setLift i d t s).guard.liftTimer.get i = t := by simp [setLift]
@[simp] theorem setStall_get (i : LR) (t : Option Time) (s : State) : (setStall i t s).contact.stall.get i = t := by
  simp [setStall]
@[simp] theorem noteLoops_causes (s : State) : (noteLoops s).causes = { s.causes with loopTable := true } := rfl
@[simp] theorem noteContacts_causes (s : State) :
    (noteContacts s).causes = { s.causes with contactList := true } := rfl
@[simp] theorem setMachine_machine (m : MachineState) (s : State) : (setMachine m s).guard.machine = m := by
  simp [setMachine]
@[simp] theorem beginReset_resetting (c : ResetCause) (s : State) :
    (beginReset c s).resetting = some ⟨c, s.checking⟩ := rfl

/-! ### Reading a word after writes -/

theorem State.word_eq (s : State) (a : Nat) : s.word a = s.mem.read a := rfl

/-- A word is unchanged by cells that lie elsewhere. -/
theorem Memory.read_writeAll_outside (m : Memory) {cells : List (Nat × Word)} {a : Nat}
    (h : ∀ c ∈ cells, c.1 ≠ a) : (m.writeAll cells).read a = m.read a := by
  induction cells generalizing m with
  | nil => rfl
  | cons c cs ih =>
    rw [Memory.writeAll, ih _ (fun d hd => h d (List.mem_cons_of_mem _ hd)),
      Memory.read_write_other _ _ (fun e => h c (List.mem_cons_self ..) e.symm)]

/-- The cells from an address on lie at consecutive addresses. -/
theorem cellsFrom_bounds {a : Nat} {ws : List Word} {c : Nat × Word} (h : c ∈ cellsFrom a ws) :
    a ≤ c.1 ∧ c.1 < a + ws.length := by
  induction ws generalizing a with
  | nil => cases h
  | cons w ws ih =>
    rcases List.mem_cons.1 h with rfl | h
    · simp
    · have := ih h
      simp only [List.length_cons]
      omega

/-- The word a cell of a run was written with, read back in a canonical memory. -/
theorem Memory.read_writeAll_cellsFrom {m : Memory} (hm : m.wf = true) (a k : Nat) (ws : List Word) (h : k < ws.length) :
    (m.writeAll (cellsFrom a ws)).read (a + k) = ws[k] := by
  induction ws generalizing m a k with
  | nil => cases h
  | cons w ws ih =>
    rw [cellsFrom, Memory.writeAll]
    cases k with
    | zero =>
      rw [Memory.read_writeAll_outside]
      · exact Memory.read_write_same hm a w
      · intro c hc
        have := cellsFrom_bounds hc
        omega
    | succ k =>
      have := ih (Memory.wf_write a w hm) (a + 1) k (by simpa using h)
      rw [show a + (k + 1) = a + 1 + k by omega]
      exact this

/-- The memory of the state after reset is in its canonical form. -/
theorem reset_mem_wf : State.reset.mem.wf = true := by decide

end Sys2Proof.Machine
end

