-- ==== Sys2Proof/Laws/Ops.lean ====
section
/-! SUPPORT. What the shared operations of Machine/Ops.lean do, one lemma each for every way they can go: an event of the
running part and of one in reset, a post, an answer, a refresh, the refreshes an event causes. Their frames stand in
Laws/FrameOps.lean. -/

namespace Sys2Proof.Machine

/-! ### A command while a reset lasts -/

theorem whenRunning_running {s : State} (h : s.resetting = none) (f : State → State) : s.whenRunning f = f s := by
  simp [State.whenRunning, h]

theorem whenRunning_resetting {s : State} {r : Resetting} (h : s.resetting = some r) (f : State → State) :
    s.whenRunning f = s := by
  simp [State.whenRunning, h]

theorem event_running {s : State} (h : s.resetting = none) (f : State → State) :
    s.event f = s.noting (fun b => startMirrors false b (f b)) := whenRunning_running h _

theorem event_resetting {s : State} {r : Resetting} (h : s.resetting = some r) (f : State → State) : s.event f = s :=
  whenRunning_resetting h _

/-! ### Refreshes -/

/-- A cause that finds its mirror WRITING sets the again flag (R196). -/
theorem startRefresh_writing {m : Mirror} {s : State} {copy : List (Nat × Word)}
    (h : (s.port.refresh m).writing = some copy) :
    startRefresh m s = { s with port := s.port.setRefresh m ⟨some copy, true⟩ } := by
  simp [startRefresh, h]

/-- A cause that finds its mirror idle takes the copy and raises OPEN (R195). -/
theorem startRefresh_idle {m : Mirror} {s : State} (h : (s.port.refresh m).writing = none) :
    startRefresh m s = { s with
      port := s.port.setRefresh m ⟨some (s.mirrorCopy m), false⟩
      mem := s.mem.write (mirrorOpen m) (s.word (mirrorOpen m) + 1) } := by
  simp [startRefresh, h]

/-- A refresh that starts touches no word but OPEN. -/
theorem startRefresh_word (m : Mirror) (s : State) {a : Nat} (h : a ≠ mirrorOpen m) :
    (startRefresh m s).word a = s.word a := by
  unfold startRefresh
  split
  · rfl
  · exact Memory.read_write_other _ _ h

/-- After a cause the mirror is WRITING. -/
theorem startRefresh_isSome (m : Mirror) (s : State) : ((startRefresh m s).port.refresh m).writing.isSome = true := by
  unfold startRefresh
  split <;> simp

/-- Nothing that R38 names changed. -/
theorem loopMirrorChanged_false {a b : State} (hl : a.loops.recs = b.loops.recs) (hp : a.loops.posClass = b.loops.posClass)
    (hn : a.loops.stationNear = b.loops.stationNear)
    (hc : ∀ i, channelView (a.recv.channels.get i) = channelView (b.recv.channels.get i)) :
    loopMirrorChanged a b = false := by
  have h1 : channelView a.recv.channels.left = channelView b.recv.channels.left := hc .left
  have h2 : channelView a.recv.channels.right = channelView b.recv.channels.right := hc .right
  have h3 : channelView a.recv.channels.rear = channelView b.recv.channels.rear := hc .rear
  simp [loopMirrorChanged, hl, hp, hn, h1, h2, h3]

/-- An event that changes nothing a mirror shows at once starts no refresh. -/
theorem startMirrors_quiet {a b : State} (hl : loopMirrorChanged a b = false) (hc : a.contact.list = b.contact.list)
    (hp : a.guard.machine = b.guard.machine) (hn : b.causes = Causes.none) : startMirrors false a b = b := by
  simp [startMirrors, hl, hc, State.parked, hp, hn, Causes.none]

/-- A noted change of the Loop Table starts a refresh of its mirror, whatever its outcome shows (R38). -/
theorem startMirrors_noted {a b : State} (hc : a.contact.list = b.contact.list) (hp : a.guard.machine = b.guard.machine)
    (hn : b.causes = ⟨true, false⟩) : startMirrors false a b = startRefresh .loopTable b := by
  simp [startMirrors, hc, State.parked, hp, hn]

/-- The words of the memory after an event are those its rules leave. -/
theorem noting_word (s : State) (f : State → State) (x : Nat) :
    (s.noting f).word x = (f { s with causes := Causes.none }).word x := rfl

/-- The refreshes of an event touch no word but the three OPEN counts. -/
theorem startMirrors_word (w : Bool) (a b : State) {x : Nat} (h1 : x ≠ 0x100) (h2 : x ≠ 0x180) (h3 : x ≠ 0x200) :
    (startMirrors w a b).word x = b.word x := by
  have k0 (s : State) : (startRefresh .snapshot s).word x = s.word x := startRefresh_word _ _ h1
  have k1 (s : State) : (startRefresh .loopTable s).word x = s.word x := startRefresh_word _ _ h2
  have k2 (s : State) : (startRefresh .contactList s).word x = s.word x := startRefresh_word _ _ h3
  unfold startMirrors
  dsimp only
  split <;> split <;> split <;> simp only [k0, k1, k2]

/-! ### Notices and answers -/

/-- A post while the START of a RESTART lasts is dropped (R197). -/
theorem post_held {s : State} (h : s.noticesHeld = true) (r : Report) : post r s = s := by simp [post, h]

/-- A post puts status and details in force, counts, and sets the pending flag of an enabled source (R198). -/
theorem post_open {s : State} (h : s.noticesHeld = false) (r : Report) :
    post r s =
      setSource r.source ((s.notice.get r.source).posted r (sourceEnabled s.noticeEnable r.source)) s := by
  simp [post, h]

/-- A source's new state is in force, and the line is judged with it. -/
theorem setSource_get (src : Source) (st : SourceState) (s : State) : (setSource src st s).notice.get src = st := by
  unfold setSource judgeLine
  cases src <;> rfl

/-- The words a post writes lie in the header, below the command block. -/
theorem sourceCells_header {src : Source} {st : SourceState} (h : st.details.length ≤ 3) {c : Nat × Word}
    (hc : c ∈ sourceCells src st) : 0x010 ≤ c.1 ∧ c.1 < 0x040 := by
  rcases List.mem_cons.1 hc with rfl | hc
  · cases src <;> simp [addrStatus, Source.rank]
  · rcases List.mem_cons.1 hc with rfl | hc
    · cases src <;> simp [addrStatus, Source.rank]
    · have := cellsFrom_bounds hc
      have hd : addrDetails + src.detailOffset ≤ 0x028 ∧ 0x020 ≤ addrDetails + src.detailOffset := by
        cases src <;> decide
      omega

/-- A report has three detail words at most. -/
theorem Report.details_length (r : Report) : r.details.length ≤ 3 := by cases r <;> simp [Report.details, segmentDetails]

/-- A post touches no word outside the header. -/
theorem post_word (r : Report) (s : State) {a : Nat} (h : a < 0x010 ∨ 0x040 ≤ a) : (post r s).word a = s.word a := by
  unfold post
  split
  · rfl
  · refine Memory.read_writeAll_outside _ fun c hc => ?_
    have := sourceCells_header (by simpa [SourceState.posted] using r.details_length) hc
    omega

/-- An answer touches no word outside the header. -/
theorem answerWith_word (code : Word) (r : Result) (count : BitVec 8) (s : State) {a : Nat}
    (h : a < 0x009 ∨ 0x040 ≤ a) : (answerWith code r count s).word a = s.word a := by
  unfold answerWith
  rw [post_word _ _ (by omega)]
  refine Memory.read_writeAll_outside _ fun c hc => ?_
  have := cellsFrom_bounds hc
  simp only [addrAnswer, List.length_cons, List.length_nil] at this
  omega

/-- The answer record an answer leaves (R191). -/
@[simp] theorem answerWith_answer (code : Word) (r : Result) (count : BitVec 8) (s : State) :
    (answerWith code r count s).port.answer = ⟨code, r.code, r.reason, count⟩ := by simp [answerWith]

/-! ### The canonical form is kept -/

theorem setSource_wf {s : State} (src : Source) (st : SourceState) (h : s.mem.wf = true) :
    (setSource src st s).mem.wf = true := Memory.wf_writeAll _ h

theorem post_wf {s : State} (r : Report) (h : s.mem.wf = true) : (post r s).mem.wf = true := by
  unfold post
  split
  · exact h
  · exact setSource_wf _ _ h

theorem answerWith_wf {s : State} (code : Word) (r : Result) (count : BitVec 8) (h : s.mem.wf = true) :
    (answerWith code r count s).mem.wf = true := post_wf _ (Memory.wf_writeAll _ h)

theorem startRefresh_wf {s : State} (m : Mirror) (h : s.mem.wf = true) : (startRefresh m s).mem.wf = true := by
  unfold startRefresh
  split
  · exact h
  · exact Memory.wf_write _ _ h

theorem startMirrors_wf (w : Bool) (a : State) {b : State} (h : b.mem.wf = true) :
    (startMirrors w a b).mem.wf = true := by
  unfold startMirrors
  dsimp only
  split <;> split <;> split <;> repeat first | exact h | apply startRefresh_wf

end Sys2Proof.Machine
end

