-- ==== Sys2Proof/Laws/Port.lean ====
section
/-! SUPPORT. What the Exchange Port's own operations do, one lemma for every way they can go: a refresh's next word, a host
read and its effect; the detail words of a report; and what the channels hear. -/

namespace Sys2Proof.Machine

/-! ### The words of a refresh (R195) -/

/-- No refresh, no word. -/
theorem writeNext_idle {m : Mirror} {s : State} (h : (s.port.refresh m).writing = none) : writeNext m s = s := by
  simp [writeNext, h]

/-- A copy that is written out leaves CLOSE to the refresh's end. -/
theorem writeNext_done {m : Mirror} {s : State} (h : (s.port.refresh m).writing = some []) : writeNext m s = s := by
  simp [writeNext, h]

/-- The first word still to be written goes to its address, and the rest waits. -/
theorem writeNext_word {m : Mirror} {s : State} {c : Nat × Word} {copy : List (Nat × Word)}
    (h : (s.port.refresh m).writing = some (c :: copy)) :
    writeNext m s = { s with
      port := s.port.setRefresh m { s.port.refresh m with writing := some copy }
      mem := s.mem.write c.1 c.2 } := by
  simp [writeNext, h]

theorem writeNext_wf {s : State} (m : Mirror) (h : s.mem.wf = true) : (writeNext m s).mem.wf = true := by
  unfold writeNext
  split
  · exact h
  · exact h
  · exact Memory.wf_write _ _ h

/-- A microsecond keeps the memory canonical. -/
theorem microsecond_wf {s : State} (h : s.mem.wf = true) : (microsecond s).mem.wf = true := by
  unfold microsecond
  exact writeNext_wf _ (writeNext_wf _ (writeNext_wf _ h))

/-! ### Host reads (R186) -/

theorem hostRead_resetting {s : State} {r : Resetting} (h : s.resetting = some r) (a : Nat) : s.hostRead a = 0 := by
  simp [State.hostRead, h]

/-- Below the registers a read drives the word as it stands. -/
theorem hostRead_memory {s : State} (h : s.resetting = none) {a : Nat} (ha : a < 0xFFC) : s.hostRead a = s.word a := by
  simp [State.hostRead, h, show a ≠ 0xFFC by omega, show a ≠ 0xFFD by omega, show a ≠ 0xFFE by omega,
    show a ≠ 0xFFF by omega]

/-- A read of any address but ATTENTION's changes nothing. -/
theorem readEffect_plain {a : Nat} (h : a ≠ 0xFFC) (s : State) : readEffect a s = s := by
  unfold readEffect
  split <;> simp [h]

theorem readEffect_resetting {s : State} {r : Resetting} (h : s.resetting = some r) (a : Nat) : readEffect a s = s := by
  simp [readEffect, h]

/-! ### Details (R197) -/

/-- PLAN's reports have three detail words, each other's one. -/
theorem Report.details_length_eq (r : Report) : r.details.length = if r.source = .plan then 3 else 1 := by
  cases r <;> simp [Report.details, Report.source, segmentDetails]

/-! ### What the channels hear (R21, R22) -/

/-- With no check running a channel hears its coil. -/
theorem hears_coil {s : State} (h : s.checking = false) (t : Capture) (level : Level) :
    s.hearsLeading t = true ∧ s.hearsTrailing t = true ∧ s.heardLevel t level = level := by
  simp [State.hearsLeading, State.hearsTrailing, State.heardLevel, h]

/-- While a check runs a channel hears the internal source alone. -/
theorem hears_source {s : State} (h : s.checking = true) (t : Capture) (level : Level) :
    s.hearsLeading t = s.recv.check.sendsLeading t ∧ s.hearsTrailing t = s.recv.check.sendsTrailing t ∧
      s.heardLevel t level = s.recv.check.sourceLevel t := by
  simp [State.hearsLeading, State.hearsTrailing, State.heardLevel, h]

end Sys2Proof.Machine
end

