-- ==== Sys2Proof/Tests/Slice0.lean ====
section
/-! SUPPORT. Tests: the checks of WellFormed, single steps whose expected results stand in the worked figures of spec/ or are
computed by hand from its rules, and for each obligation with hypotheses a state that meets them. -/

open Sys2Proof Sys2Proof.Machine Sys2Proof.Safety

namespace Sys2Proof.Tests

/-! ### WellFormed refuses -/

theorem test_refuses_known_request_code : (Instr.unknownRequest 5).wellFormed = false := by decide
theorem test_admits_unknown_request_code : (Instr.unknownRequest 13).wellFormed = true := by decide
theorem test_refuses_heartbeat_as_hostWrite : (Instr.hostWrite 0x040 7).wellFormed = false := by decide
theorem test_refuses_request_as_hostWrite : (Instr.hostWrite 0x041 1).wellFormed = false := by decide
theorem test_admits_request_word_zero : (Instr.hostWrite 0x041 0).wellFormed = true := by decide
theorem test_refuses_portctl_as_hostWrite : (Instr.hostWrite 0xFFE 0).wellFormed = false := by decide
theorem test_refuses_serviceEnd_as_hostWrite : (Instr.hostWrite 0xFFD 0x80).wellFormed = false := by decide
theorem test_refuses_serviceClear_as_hostWrite : (Instr.hostWrite 0xFFD 6).wellFormed = false := by decide
theorem test_refuses_source_seven : (Instr.serviceClear 7).wellFormed = false := by decide

/-! ### Small states -/

/-- The part after reset with its machine state replaced. -/
def inState (m : MachineState) : State := { State.reset with guard := { State.reset.guard with machine := m } }

/-- What a property says of the next state of a step. -/
def stepped (o : Host.Outcome State Fault Refusal) (p : State → Bool) : Bool :=
  match o with
  | .next s => p s
  | .refused _ => false

/-- The words of a ROLL of speed 400 without a distance. -/
def rollFields : Fields := ⟨1, 255, 0, 0, 0, 1, 1, 400, 0, 0, 0, 0, 0, 0, 0, 0, 0⟩

/-- A segment in slot 14 with the given fields. -/
def segmentOf (f : Fields) : Segment := ⟨14, 1, 0, f, 0, false, false⟩

/-- The armed machine with an active segment, its slot ACTIVE. -/
def running (f : Fields) : State :=
  let s := inState .armed
  { s with
    plan := { s.plan with state := .running, active := some (segmentOf f), activation := 1, standing := .cut }
    mem := s.mem.write 0x5C0 2 }

/-- A wheel with a target, an integrator and a duty. -/
def wheelOf (target integrator duty : Int) : WheelState := ⟨none, none, 0, true, 0, target, integrator, duty⟩

/-- The control period is due. -/
def atPeriod (s : State) : State := { s with partTime := s.drive.timer }

set_option maxRecDepth 8000

/-! ### The queue and resets -/

theorem test_step_takes_front :
    stepped (step { State.reset with pending := [.portctlWrite 1, .pin] })
      (fun s => decide (s.notice.atnEnable = true ∧ s.pending = [.pin])) = true := by decide

/-- R169: after POWER and the reset's end the part is as State.reset says. -/
theorem test_power_then_resetEnd :
    stepped (exec .resetEnd { State.reset with resetting := some ⟨.power, false⟩, partTime := 77, timebase := 5 })
      (fun s => decide (s = State.reset)) = true := by decide

/-- R187, R199: a strobe collision begins a reset and deasserts the line. -/
theorem test_strobe_begins :
    stepped (exec .strobe { State.reset with notice := { State.reset.notice with line := true } })
      (fun s => decide (s.resetting = some ⟨.strobe, false⟩ ∧ s.notice.line = false)) = true := by decide

/-- R171, 9.7.1: PIN from count 2 while ARMED leaves a record PIN, count 3, cause NONE, with the blade BRAKING. -/
theorem test_pin_resetEnd_record :
    stepped (exec .resetEnd { (inState .armed) with
        resetting := some ⟨.pin, false⟩
        guard := { (inState .armed).guard with resetRecord := ⟨.power, false, none, 2⟩ } })
      (fun s => decide (s.guard.resetRecord = ⟨.pin, false, none, 3⟩ ∧ s.blade.state = .braking)) = true := by
  decide

/-! ### Wire Receiver: the frame of 1.8 -/

/-- The RIGHT channel in PARITY or IDENT with an open pulse, as 1.8.1 has it. -/
def hearing (d : Decoder) (prev leading : Capture) : State :=
  { (inState .safe) with recv := { State.reset.recv with
      channels := State.reset.recv.channels.set .right
        ⟨.opened leading (some .positive), false, false, 90, d, prev, .paused (prev + 71), 0, 0, none⟩ } }

/-- 1.8.1, with code 2 (one 1 bit, so parity 0): the parity pulse of 50 us completes the frame, reported to loop 2. -/
theorem test_parity_completes :
    stepped (exec (.comparatorTrailingEdge .right 801 90) (hearing (.parity ⟨.positive, 77, 4, 2⟩) 700 751))
      (fun s => let r := s.loops.recs.l2.coils.right
        decide (s.recv.channels.right.decoder = .hunt ∧ r.state = .weak ∧ r.amplitude = 77 ∧ r.window = 1)) = true := by
  decide

/-- 1.8.1: code 6 holds two 1 bits, and the parity bit 1 makes three; no loop of the default map has code 6. -/
theorem test_parity_completes_foreign :
    stepped (exec (.comparatorTrailingEdge .right 851 90) (hearing (.parity ⟨.positive, 77, 4, 6⟩) 700 751))
      (fun s => decide (s.recv.channels.right.decoder = .hunt ∧ s.recv.channels.right.foreign = 1 ∧
        s.recv.channels.right.malformed = 0)) = true := by decide

/-- 1.8.1: identity 2, 99 us, is a 1. -/
theorem test_identity_long :
    stepped (exec (.comparatorTrailingEdge .right 451 90) (hearing (.ident ⟨.positive, 77, 1, 0⟩) 301 352))
      (fun s => decide (s.recv.channels.right.decoder = .ident ⟨.positive, 77, 2, 1⟩ ∧
        s.recv.channels.right.gap = .running 522)) = true := by decide

/-- 1.8.2: identity 1 held back to a width of 71 us breaks the frame. -/
theorem test_identity_stretched :
    stepped (exec (.comparatorTrailingEdge .right 323 90) (hearing (.ident ⟨.positive, 77, 0, 0⟩) 201 252))
      (fun s => decide (s.recv.channels.right.decoder = .hunt ∧ s.recv.channels.right.malformed = 1)) = true := by
  decide

/-- 1.8.3: the parity pulse's leading edge, blanked at 751, leaves the pulse LOST. -/
theorem test_leading_blanked :
    stepped (exec (.comparatorLeadingEdge .right 751) { (inState .safe) with
        recv := { State.reset.recv with blankEnd := some 753 } })
      (fun s => decide (s.recv.channels.right.pulse = .lost)) = true := by decide

/-- 1.8.3: the gap timer set to 771 breaks the frame. -/
theorem test_gap_expiry :
    stepped (exec (.gapTimerExpiry .right 771) { (inState .safe) with recv := { State.reset.recv with
        channels := State.reset.recv.channels.set .right
          ⟨.lost, false, false, 90, .parity ⟨.positive, 77, 4, 6⟩, 700, .running 771, 0, 0, none⟩ } })
      (fun s => decide (s.recv.channels.right.decoder = .hunt ∧ s.recv.channels.right.malformed = 1)) = true := by
  decide

/-- 1.8.2: a blade switching edge at 307 with BLANK 16 blanks to 323; R7: not at full duty. -/
theorem test_switching_edge :
    stepped (exec (.switchingEdge .blade 307) { (inState .safe) with
        blade := { State.reset.blade with duty := 999 }
        plan := { State.reset.plan with applied := { Settings.default with blank := 16 } } })
      (fun s => decide (s.recv.blankEnd = some 323)) = true ∧
    stepped (exec (.switchingEdge .blade 307) { (inState .safe) with blade := { State.reset.blade with duty := 1000 } })
      (fun s => decide (s.recv.blankEnd = none)) = true := by decide

/-- 1.8.2: the trailing edge held back is taken at 323. -/
theorem test_blanking_end :
    stepped (exec (.blankingEnd 323) { (hearing (.ident ⟨.positive, 77, 0, 0⟩) 201 252) with
        recv := { (hearing (.ident ⟨.positive, 77, 0, 0⟩) 201 252).recv with
          blankEnd := some 323
          channels := State.reset.recv.channels.set .right
            ⟨.opened 252 (some .positive), true, false, 90, .ident ⟨.positive, 77, 0, 0⟩, 201, .paused 272, 0, 0, none⟩ } })
      (fun s => decide (s.recv.channels.right.malformed = 1 ∧ s.recv.channels.right.pulse = .none ∧
        s.recv.blankEnd = none)) = true := by decide

/-- R9: a real end 24 us after the leading edge, held back to an interval's end at 25 us, leaves a VOID sample, which R6
discards as a glitch: the frame goes on. A real end at 25 us keeps the sample. -/
theorem test_held_before_sample :
    let blanked (sample : Option Sample) (finish : Capture) : State := { (inState .safe) with
      recv := { State.reset.recv with
        blankEnd := some finish
        channels := State.reset.recv.channels.set .right
          ⟨.opened 1000 sample, false, false, 0, .ident ⟨.positive, 77, 1, 0⟩, 960, .paused 1031, 0, 0, none⟩ } }
    stepped (exec (.comparatorTrailingEdge .right 1024 90) (blanked none 1025)) (fun s =>
      decide (s.recv.channels.right.pulse = .opened 1000 (some .void)) &&
        stepped (exec (.blankingEnd 1025) s) (fun u => decide (u.recv.channels.right.pulse = .none ∧
          u.recv.channels.right.malformed = 0 ∧ u.recv.channels.right.decoder = .ident ⟨.positive, 77, 1, 0⟩))) = true ∧
    stepped (exec (.comparatorTrailingEdge .right 1025 90) (blanked (some .positive) 1026)) (fun s =>
      decide (s.recv.channels.right.pulse = .opened 1000 (some .positive))) = true := by decide

/-- R5: the sample at 25 us; R5: 231 us after the leading edge the pulse is LOST. -/
theorem test_sample_and_overLength :
    stepped (exec (.polaritySample .left 1025 .inside) { (inState .safe) with recv := { State.reset.recv with
        channels := State.reset.recv.channels.set .left { State.reset.recv.channels.left with pulse := .opened 1000 none } } })
      (fun s => decide (s.recv.channels.left.pulse = .opened 1000 (some .void))) = true ∧
    stepped (exec (.overLengthExpiry .left 1231) { (inState .safe) with recv := { State.reset.recv with
        channels := State.reset.recv.channels.set .left { State.reset.recv.channels.left with pulse := .opened 1000 none } } })
      (fun s => decide (s.recv.channels.left.pulse = .lost)) = true := by decide

/-- The part in the first interval of a self-check that began at part time 0. -/
def inInterval : State :=
  { (inState .safe) with recv := { State.reset.recv with
      check := { State.reset.recv.check with result := .running, begun := 1 } } }

/-- R22: the start mark begins 5 ms into the interval and lasts 200 us; no other edge is heard. -/
theorem test_source :
    stepped (exec (.comparatorLeadingEdge .rear 5000) inInterval)
      (fun s => decide ((s.recv.channels.get .rear).pulse = .opened 5000 none)) = true ∧
    stepped (exec (.comparatorLeadingEdge .rear 5001) inInterval)
      (fun s => decide (s.recv = inInterval.recv)) = true := by decide

/-- R22, R23: the third interval, 50 ms after the start; seven good frames at each coil pass the check. -/
theorem test_check :
    stepped (exec .checkInterval { (inState .safe) with partTime := 50, recv := { State.reset.recv with
        check := { State.reset.recv.check with result := .running, start := 0, begun := 2 } } })
      (fun s => decide (s.recv.check.begun = 3)) = true ∧
    stepped (exec .checkEnd { (inState .safe) with partTime := 200, recv := { State.reset.recv with
        check := { State.reset.recv.check with
          result := .running, start := 0, begun := 8, coils := ⟨⟨.none, 7, 0⟩, ⟨.none, 8, 0⟩, ⟨.none, 7, 0⟩⟩ } } })
      (fun s => decide (s.recv.check.result = .pass ∧ s.recv.check.finish = 200)) = true := by decide

/-! ### Loop Table: the sequences of 2.9 -/

/-- 2.9.1: the classes at 1010, 1020 and 1030. -/
theorem test_position_class :
    classOf .inside .inside .inside = .insideAll ∧ classOf .outside .inside .inside = .straddle ∧
      classOf .outside .outside .inside = .outsideFront ∧ classOf .outside .outside .unknown = .outsideFront := by
  decide

/-- 2.9.3: station near against NEAR_AMP 160 over the four reports. -/
theorem test_station_near :
    nearFlag false 160 150 131 = false ∧ nearFlag false 160 161 140 = true ∧ nearFlag true 160 152 138 = true ∧
      nearFlag true 160 139 126 = false := by decide

/-- 2.9.2: counts 30, 12 and 0 leave WEAK, WEAK and LOST, and the loop WEAK. -/
theorem test_window :
    stepped (exec .windowExpiry { (inState .safe) with
        partTime := 500
        loops := { State.reset.loops with recs := { State.reset.loops.recs with l1 := ⟨.present,
          ⟨⟨.present, .inside, some .positive, 3, 99, some .positive, some 9, 30⟩,
           ⟨.present, .inside, some .positive, 3, 99, some .positive, some 9, 12⟩,
           ⟨.present, .inside, some .positive, 3, 99, some .positive, some 9, 0⟩⟩⟩ } } })
      (fun s => let c := s.loops.recs.l1.coils
        decide (s.loops.recs.l1.state = .weak ∧ c.left.state = .weak ∧ c.right.state = .weak ∧
          c.rear = ⟨.lost, .unknown, none, 0, 0, some .positive, some 9, 0⟩ ∧
          s.notice.loop.details.head? = some 1)) = true := by decide

/-! ### Plan Engine -/

/-- 3.9.3: SLOPE_SOFT 30, SLOPE_HARD 20, SLOPE_TRIP 25, BLANK 5, NEAR_AMP 300 and the defaults elsewhere. -/
theorem test_apply_clamps :
    let written := replaceAt 27 30 (replaceAt 28 20 (replaceAt 30 25 (replaceAt 4 5 (replaceAt 25 300 settingDefaults))))
    let a := Settings.ofList (clampSettings written)
    (a.slopeSoft, a.slopeHard, a.slopeTrip, a.blank, a.nearAmp) = (30, 31, 31, 4, 250) ∧
      clampedCount written (clampSettings written) = 4 := by decide

/-- A slot's words: the PAUSE, or other kind, that a host stages in slot 5, QUEUED. -/
def queued (kind : Word) (m : Memory) : Memory := m.writeAll [(0x4A0, 1), (0x4A1, kind), (0x4A2, 255)]

/-- 3.9.1: PLAN_START of a QUEUED slot is DONE and makes it ACTIVE. -/
theorem test_planStart :
    stepped (exec .planStart { (inState .armed) with mem := (queued 3 State.reset.mem).write 0x042 5 })
      (fun s => decide (s.plan.state = .running ∧ s.activeSlot = some 5 ∧ s.word 0x4A0 = 2 ∧ s.word 0x00A = 1)) = true := by
  decide

/-- 3.9.1: the waiting check finds slot 5 QUEUED. -/
theorem test_waitingCheck :
    stepped (exec .waitingCheck { (inState .armed) with
        partTime := 10
        plan := { State.reset.plan with state := .waitingNext, waiting := some 5, waitTimer := some 10 }
        mem := queued 3 State.reset.mem })
      (fun s => decide (s.plan.state = .running ∧ s.activeSlot = some 5 ∧ s.plan.waitTimer = none)) = true := by
  decide

/-- 3.9.1: the hold timer's expiry makes the standing directive OFF, and the cutting blade brakes. -/
theorem test_holdTimer :
    stepped (exec .holdTimerExpiry { (inState .armed) with
        partTime := 3000
        plan := { State.reset.plan with state := .waitingNext, standing := .cut, holdTimer := some 3000 }
        blade := { State.reset.blade with state := .cutting, effective := .cut, duty := 700 } })
      (fun s => decide (s.plan.standing = .off ∧ s.blade.state = .braking ∧ s.blade.duty = 0 ∧ s.blade.brake = true)) =
      true := by decide

/-- R60: PLAN_STOP cuts the active segment STOPPED, code 15. -/
theorem test_planStop :
    stepped (exec .planStop (running rollFields))
      (fun s => decide (s.plan.state = .idle ∧ s.word 0x5C0 = 4 ∧ s.word 0x5D4 = 15)) = true := by decide

/-! ### Wheels, odometry, steering and the governor -/

/-- The table of R74, row by row. -/
theorem test_rate_limit :
    rateLimit 20 300 250 = 270 ∧ rateLimit 20 120 270 = 120 ∧ rateLimit 20 (-200) 120 = -20 ∧
      rateLimit 20 (-200) (-20) = -40 ∧ rateLimit 50 (-200) (-40) = -90 := by decide

/-- R70: MM_PER_256 983 and a period of 9830 us read 390 mm/s. -/
theorem test_measured_speed : speedMagnitude 983 9830 = 390 := by decide

/-- R75: target 400, measured 390, integrator 12 give the integrator 13 and 513. -/
theorem test_speed_loop :
    let w := WheelState.drivenBy 320 40 { wheelOf 400 12 0 with measured := 390 }
    w.integrator = 13 ∧ w.duty = 513 := by decide

/-- R76: two pulses left and three right at heading 16384. -/
theorem test_odometry :
    let d := { State.reset.drive with heading := 16384 }.advance (travelOf 2 3 983 380)
    d.x = 0 ∧ d.y = 2456 ∧ d.heading = 16489 := by decide

/-- 4.13.1: the first control period of a ROLL of 400 with ACCEL 20 sets both targets to 20. -/
theorem test_controlPeriod :
    stepped (exec (.controlPeriod 10000 128 128) (atPeriod (running rollFields)))
      (fun s => decide (s.drive.wheels.left.target = 20 ∧ s.drive.wheels.right.target = 20 ∧
        s.drive.motion = .forward)) = true := by decide

/-- R76, R77: a period without a pulse leaves an x of -2^31 mm. -/
theorem test_pose_kept :
    stepped (exec (.controlPeriod 10000 128 128) { (atPeriod (inState .safe)) with
        drive := { State.reset.drive with x := -2147483648 * 256 } })
      (fun s => decide (s.drive.x = -2147483648 * 256)) = true := by decide

/-- R47: 4 is no value of end_on. -/
theorem test_end_on : EndOn.ofWord 4 = none ∧ EndOn.ofWord 3 = some .loopCrossed := by decide

/-- R69: an encoder pulse 150 us after the one before is ignored, one 9830 us after it counts. -/
theorem test_encoder :
    let s := { (inState .safe) with drive := { State.reset.drive with
      wheels := ⟨{ wheelOf 0 0 0 with lastPulse := some 1000 }, wheelOf 0 0 0⟩ } }
    stepped (exec (.encoderPulse .left 1150) s) (fun u => decide (u.drive = s.drive)) = true ∧
      stepped (exec (.encoderPulse .left 10830) s)
        (fun u => decide (u.drive.wheels.left.period = some 9830 ∧ u.drive.wheels.left.count = 1)) = true := by decide

/-- 5.8.1: stages 1, 3 and 4 of an ordinary period. -/
theorem test_steering_ordinary :
    straddleError 120 80 = 203 ∧ steerDelta 64 128 200 203 150 = 77 ∧ steerMean 350 520 203 = 315 := by decide

/-- 5.8.2 and 5.8.3: the clamp to D_MAX, and the period in which the frames come back. -/
theorem test_steering_limits :
    steerDelta 64 128 200 1536 (-200) = 200 ∧ steerMean 500 460 1536 = 230 ∧ straddleError 90 110 = -101 ∧
      steerDelta 64 128 200 (-101) 120 = -135 ∧ steerMean 400 200 (-101) = 190 := by decide

/-- 6.7.1: every contributor of one period. -/
theorem test_governor :
    degrees 185 = 20 ∧ degrees 140 = 4 ∧ slopeOf 20 4 = 20 ∧ slopeValue 15 30 150 20 = some 584 ∧
      bladeValue .cutting 85 70 = some 520 ∧ sonarValue .forward (some 650) none = some 460 := by decide

/-! ### Blade, contacts -/

/-- 7.11.1: the first blade period of a SPINUP raises the duty to 20. -/
theorem test_bladePeriod :
    stepped (exec (.bladePeriod 4000) { (inState .armed) with
        plan := { State.reset.plan with standing := .cut }
        blade := { State.reset.blade with state := .spinup, effective := .cut, timer := 0, lastPulse := none } })
      (fun s => decide (s.blade.state = .spinup ∧ s.blade.duty = 20 ∧ s.blade.load = 2)) = true := by decide

/-- R118: 30,000,000 / 12,000 is 2500 rpm; a Hall pulse 900 us after the one before is ignored. -/
theorem test_hall :
    stepped (exec (.hallPulse 13000) { (inState .safe) with blade := { State.reset.blade with lastPulse := some 1000 } })
      (fun s => decide (s.blade.period = some 12000)) = true ∧
    stepped (exec (.hallPulse 1900) { (inState .safe) with blade := { State.reset.blade with lastPulse := some 1000 } })
      (fun s => decide (s.blade.lastPulse = some 1000 ∧ s.blade.period = State.reset.blade.period)) = true := by decide

/-- 7.11.3: the brake timer's expiry at rpm 640 posts BRAKE_SLOW with 640 and makes the blade OFF. -/
theorem test_brakeSlow :
    stepped (exec .brakeSlow { (inState .tripped) with
        partTime := 2000
        blade := { State.reset.blade with state := .braking, brake := true, brakeTimer := some 2000, rpm := 640 } })
      (fun s => decide (s.blade.state = .off ∧ s.blade.brake = false ∧ s.notice.blade.details = [640] ∧
        s.guard.trip.brakeSlow = true)) = true := by decide

/-- 7.11.2: the wait timer's expiry with effective CUT is a retry. -/
theorem test_waitTimer :
    stepped (exec .waitTimerExpiry { (inState .armed) with
        partTime := 1000
        plan := { State.reset.plan with standing := .cut }
        blade := { State.reset.blade with state := .jammed, jamPhase := some .wait, waitTimer := some 1000, effective := .cut } })
      (fun s => decide (s.blade.state = .spinup ∧ s.blade.spinupEntry = 1000)) = true := by decide

/-- 7.11.2: BLADE_UNLOCK with effective CUT goes through OFF to SPINUP. -/
theorem test_bladeUnlock :
    stepped (exec .bladeUnlock { (inState .armed) with
        plan := { State.reset.plan with standing := .cut }
        blade := { State.reset.blade with state := .lockedOut, effective := .cut } })
      (fun s => decide (s.blade.state = .spinup ∧ s.port.answer.result = 1)) = true := by decide

/-- 8.10.1: echoes at 2915 and 1690 us read 499 and 289 mm; the second is close. -/
theorem test_echo :
    let s := { (inState .safe) with contact := { State.reset.contact with
      sonar := ⟨⟨false, .listen 0, none, 0⟩, ⟨false, .idle, none, 0⟩⟩ } }
    stepped (exec (.echoEdge .left 2915) s)
      (fun u => decide (u.contact.sonar.left = ⟨false, .idle, some 499, 0⟩)) = true ∧
    stepped (exec (.echoEdge .left 1690) s)
      (fun u => decide (u.contact.sonar.left = ⟨false, .idle, some 289, 1⟩)) = true ∧
    stepped (exec (.listenTimeout .left 24000) s)
      (fun u => decide (u.contact.sonar.left = ⟨false, .idle, none, 0⟩)) = true := by decide

/-- 8.10.2: E1 to E3 count and E4 does not. -/
theorem test_trap_area :
    let entry (t : Time) (x y : Int) : Entry := ⟨t, 1, x, y, 0, none, none, none⟩
    let new := entry 158900 1300 2100
    trapCounts 60 600 new (entry 100000 1000 2000) = true ∧ trapCounts 60 600 new (entry 115400 1420 2310) = true ∧
      trapCounts 60 600 new (entry 131050 1180 1650) = true ∧ trapCounts 60 600 new (entry 150200 5200 800) = false ∧
      trapCounts 60 600 new (entry 98800 1000 2000) = false := by decide

/-- 4.13.1: a bump of the ROLL starts a reflex and suspends it. -/
theorem test_bump :
    stepped (exec (.bumpDebounceExpiry .left) { (running rollFields) with
        partTime := 20
        contact := { State.reset.contact with bump := ⟨.closing, .opened⟩, bumpTimer := ⟨some 20, none⟩ } })
      (fun s => decide (s.contact.stage = .stopping ∧ s.drive.suspended = true ∧ s.contact.list.length = 1)) = true := by
  decide

/-- R137: a closing starts the 20 ms debounce. -/
theorem test_bumpEdge :
    stepped (exec (.bumpEdge .right .closing) { (inState .safe) with partTime := 100 })
      (fun s => decide (s.contact.bump.right = .closing ∧ s.contact.bumpTimer.right = some 120)) = true := by decide

/-- R138, R139: a ping triggers SONAR_L, and its window opens at the pulse's end. -/
theorem test_ping :
    stepped (exec .pingTimerExpiry { (inState .armed) with
        partTime := 40
        contact := { State.reset.contact with pinging := true, pingTimer := some 40, nextSensor := .left } })
      (fun s => decide (s.contact.sonar.left.trigger = true ∧ s.contact.nextSensor = .right ∧
        s.contact.pingTimer = some 80)) = true ∧
    stepped (exec (.triggerPulseEnd .left 55) { (inState .armed) with
        contact := { State.reset.contact with sonar := ⟨⟨true, .idle, none, 0⟩, ⟨false, .idle, none, 0⟩⟩ } })
      (fun s => decide (s.contact.sonar.left = ⟨false, .listen 55, none, 0⟩)) = true := by decide

/-! ### Guard, dock -/

/-- 4.13.2, 9.7.2: the left lift input's debounce expires during a spin of +400, -400: the machine trips on LIFT, the
targets are 0 and the duties are the integrators' +10 and -5. -/
theorem test_lift_trips :
    stepped (exec (.liftDebounceExpiry .left) { (running { rollFields with kind := 2, angle := 0xFFFFC000 }) with
        partTime := 70100
        drive := { State.reset.drive with
          wheels := ⟨{ wheelOf 400 10 510 with measured := 398 }, { wheelOf (-400) (-5) (-505) with measured := -398 }⟩ }
        blade := { State.reset.blade with rpm := 2760 }
        guard := { (inState .armed).guard with lift := ⟨.closing, .opened⟩, liftTimer := ⟨some 70100, none⟩ }
        pins := { State.reset.pins with lift := ⟨true, false⟩ } })
      (fun s => decide (s.guard.machine = .tripped ∧ s.guard.trip.first = some .lift ∧ s.guard.trip.rpm = 2760 ∧
        s.drive.wheels.left.duty = 10 ∧ s.drive.wheels.right.duty = -5 ∧ s.word 0x5C0 = 4 ∧ s.word 0x5D4 = 16)) =
      true := by decide

/-- 9.7.2: a closing of a lift input starts its 100 ms debounce. -/
theorem test_liftEdge :
    stepped (exec (.liftEdge .left .closing) { (inState .armed) with partTime := 70000 })
      (fun s => decide (s.guard.lift.left = .closing ∧ s.guard.liftTimer.left = some 70100)) = true := by decide

/-- R162, R167: the stop key pressed while TRIPPED on LIFT joins the further causes. -/
theorem test_stopKey_further :
    stepped (exec (.stopKeyEdge .closing) { (inState .tripped) with guard := { (inState .tripped).guard with
        trip := { State.reset.guard.trip with first := some .lift } } })
      (fun s => decide (s.guard.trip.first = some .lift ∧ s.guard.trip.further = TripCause.stopKey.bit)) = true := by
  decide

/-- R163, 10.7.3: a no-signal finding in SAFE has no effect but on its timer. -/
theorem test_noSignal_safe :
    let s := { (inState .safe) with partTime := 2000, guard := { (inState .safe).guard with noSignal := some 2000 } }
    stepped (exec .noSignalTimerExpiry s)
      (fun u => decide (u = { s with guard := { s.guard with noSignal := none } })) = true := by decide

/-- R165: silence while ARMED trips on HOST_SILENT. -/
theorem test_silence_trips :
    stepped (exec .silenceTimerExpiry { (inState .armed) with
        partTime := 1000, guard := { (inState .armed).guard with silence := some 1000 } })
      (fun s => decide (s.guard.machine = .tripped ∧ s.guard.trip.first = some .hostSilent)) = true := by decide

/-- 10.7.1: a sample of 191 against DOCK_V 180 makes the sense RISING. -/
theorem test_contactSample :
    stepped (exec (.contactSample 191) { (inState .safe) with partTime := 52400, dock := { State.reset.dock with timer := 52400 } })
      (fun s => decide (s.dock.sense = .rising ∧ s.dock.senseStart = some 52400)) = true := by decide

/-! ### Requests -/

/-- 9.7.1, 11.9.1: ARM(0) with loop 0 PRESENT is DONE; with the blade BRAKING it is refused BLADE_BUSY. -/
theorem test_arm :
    let s := { (inState .safe) with
      loops := { State.reset.loops with recs := { State.reset.loops.recs with
        l0 := { State.reset.loops.recs.l0 with state := .present } } } }
    stepped (exec .arm s) (fun u => decide (u.guard.machine = .armed ∧ u.port.answer = ⟨1, 1, 0, 1⟩)) = true ∧
    stepped (exec .arm { s with blade := { s.blade with state := .braking } })
      (fun u => decide (u.guard.machine = .safe ∧ u.port.answer = ⟨1, 3, 6, 1⟩)) = true := by decide

/-- R161: DISARM while ARMED. -/
theorem test_disarm :
    stepped (exec .disarm (running rollFields))
      (fun s => decide (s.guard.machine = .safe ∧ s.plan.state = .idle ∧ s.word 0x5D4 = 17)) = true := by decide

/-- 9.7.2: CLEAR_TRIP at 76000 makes the machine SAFE and marks the record. -/
theorem test_clearTrip :
    stepped (exec .clearTrip { (inState .tripped) with
        partTime := 76000
        loops := { State.reset.loops with recs := { State.reset.loops.recs with
          l0 := { State.reset.loops.recs.l0 with state := .present } } } })
      (fun s => decide (s.guard.machine = .safe ∧ s.guard.trip.cleared = true ∧
        s.guard.trip.clearTime = some 76000)) = true := by decide

/-- R77: SET_POSE takes x from words 0 and 1, y from words 2 and 3 and the heading from word 4. -/
theorem test_setPose :
    let m := State.reset.mem.writeAll [(0x042, 5), (0x043, 1), (0x044, 0xFFFE), (0x045, 0xFFFF), (0x046, 9)]
    stepped (exec .setPose { (inState .safe) with mem := m })
      (fun s => decide (s.drive.x = 65541 * 256 ∧ s.drive.y = -512 ∧ s.drive.heading = 9)) = true := by decide

/-- R146: CLEAR_CONTACTS empties the list. -/
theorem test_clearContacts :
    stepped (exec .clearContacts { (inState .safe) with contact := { State.reset.contact with
        list := [⟨1, 1, 0, 0, 0, none, none, some .held⟩] } })
      (fun s => decide (s.contact.list = [] ∧ s.port.answer.result = 1)) = true := by decide

/-- The machine on its charge contacts with loop 0 heard at REAR. -/
def onContacts (m : MachineState) : State :=
  let s := inState m
  let rear : SubRecord := ⟨.present, .inside, some .positive, 3, 99, some .positive, some 9, 30⟩
  let l0 : LoopRec := ⟨.present, ⟨s.loops.recs.l0.coils.left, s.loops.recs.l0.coils.right, rear⟩⟩
  { s with
    dock := { s.dock with sense := .present }
    loops := { s.loops with recs := { s.loops.recs with l0 := l0 } } }

/-- R182, R183: PARK on the contacts with loop 0 heard at REAR, and WAKE. -/
theorem test_park_wake :
    stepped (exec .park (onContacts .safe))
      (fun s => decide (s.guard.machine = .parked ∧ s.loops.windowTimer = 2000 ∧ s.word 0x002 = 4)) = true ∧
    stepped (exec .wake (inState .parked))
      (fun s => decide (s.guard.machine = .safe ∧ s.dock.record.wakeReason = .wake)) = true := by decide

/-- R21: SELF_CHECK in SAFE is DONE and in hand. -/
theorem test_selfCheck :
    stepped (exec .selfCheck (inState .safe))
      (fun s => decide (s.recv.check.result = .running ∧ s.port.inHand = .selfCheck 1 ∧ s.loops.checkFlag = true)) =
      true := by decide

/-- 11.9.1: RESTART from count 42 is request 43, in hand, with the answer record unchanged. -/
theorem test_restart :
    stepped (exec .restart { (inState .safe) with port := { State.reset.port with
        requestCount := 42, answer := ⟨1, 3, 6, 42⟩ } })
      (fun s => decide (s.guard.machine = .start ∧ s.port.inHand = .restart 43 ∧ s.port.answer = ⟨1, 3, 6, 42⟩)) =
      true := by decide

/-- R190: code 13 is answered UNKNOWN; 9.7.1: a request in START is answered NOT_READY. -/
theorem test_turned_away :
    stepped (exec (.unknownRequest 13) (inState .safe)) (fun s => decide (s.port.answer = ⟨13, 7, 0, 1⟩)) = true ∧
    stepped (exec .selfCheck (inState .start)) (fun s => decide (s.port.answer = ⟨11, 6, 0, 1⟩)) = true := by decide

/-! ### Exchange Port and notices -/

/-- R192: the heartbeat word while ARMED. -/
theorem test_heartbeat :
    stepped (exec (.heartbeatWrite 8) { (inState .armed) with partTime := 5 })
      (fun s => decide (s.word 0x040 = 8 ∧ s.guard.silence = some 1005)) = true := by decide

/-- 3.9.2: a write to an ACTIVE slot is dropped and counted; FREE into a QUEUED slot is stored. -/
theorem test_hostWrite :
    stepped (exec (.hostWrite 0x6A0 0) { (inState .armed) with mem := State.reset.mem.write 0x6A0 2 })
      (fun s => decide (s.word 0x6A0 = 2 ∧ s.port.faults = 1 ∧ s.notice.port.status = 2)) = true ∧
    stepped (exec (.hostWrite 0x6A0 0) { (inState .armed) with mem := State.reset.mem.write 0x6A0 1 })
      (fun s => decide (s.word 0x6A0 = 0 ∧ s.port.faults = 0)) = true := by decide

/-- The source states of step 4 of 12.4: REFLEX and PORT pending, PLAN under service. -/
def servicing : State :=
  { (inState .safe) with
    notice := { State.reset.notice with
      reflex := { State.reset.notice.reflex with status := 1, pending := true, count := 1 }
      port := { State.reset.notice.port with status := 2, pending := true, count := 1 }
      plan := { State.reset.notice.plan with service := true }
      atnEnable := true
      line := true }
    mem := State.reset.mem.write 0x062 0x7F }

/-- 12.4, steps 4 to 6. -/
theorem test_servicing :
    servicing.notice.serviceWord = 0x0842 ∧
    stepped (exec .attentionAck servicing)
      (fun s => decide (s.notice.serviceWord = 0x0A40 ∧ s.notice.line = false ∧ s.port.dataLines = 0x8101)) = true ∧
    stepped (exec .serviceEnd { servicing with notice := { servicing.notice with
        reflex := { State.reset.notice.reflex with service := true } } })
      (fun s => decide (s.notice.serviceWord = 0x0840 ∧ s.notice.line = false)) = true := by decide

/-- 12.4: in peek mode the read leaves every flag, until a SERVICE write of 0x0001 clears REFLEX. -/
theorem test_peek :
    stepped (exec .attentionPeek { servicing with notice := { servicing.notice with ackMode := true } })
      (fun s => decide (s.notice.serviceWord = 0x0842 ∧ s.notice.line = true ∧ s.port.dataLines = 0x8101)) = true ∧
    stepped (exec (.serviceClear 1) servicing)
      (fun s => decide (s.notice.serviceWord = 0x0840 ∧ s.notice.line = false)) = true := by decide

/-- 11.9.2: a refresh from 812 makes OPEN 813 at its start and CLOSE 813 at its end. -/
theorem test_refresh :
    stepped (exec .snapshotTimerExpiry { (inState .safe) with
        partTime := 50
        port := { State.reset.port with snapTimer := 50, snapshot := ⟨none, false⟩ }
        mem := State.reset.mem.writeAll [(0x100, 812), (0x17F, 812)] })
      (fun s => decide (s.word 0x100 = 813 ∧ s.word 0x17F = 812 ∧ s.port.snapTimer = 100)) = true ∧
    stepped (exec (.refreshEnd .snapshot) { (inState .safe) with
        port := { State.reset.port with snapshot := ⟨some [(0x101, 7)], false⟩ }
        mem := State.reset.mem.writeAll [(0x100, 813), (0x17F, 812)] })
      (fun s => decide (s.word 0x17F = 813 ∧ s.word 0x101 = 7)) = true := by decide

/-- R2: the part time wraps. -/
theorem test_tick :
    stepped (exec .partTimeTick { (inState .safe) with partTime := 0xFFFFFFFF })
      (fun s => decide (s.partTime = 0 ∧ s.word 0x003 = 0 ∧ s.word 0x004 = 0)) = true := by decide

/-- R186: a host read of SERVICE by its address, and of any address while a reset lasts. -/
theorem test_hostRead :
    servicing.hostRead 0xFFD = 0x0842 ∧ servicing.hostRead 0x062 = 0x7F ∧
      { servicing with resetting := some ⟨.pin, false⟩ }.hostRead 0x062 = 0 := by decide

/-- R195: an idle microsecond writes the first word still to be written, and no other. -/
theorem test_idle_writes :
    stepped (step { (inState .safe) with port := { State.reset.port with
        snapshot := ⟨some [(0x101, 7), (0x102, 8)], false⟩, loopTable := ⟨none, false⟩, contactList := ⟨none, false⟩ } })
      (fun s => decide (s.word 0x101 = 7 ∧ s.word 0x102 = 0 ∧ s.port.snapshot.writing = some [(0x102, 8)])) = true := by
  decide

/-- R145, R196: CLEAR_CONTACTS on an empty list starts a refresh of its mirror. -/
theorem test_clear_empty :
    stepped (exec .clearContacts { (inState .safe) with port := { State.reset.port with contactList := ⟨none, false⟩ } })
      (fun s => decide (s.port.contactList.writing.isSome = true ∧ s.word 0x200 = 2)) = true := by decide

/-- No row of the table has bits. -/
theorem test_no_table_word : decodeTableWord 16 0x0842 = none := by decide

/-! ### Hypotheses that some state meets, obligation by obligation -/

/-- A timer that is stopped, or not due, is not due. -/
theorem not_due {x : Option (BitVec 32)} {t : BitVec 32} (h : dueOpt t x = false) : ∀ e, x = some e → due t e = false := by
  intro e he; subst he; exact h

/-- No self-check is in hand. -/
theorem no_check {s : State} (h : s.port.inHand = .none) : ∀ n, s.port.inHand ≠ .selfCheck n := by
  intro n hn; rw [h] at hn; cases hn

/-- A command in front; an empty queue outside a reset, with a refresh writing two words, and in a reset. -/
theorem witness_StepRunsFrontCommand :
    { State.reset with pending := [.pin] }.pending = .pin :: [] ∧
      (let s := { State.reset with port := { State.reset.port with contactList := ⟨some [(0x201, 1), (0x202, 2)], false⟩ } }
       s.pending = [] ∧ s.resetting = none ∧ s.port.contactList.writing = some [(0x201, 1), (0x202, 2)]) ∧
      { State.reset with resetting := some ⟨.pin, false⟩ }.pending = [] ∧
      { State.reset with resetting := some ⟨.pin, false⟩ }.resetting.isSome = true := by decide

theorem witness_ResetsBeginAndLast :
    State.reset.resetting = none ∧ { State.reset with resetting := some ⟨.pin, false⟩ }.resetting.isSome = true := by
  decide

/-- The reset counts below and at the top of 255, POWER and STROBE, TRIPPED and PARKED. -/
theorem witness_ResetEndInitialises :
    (let s := { (inState .tripped) with resetting := some ⟨.power, false⟩ }
     s.resetting = some ⟨.power, false⟩ ∧ s.guard.machine = .tripped ∧ s.guard.resetRecord.count < 255) ∧
    (let s := { (inState .parked) with
       resetting := some ⟨.strobe, true⟩
       guard := { (inState .parked).guard with resetRecord := ⟨.pin, false, none, 255⟩ } }
     s.resetting = some ⟨.strobe, true⟩ ∧ s.guard.machine = .parked ∧ ¬ s.guard.resetRecord.count < 255) ∧
    State.reset.resetting = none := by decide

theorem witness_RestartTaken :
    let s := running rollFields
    s.resetting = none ∧ s.guard.machine ≠ .start ∧ s.plan.active = some (segmentOf rollFields) ∧
      s.activeSlot ≠ some 0 := by decide

theorem witness_PartTimeTick :
    let s := { State.reset with partTime := 0xFFFFFFFF }
    s.resetting = none ∧ MemoryCanonical s := ⟨by decide, by unfold MemoryCanonical; decide⟩

/-- A part whose LEFT channel is the one given, with a blanking interval to the time given, if any. -/
def channelled (c : Channel) (blank : Option Capture) : State :=
  { (inState .safe) with recv := { State.reset.recv with
      blankEnd := blank, channels := State.reset.recv.channels.set .left c } }

/-- A channel with a pulse, held or noted, a decoder and a gap timer. -/
def channelOf (p : Pulse) (held noted : Bool) (d : Decoder) (g : GapTimer) : Channel :=
  ⟨p, held, noted, 90, d, 1000, g, 0, 0, none⟩

/-- A stopped gap timer is not due. -/
theorem gap_not_due {g : GapTimer} {t : Capture} (h : g = .stopped) :
    ∀ e, g = .running e ∨ g = .paused e → due t e = false := by
  subst h; intro e he; rcases he with he | he <;> cases he

/-- Each of the four clauses, the second and third at the last microsecond of the interval; and the internal source. -/
theorem witness_LeadingEdge :
    let t : Capture := 1052
    let free := channelled (channelOf .none false false .hunt .stopped) none
    let blanked := channelled (channelOf .none false false .hunt .stopped) (some 1053)
    let held := channelled (channelOf (.opened 1000 none) true false .hunt .stopped) (some 1053)
    let opened := channelled (channelOf (.opened 1000 none) false false .hunt .stopped) none
    (∀ s ∈ [free, blanked, held, opened], s.resetting = none ∧ dueOpt t s.recv.blankEnd = false ∧
      Heard s t sourceLeading ∧ (s.recv.channels.get .left).gap = .stopped) ∧
    (inInterval.resetting = none ∧ Heard inInterval 5000 sourceLeading ∧ ¬ Heard inInterval 5001 sourceLeading) ∧
    (free.recv.channels.get .left).pulse = .none ∧ free.recv.blankEnd = none ∧
    (blanked.recv.channels.get .left).pulse = .none ∧ blanked.recv.blankEnd.isSome = true ∧
    (held.recv.channels.get .left).pulse ≠ .none ∧ (held.recv.channels.get .left).held = true ∧
    held.recv.blankEnd.isSome = true ∧
    (opened.recv.channels.get .left).pulse ≠ .none ∧ opened.recv.blankEnd = none := by decide

/-- Each clause: no pulse, LOST, held back, a glitch of 24 us, START pulses of 170 and 230 us and a pulse of 231. -/
theorem witness_TrailingEdge :
    let none_ := channelled (channelOf .none false false .hunt .stopped) none
    let lost := channelled (channelOf .lost false false .hunt .stopped) none
    let blanked := channelled (channelOf (.opened 1000 none) false false .hunt .stopped) (some 1053)
    let opened := channelled (channelOf (.opened 1000 (some .negative)) false false .hunt .stopped) none
    (∀ s ∈ [none_, lost, blanked, opened], s.resetting = none ∧ dueOpt 1024 s.recv.blankEnd = false ∧
      Heard s 1024 sourceTrailing ∧
      (s.recv.channels.get .left).gap = .stopped ∧ (s.recv.channels.get .left).held = false) ∧
    (inInterval.resetting = none ∧ Heard inInterval 5200 sourceTrailing ∧ ¬ Heard inInterval 5201 sourceTrailing) ∧
    (none_.recv.channels.get .left).pulse = .none ∧ (lost.recv.channels.get .left).pulse = .lost ∧
    (blanked.recv.channels.get .left).pulse = .opened 1000 none ∧ blanked.recv.blankEnd.isSome = true ∧
    (opened.recv.channels.get .left).pulse = .opened 1000 (some .negative) ∧ opened.recv.blankEnd = none ∧
    since 1024 1000 < 25 ∧ (opened.recv.channels.get .left).decoder = .hunt ∧ 25 ≤ since 1025 1000 ∧
    (some Sample.negative).bind Sample.polarity = some .negative ∧ 170 ≤ since 1170 1000 ∧ since 1230 1000 ≤ 230 ∧
    230 < since 1231 1000 := by decide

/-- A good identity bit at the gaps 30 and 70 and the widths 30, 70, 80 and 120, and a bad one of 71 us. -/
theorem witness_IdentityBit :
    let f : Frame := ⟨.negative, 77, 3, 5⟩
    let s (n : Nat) :=
      channelled (channelOf (.opened (BitVec.ofNat 32 n) (some .negative)) false false (.ident f) .stopped) none
    (∀ n ∈ [1030, 1070],
      let leading := BitVec.ofNat 32 n
      let c := (s n).recv.channels.get .left
      (s n).resetting = none ∧ (s n).recv.blankEnd = none ∧ Heard (s n) 1110 sourceTrailing ∧ c.pulse = .opened leading (some .negative) ∧
        c.held = false ∧ c.decoder = .ident f ∧
        30 ≤ since leading c.prevTrailing ∧ since leading c.prevTrailing ≤ 70 ∧ Polarity.negative = f.start) ∧
    (∀ n ∈ [1060, 1100, 1110, 1150],
      let w := since (BitVec.ofNat 32 n) 1030
      25 ≤ w ∧ (30 ≤ w ∧ w ≤ 70 ∨ 80 ≤ w ∧ w ≤ 120)) ∧
    ¬ (30 ≤ since 1101 1030 ∧ since 1101 1030 ≤ 70 ∨ 80 ≤ since 1101 1030 ∧ since 1101 1030 ≤ 120) := by decide

/-- A good parity bit at RIGHT. -/
abbrev ParityBit (s : State) (t leading : Capture) (f : Frame) : Prop :=
  let c := s.recv.channels.get .right
  s.resetting = none ∧ s.recv.blankEnd = none ∧ Heard s t sourceTrailing ∧
    c.pulse = .opened leading (some .positive) ∧ c.held = false ∧ c.decoder = .parity f ∧
    30 ≤ since leading c.prevTrailing ∧ since leading c.prevTrailing ≤ 70 ∧
    (30 ≤ since t leading ∧ since t leading ≤ 70 ∨ 80 ≤ since t leading ∧ since t leading ≤ 120) ∧
    (onesOf f.value + (if since t leading ≤ 70 then 0 else 1)) % 2 = 1

/-- The parity bit of a frame of code 2: reported in SAFE, dropped under the check flag and, of RIGHT, in PARKED; of codes of
no loop, 6 and 15; and in a self-check, of code 15 and of code 2. -/
theorem witness_FrameReported :
    let two : Frame := ⟨.positive, 77, 4, 2⟩
    let coded (n : Nat) : Frame := ⟨.positive, 77, 4, n⟩
    let s := hearing (.parity two) 700 751
    let checked : State := { s with loops := { s.loops with checkFlag := true } }
    let parked : State := { s with guard := { s.guard with machine := .parked } }
    let checking (n : Nat) : State :=
      { inInterval with recv := { inInterval.recv with channels := (hearing (.parity (coded n)) 5800 5850).recv.channels } }
    ParityBit s 801 751 two ∧ ParityBit checked 801 751 two ∧ ParityBit parked 801 751 two ∧
      ParityBit (hearing (.parity (coded 6)) 700 751) 831 751 (coded 6) ∧
      ParityBit (hearing (.parity (coded 15)) 700 751) 831 751 (coded 15) ∧
      ParityBit (checking 15) 5950 5850 (coded 15) ∧ ParityBit (checking 6) 5950 5850 (coded 6) ∧
      (checking 6).recv.check.result = .running ∧
      s.recv.check.result ≠ .running ∧ s.plan.active = none ∧ s.guard.machine ≠ .parked ∧ s.loops.checkFlag = false ∧
      checked.loops.checkFlag = true ∧ parked.guard.machine = .parked ∧ s.plan.applied.loopMap.get 2 = 2 ∧
      (∀ m : Loop, m < 2 → s.plan.applied.loopMap.get m ≠ 2) ∧ ∀ m, s.plan.applied.loopMap.get m ≠ 6 := by
  refine ⟨?_, ?_, ?_, ?_, ?_, ?_, ?_, ?_, ?_, ?_, ?_, ?_, ?_, ?_, ?_, ?_, ?_⟩ <;> decide

/-- The sample point at 25 us, over-length at 231 us and before it, and a gap timer at and before its expiry. -/
theorem witness_ReceiverTimers :
    let opened := channelled (channelOf (.opened 1000 none) false false .hunt .stopped) none
    let gap := channelled (channelOf .none false false (.ident ⟨.positive, 77, 1, 0⟩) (.running 1071)) none
    opened.resetting = none ∧ (opened.recv.channels.get .left).pulse = .opened 1000 none ∧
      (opened.recv.channels.get .left).decoder = .hunt ∧ due 1231 (1000 + 231) = true ∧ due 1230 (1000 + 231) = false ∧
      gap.resetting = none ∧ (gap.recv.channels.get .left).gap = .running 1071 ∧ due 1071 1071 = true ∧
      due 1070 1071 = false ∧ (gap.recv.channels.get .left).malformed < 65535 ∧
      SourceSends inInterval 5199 ∧ ¬ SourceSends inInterval 5200 ∧
      (gap.recv.channels.get .left).pulse = .none := by decide

/-- The duties 1, 999 and 1000, an interval that runs, and its end with an edge held back: a glitch of 24 us with a gap
timer paused at and after the end, a START pulse of 200 us, a good bit in IDENT, a pulse that breaks the frame and an even
parity. -/
theorem witness_Blanking :
    (∀ d ∈ [1, 999], 0 < d ∧ d < 1000) ∧ Settings.default.blank ≠ 0 ∧
    (let s := { (inState .safe) with blade := { State.reset.blade with duty := 999 } }
     s.resetting = none ∧ s.recv.blankEnd = none ∧ s.plan.applied.blank ≠ 0 ∧ 0 < s.blade.duty ∧ s.blade.duty < 1000) ∧
    due 1023 1024 = false ∧
    ∀ c ∈ [(1000, (channelOf (.opened 1000 none) true false .hunt (.paused 1024))),
        (1000, channelOf (.opened 1000 none) true false .hunt (.paused 1025)),
        (824, channelOf (.opened 824 (some .negative)) true true .hunt .stopped),
        (974, channelOf (.opened 974 (some .negative)) true false (.ident ⟨.negative, 77, 3, 5⟩) (.paused 990)),
        (974, channelOf (.opened 974 (some .positive)) true false (.ident ⟨.negative, 77, 3, 5⟩) (.paused 990)),
        (974, channelOf (.opened 974 (some .negative)) true false (.parity ⟨.negative, 77, 4, 5⟩) (.paused 990))],
      let s := channelled c.2 (some 1024)
      s.resetting = none ∧ s.recv.blankEnd = some 1024 ∧ due 1024 1024 = true ∧
        (∀ i : Coil, (s.recv.channels.get i).held = true →
          (∃ leading sample, (s.recv.channels.get i).pulse = .opened leading sample) ∧
          ∀ f, (s.recv.channels.get i).decoder = .parity f →
            ∀ leading sample, (s.recv.channels.get i).pulse = .opened leading sample →
              sample.bind Sample.polarity ≠ some f.start ∨
                (onesOf f.value + (if since 1024 leading ≤ 70 then 0 else 1)) % 2 = 0) := by
  refine ⟨by decide, by decide, by decide, by decide, fun c hc => ⟨rfl, rfl, rfl, fun i hi => ?_⟩⟩
  simp only [List.mem_cons, List.not_mem_nil, or_false] at hc
  cases i
  case right => cases hi
  case rear => cases hi
  case left =>
    rcases hc with rfl | rfl | rfl | rfl | rfl | rfl <;> refine ⟨⟨_, _, rfl⟩, fun f hf l sm hp => ?_⟩ <;> cases hf
    cases hp; decide

/-- The request in SAFE; the third interval at 50 ms; the end at 200 ms; and no check. -/
theorem witness_SelfCheck :
    ((inState .safe).resetting = none ∧ (inState .safe).guard.machine = .safe ∧ (inState .safe).port.inHand = .none) ∧
    (let s := { (inState .safe) with partTime := 200, recv := { State.reset.recv with
       check := { State.reset.recv.check with result := .running, start := 0, begun := 7 } } }
     s.resetting = none ∧ s.recv.check.result = .running ∧ s.recv.check.begun < 8 ∧
       25 * s.recv.check.begun ≤ since s.partTime s.recv.check.start ∧ 200 ≤ since s.partTime s.recv.check.start) ∧
    (inState .safe).recv.check.result ≠ .running := by decide

/-- A window that is due and judged, in SAFE and in PARKED, one that is passed over, and one that is not due. -/
theorem witness_WindowJudgement :
    (∀ m ∈ [MachineState.safe, .parked],
      let s := { (inState m) with partTime := 500 }
      s.resetting = none ∧ due s.partTime s.loops.windowTimer = true ∧ s.loops.checkFlag = false ∧
        s.loops.spoiled = false ∧ s.plan.active = none ∧ s.plan.applied.loopMap.get 3 ≠ 15 ∧ s.noticesHeld = false) ∧
    (let s := { (inState .parked) with partTime := 499, loops := { State.reset.loops with spoiled := true } }
     s.resetting = none ∧ due s.partTime s.loops.windowTimer = false ∧ s.loops.spoiled = true) ∧
    (let s := { (inState .parked) with partTime := 500, loops := { State.reset.loops with spoiled := true } }
     s.resetting = none ∧ due s.partTime s.loops.windowTimer = true ∧ s.loops.spoiled = true) := by decide

/-- A blade 100,000 us after its last pulse and its brake start is stopped; one microsecond earlier it is not. -/
theorem stopped_at {s : State} {t lp b : Capture} (hl : s.blade.lastPulse = some lp) (hb : s.blade.brakeStart = some b)
    (h : 100000 ≤ since t lp ∧ 100000 ≤ since t b) : Stopped s t :=
  ⟨fun _ hx => Option.some.inj (hl.symm.trans hx) ▸ h.1, fun _ hx => Option.some.inj (hb.symm.trans hx) ▸ h.2⟩

theorem not_stopped_at {s : State} {t lp : Capture} (hl : s.blade.lastPulse = some lp) (h : since t lp < 100000) :
    ¬ Stopped s t := fun k => Nat.not_lt.mpr (k.1 lp hl) h

/-- A blade that brakes, its last pulse at 100 and the brake's start at 0, its period and its brake timer due. -/
def slowing (b : BladeState) (s : State) : State :=
  { s with
    partTime := 2000
    blade := { s.blade with
      state := b, jamPhase := some .brake, lastPulse := some 100, brakeStart := some 0, brakeTimer := some 2000
      timer := 2000 } }

theorem stopped_slowing (b : BladeState) (s : State) : Stopped (slowing b s) 100100 ∧ ¬ Stopped (slowing b s) 100099 :=
  ⟨stopped_at rfl rfl (by decide), not_stopped_at rfl (by decide)⟩

/-- Both orders, each as the first and as the second to come, with a RESTART in hand. -/
theorem witness_StartEndsAtWindow :
    let s (judged off : Bool) : State := { (inState .start) with
      partTime := 500
      port := { State.reset.port with inHand := .restart 9 }
      guard := { (inState .start).guard with windowJudged := judged, bladeOff := off } }
    (∀ b : Bool, (s false b).resetting = none ∧ due (s false b).partTime (s false b).loops.windowTimer = true ∧
      (s false b).loops.checkFlag = false ∧ (s false b).loops.spoiled = false ∧ (s false b).plan.active = none ∧
      (s false b).guard.machine = .start ∧ (s false b).guard.bladeOff = b ∧ (s false b).port.inHand = .restart 9) ∧
    (∀ b : Bool, let u := slowing .braking (s b false)
      u.resetting = none ∧ u.guard.machine = .start ∧ u.blade.state = .braking ∧
        due u.partTime u.blade.timer = true ∧ u.blade.brakeTimer = some 2000 ∧ due u.partTime 2000 = true ∧
        u.guard.windowJudged = b ∧ u.port.inHand = .restart 9) ∧
    ∀ b : Bool, Stopped (slowing .braking (s b false)) 100100 :=
  ⟨by decide, by decide, fun _ => (stopped_slowing _ _).1⟩

/-- The control period is due, and not due one millisecond earlier; a ROLL that does not end in it, and no hazard. -/
theorem witness_ControlPeriodAdvances :
    let s := atPeriod (running rollFields)
    s.resetting = none ∧ due s.partTime s.drive.timer = true ∧ due (s.partTime - 1) s.drive.timer = false ∧
      s.plan.active = some (segmentOf rollFields) ∧ ¬ BasicEnds s (segmentOf rollFields) ∧
      s.loops.posClass ≠ .outsideAll := by decide

/-- No pulse, a pulse 249,999 us old and one 250,000 us old. -/
theorem witness_MeasuredSpeedAndDuty :
    let s := { (atPeriod (running rollFields)) with drive := { (running rollFields).drive with
      wheels := ⟨{ wheelOf 0 0 0 with lastPulse := some 0, period := some 9830 }, wheelOf 0 0 0⟩ } }
    s.resetting = none ∧ due s.partTime s.drive.timer = true ∧ (s.drive.wheels.get .left).lastPulse = some 0 ∧
      (s.drive.wheels.get .left).period = some 9830 ∧ since 249999 0 < 250000 ∧ 250000 ≤ since 250000 0 ∧
      (s.drive.wheels.get .right).lastPulse = none := by decide

theorem witness_RateLimit :
    let s := atPeriod (running rollFields)
    s.resetting = none ∧ due s.partTime s.drive.timer = true := by decide

/-- A control period of the armed machine at level readings, off OUTSIDE_ALL, finds no hazard. -/
theorem calm {s : State} (h : s.resetting = none ∧ due s.partTime s.drive.timer = true ∧ s.guard.machine = .armed ∧
    s.loops.posClass ≠ .outsideAll ∧ slopeAt 128 128 < s.plan.applied.slopeTrip) : CalmPeriod s 128 128 :=
  ⟨h.1, h.2.1, h.2.2.1, Or.inl h.2.2.2.1, Or.inl h.2.2.2.2⟩

/-- An active segment of the given words in slot 14, in a control period at the part time given. -/
def periodAt (now : Time) (f : Fields) : State :=
  { (running f) with partTime := now, drive := { State.reset.drive with timer := now, choice := .kind } }

theorem calm_periodAt (now : Time) (f : Fields) (h : due now now = true) : CalmPeriod (periodAt now f) 128 128 :=
  calm ⟨rfl, h, rfl, (by decide : PosClass.unknown ≠ PosClass.outsideAll), (by decide : 0 < Settings.default.slopeTrip)⟩

/-- ROLL, TURN and PAUSE one step before their ends, and at them: 10 ms of a PAUSE, 1 s of a time limit. -/
theorem witness_RollDrives :
    let turn : Fields := { rollFields with kind := 2, angle := 8192 }
    let pause (ms : BitVec 32) : Fields := { rollFields with kind := 3, distance := ms }
    let timed : Fields := { rollFields with timeLimit := 1 }
    (∀ now f, due now now = true → CalmPeriod (periodAt now f) 128 128) ∧
    (∀ f ∈ [rollFields, turn, pause 11, timed], (periodAt 999 f).plan.active = some (segmentOf f) ∧
      (f.kind = 1 ∨ f.kind = 2 ∨ f.kind = 3) ∧ (periodAt 999 f).contact.stage = .quiet ∧
      ¬ BasicEnds (periodAt 999 f) (segmentOf f) ∧ (periodAt 999 f).drive.suspended = false ∧
      (periodAt 999 f).contact.stall = ⟨none, none⟩) ∧
    BasicEnds (periodAt 999 (pause 10)) (segmentOf (pause 10)) ∧ ¬ TimeUp (periodAt 999 (pause 10)) (segmentOf (pause 10)) ∧
    BasicEnds (periodAt 1000 timed) (segmentOf timed) ∧ TimeUp (periodAt 1000 timed) (segmentOf timed) ∧
    rollFields.next = 255 :=
  ⟨calm_periodAt, by decide, by decide, by decide, by decide, by decide, by decide⟩

/-- Pulses at and one microsecond under the shortest intervals. -/
theorem witness_PulseInputs :
    (inState .safe).resetting = none ∧ ((inState .safe).drive.wheels.get .left).lastPulse = none ∧
      (inState .safe).blade.lastPulse = none ∧ 200 ≤ since 1200 1000 ∧ since 1199 1000 < 200 ∧
      1000 ≤ since 2000 1000 ∧ since 1999 1000 < 1000 := by decide

/-- Slot 5 QUEUED with a kind, the loop 0 and the word of end_on, and the argument word 5. -/
def queuedWatch (kind endOn : Word) : Memory := ((queued kind State.reset.mem).write 0x4B3 endOn).write 0x042 5

/-- The part ARMED with every loop WEAK. -/
def mapped (s : State) : State :=
  { s with loops := { s.loops with recs := s.loops.recs.map (fun r => { r with state := .weak }) } }

/-- ARMED and waiting for slot 5, the waiting check due at 10 ms. -/
def waitingWith (m : Memory) : State :=
  mapped { (inState .armed) with
    partTime := 10
    plan := { State.reset.plan with state := .waitingNext, waiting := some 5, waitTimer := some 10 }
    mem := m }

/-- Each kind, the watched ones with and without a watch, runs on when the waiting check finds it. -/
theorem runs_on : ∀ k ∈ [((1 : Word), (0 : Word)), (1, 3), (2, 0), (3, 0), (4, 0), (4, 2), (5, 0), (6, 0)],
    RunsOn (waitingWith (queuedWatch k.1 k.2)) 5 := by
  intro k hk; fin_cases hk <;> refine ⟨?_, ?_, ?_, ?_, ?_, ?_⟩ <;> decide +kernel

/-- A waiting slot that is FREE, and one that is QUEUED with a segment of each kind, the wait timer at and before its expiry;
a hold timer with the blade cutting. -/
theorem witness_PlanTimers :
    let hold := { (running rollFields) with
      partTime := 3000
      plan := { (running rollFields).plan with holdTimer := some 3000 }
      blade := { State.reset.blade with state := .cutting, effective := .cut } }
    (∀ m, (waitingWith m).resetting = none ∧ (waitingWith m).plan.waitTimer = some 10 ∧
      (waitingWith m).plan.waiting = some 5 ∧ (waitingWith m).guard.machine = .armed ∧
      (waitingWith m).contact.stage = .quiet) ∧ due 10 10 = true ∧ due 9 10 = false ∧
      (waitingWith State.reset.mem).slotState 5 ≠ slotQueued ∧
      (∀ k ∈ [((1 : Word), (0 : Word)), (1, 3), (2, 0), (3, 0), (4, 0), (4, 2), (5, 0), (6, 0)],
        RunsOn (waitingWith (queuedWatch k.1 k.2)) 5) ∧
      (waitingWith (queuedWatch 4 2)).word 0x0BF = 0 ∧ (waitingWith (queuedWatch 4 2)).plan.appliedGen = 0 ∧
      (waitingWith (queuedWatch 4 2)).mem.wf = true ∧
      (inState .armed).plan.waitTimer = none ∧ (inState .armed).plan.holdTimer = none ∧
      hold.plan.holdTimer = some 3000 ∧ due hold.partTime 3000 = true ∧
      (hold.blade.state = .spinup ∨ hold.blade.state = .cutting) ∧
      ¬ (State.reset.blade.state = .spinup ∨ State.reset.blade.state = .cutting) :=
  ⟨fun _ => ⟨rfl, rfl, rfl, rfl, rfl⟩, by decide, by decide, by decide, runs_on, by decide, by decide, by decide, by decide,
    by decide, by decide, by decide, by decide, by decide⟩

/-- A blade in a state with the last Hall pulse and period given, its period due at part time 0. -/
def blading (b : BladeState) (lp : Option Capture) (p : Option Nat) : State :=
  { (inState .armed) with blade := { State.reset.blade with state := b, lastPulse := lp, period := p, timer := 0 } }

/-- SPINUP at 80 % of 2800 and just under it, CUTTING at 30 %, and OFF; BRAKING and a jam's BRAKE, final or not, stopped and
one microsecond before it, with the directive OFF and CUT. -/
theorem witness_BladePeriod :
    (let slow (b : BladeState) (final : Bool) (d : Directive) : State := slowing b { (inState .armed) with
       plan := { State.reset.plan with standing := d }, blade := { State.reset.blade with final := final } }
     (∀ b d final, Stopped (slow b final d) 100100 ∧ ¬ Stopped (slow b final d) 100099) ∧
     (∀ b ∈ [BladeState.braking, .jammed], ∀ d ∈ [Directive.off, .cut], ∀ final ∈ [true, false],
       let s := slow b final d
       s.resetting = none ∧ due s.partTime s.blade.timer = true ∧ s.blade.state = b ∧ s.blade.jamPhase = some .brake ∧
         s.blade.final = final ∧ s.effectiveDirective = d ∧ s.guard.machine ≠ .start)) ∧
    (∀ b ∈ [BladeState.spinup, .cutting, .off],
      (blading b none none).resetting = none ∧ due (blading b none none).partTime (blading b none none).blade.timer = true ∧
        (blading b none none).blade.state = b) ∧
    due 0 1 = false ∧ max 2000 (min 4000 ((inState .armed).word 0x064).toNat) = 2800 ∧
    2800 * 80 / 100 ≤ 30000000 / max 13392 0 ∧ 30000000 / max 13393 0 < 2800 * 80 / 100 + 1 ∧
    30000000 / max 13400 0 < 2800 * 80 / 100 ∧ 2800 * 30 / 100 ≤ 30000000 / max 35714 0 ∧
    30000000 / max 5000 0 ≤ 6000 ∧
    since (blading .spinup none none).partTime (blading .spinup none none).blade.spinupEntry < 3000 :=
  ⟨⟨fun _ _ _ => stopped_slowing _ _, by decide⟩, by decide, by decide, by decide, by decide, by decide, by decide, by decide,
    by decide, by decide⟩

/-- A start stall at 3000 ms and a jam at 500 ms, the blade at rest or turning at 600 rpm; a last jam 30,000 and 30,001 ms
back. -/
theorem witness_JamEvent :
    let stall (lp : Option Capture) := { (blading .spinup lp (some 50000)) with partTime := 3000 }
    let jam (lp : Option Capture) := { (blading .cutting lp (some 50000)) with
      partTime := 500
      blade := { (blading .cutting lp (some 50000)).blade with lowStart := some 0, lastJam := some 4294937796 } }
    (∀ lp, (stall lp).resetting = none ∧ due (stall lp).partTime (stall lp).blade.timer = true ∧
      (stall lp).guard.machine = .armed ∧ (stall lp).blade.lastPulse = lp ∧ (stall lp).blade.period = some 50000 ∧
      (stall lp).blade.state = .spinup ∧ 3000 ≤ since (stall lp).partTime (stall lp).blade.spinupEntry) ∧
    (∀ lp, (jam lp).resetting = none ∧ due (jam lp).partTime (jam lp).blade.timer = true ∧
      (jam lp).guard.machine = .armed ∧ (jam lp).blade.lastPulse = lp ∧ (jam lp).blade.period = some 50000 ∧
      (jam lp).blade.state = .cutting ∧ (jam lp).blade.lowStart = some 0 ∧ 500 ≤ since (jam lp).partTime 0 ∧
      (jam lp).blade.lastJam = some 4294937796) ∧
    since (500 : Time) 4294937796 = 30000 ∧ since (501 : Time) 4294937796 = 30001 ∧
    max 2000 (min 4000 ((inState .armed).word 0x064).toNat) = 2800 ∧
    since 2000 1000 < 100000 ∧ 30000000 / max 50000 (since 2000 1000) = 600 ∧
    600 < 2800 * 80 / 100 ∧ 600 < 2800 * 30 / 100 :=
  ⟨fun _ => ⟨rfl, (by decide : due (3000 : Time) 0 = true), rfl, rfl, rfl, rfl, (by decide : 3000 ≤ since (3000 : Time) 0)⟩,
    fun _ => ⟨rfl, (by decide : due (500 : Time) 0 = true), rfl, rfl, rfl, rfl, rfl,
      (by decide : 500 ≤ since (500 : Time) 0), rfl⟩,
    by decide, by decide, by decide, by decide, by decide, by decide, by decide⟩

/-- The brake timer of BRAKING and of both jams, and the wait timer, at and before their expiry, with the directive OFF and
CUT. -/
theorem witness_BladeTimers :
    let timed (b : BladeState) (final : Bool) (d : Directive) : State := { (inState .armed) with
      partTime := 2000
      plan := { State.reset.plan with standing := d }
      blade := { State.reset.blade with
        state := b, final := final, brakeTimer := some 2000, waitTimer := some 2000 } }
    (∀ d ∈ [Directive.off, .cut], ∀ s ∈ [timed .braking false d, timed .jammed true d, timed .jammed false d],
      s.resetting = none ∧ s.guard.machine ≠ .start ∧ s.effectiveDirective = d ∧
        s.blade.brakeTimer = some 2000 ∧ s.blade.waitTimer = some 2000 ∧ due s.partTime 2000 = true) ∧
    due 1999 2000 = false ∧ (inState .armed).blade.brakeTimer = none ∧ (inState .armed).blade.waitTimer = none := by
  decide

/-- A closing and an opening of inputs that are OPEN, CLOSING and CLOSED. -/
theorem witness_InputEdges :
    (∀ d ∈ [Debounce.opened, .closing, .closed],
      let s := { (inState .safe) with contact := { State.reset.contact with bump := ⟨d, d⟩ } }
      s.resetting = none ∧ s.contact.bump.get .left = d) := by decide

/-- A ROLL under a reflex in the given stage, in a control period at the part time given. -/
def reflexAt (now : Time) (stage : Stage) (r : ReflexRecord) (onContact : Word) : State :=
  let s := periodAt now { rollFields with onContact := onContact }
  { s with
    drive := { s.drive with suspended := true }
    contact := { s.contact with stage := stage, record := r } }

/-- The record of a reflex of activation 1: entry of its stage, distance, turn gone and still time. -/
def reflexRecord (entry : Time) (distance : Nat) (turned : Int) (still : Nat) : ReflexRecord :=
  ⟨0, 1, 1, ⟨none, none⟩, some .right, entry, distance, turned, still, 0⟩

theorem calm_reflexAt (stage : Stage) (r : ReflexRecord) (c : Word) : CalmPeriod (reflexAt 300 stage r c) 128 128 :=
  calm ⟨rfl, (by decide : due (300 : Time) 300 = true), rfl, (by decide : PosClass.unknown ≠ PosClass.outsideAll),
    (by decide : 0 < Settings.default.slopeTrip)⟩

/-- The end of a reflex with slot 5 deferred, a QUEUED PAUSE. -/
def deferred : State :=
  { (waitingWith (queuedWatch 3 0)) with
    partTime := 300
    plan := { State.reset.plan with state := .running, deferred := some 5 }
    drive := { State.reset.drive with timer := 300 }
    contact := { State.reset.contact with stage := .turning, record := reflexRecord 0 0 8192 0 } }

theorem calm_deferred : CalmPeriod deferred 128 128 :=
  calm ⟨rfl, (by decide : due (300 : Time) 300 = true), rfl, (by decide : PosClass.unknown ≠ PosClass.outsideAll),
    (by decide : 0 < Settings.default.slopeTrip)⟩

theorem runs_on_deferred : RunsOn deferred 5 := runs_on (3, 0) (by decide)

/-- An entry of the LEFT bump input at the origin. -/
def bumpEntry (time : Time) : Entry := ⟨time, 1, 0, 0, 0, none, some 14, none⟩

/-- A LEFT debounce that ends at 1000 ms, with entries of the given times, a stage and a count of restarts. -/
def bumping (s : State) (times : List Time) (stage : Stage) (restarts : Nat) : State :=
  { s with
    partTime := 1000
    contact := { s.contact with
      bumpTimer := ⟨some 1000, none⟩, list := times.map bumpEntry, stage := stage
      record := { reflexRecord 0 0 0 0 with restarts := restarts } } }

/-- A contact with no entry 50 ms old or less: with no segment, in each stage, with two near entries and with three
(TRAP_COUNT is 4), the second restart and the third; and a deferral that traps. -/
theorem witness_BumpAppends :
    let near (s : State) (e : Entry) : Bool :=
      decide (since s.partTime e.time ≤ s.plan.applied.trapWindow * 1000 ∧
        e.x * e.x + e.y * e.y ≤ (s.plan.applied.trapRadius : Int) * s.plan.applied.trapRadius)
    let area (s : State) : Prop := s.plan.applied.trapCount ≤ (s.contact.list.filter (near s)).length + 1
    let waits : State := { (inState .armed) with plan := { State.reset.plan with state := .running, deferred := some 5 } }
    (∀ s ∈ [inState .armed, running rollFields, waits], ∀ times ∈ [[948, 949], [947, 948, 949]],
      ∀ stage ∈ [Stage.quiet, .stopping, .backing, .turning], ∀ restarts ∈ [1, 2],
      let b := bumping s times stage restarts
      b.resetting = none ∧ b.guard.machine = .armed ∧ b.contact.list.getLast? = some (bumpEntry 949) ∧
        50 < since b.partTime 949 ∧ b.contact.bumpTimer.get .left = some 1000 ∧ due b.partTime 1000 = true ∧
        (∀ e ∈ b.contact.list, since b.partTime e.time ≤ 600000) ∧ b.contact.list.length < 8 ∧
        b.contact.stage = stage ∧ b.contact.record.restarts = restarts ∧ (area b ↔ times = [947, 948, 949])) ∧
    (inState .armed).plan.active = none ∧ waits.plan.active = none ∧ waits.plan.state = .running ∧
      waits.plan.deferred = some 5 ∧ (running rollFields).plan.active = some (segmentOf rollFields) ∧
      (running rollFields).plan.state = .running ∧ rollFields.kind = 1 := by decide

/-- R141: a wheel at rest with a duty of 1000 for 300 ms forms a stall contact, which starts the reflex; at 290 ms its start
stands. -/
theorem test_stall_contact :
    let stalled (start : Time) : State :=
      let s := periodAt 300 rollFields
      { s with
        drive := { s.drive with wheels := ⟨wheelOf 300 600 1000, wheelOf 300 600 1000⟩ }
        contact := { s.contact with stall := ⟨some start, none⟩ } }
    stepped (exec (.controlPeriod 300000 128 128) (stalled 0)) (fun u =>
      decide (u.contact.stage = .stopping ∧ u.contact.record.hits = 0x10 ∧ u.contact.stall = ⟨none, some 300⟩)) = true ∧
    stepped (exec (.controlPeriod 300000 128 128) (stalled 10)) (fun u =>
      decide (u.contact.stage = .quiet ∧ 900 ≤ u.drive.wheels.left.duty ∧ u.contact.stall = ⟨some 10, some 300⟩)) = true := by
  decide

/-- R29, R35: a window ended by PARK takes the spoiled flag with it, unless a check is in progress (log entry 45). -/
theorem test_park_clears_spoiled :
    let spoiled (check : Bool) : State :=
      { (onContacts .safe) with loops := { State.reset.loops with checkFlag := check, spoiled := true } }
    (loopsEnterParked (spoiled false)).loops.spoiled = false ∧ (loopsEnterParked (spoiled true)).loops.spoiled = true := by
  decide

/-- What the stall clauses suppose of the state: a ROLL that runs on, with one stall start 299 or 300 ms old. -/
theorem witness_StallContacts :
    let s : State := { (periodAt 300 rollFields) with
      contact := { State.reset.contact with stall := ⟨some 0, none⟩ } }
    CalmPeriod (periodAt 300 rollFields) 128 128 ∧ s.contact.stall.get .left = some 0 ∧ 300 ≤ since s.partTime 0 ∧
      since s.partTime 1 < 300 ∧ s.contact.list = [] ∧ s.contact.stage = .quiet ∧ s.plan.state = .running ∧
      s.plan.active = some (segmentOf rollFields) ∧ ¬ BasicEnds s (segmentOf rollFields) ∧ s.drive.suspended = false ∧
      2 ≤ s.plan.applied.trapCount ∧ s.contact.stall.get .right = none :=
  ⟨calm_periodAt 300 rollFields (by decide), rfl, by decide, by decide, rfl, rfl, rfl, rfl, by decide, rfl, by decide, rfl⟩

/-- A debounce at and before its expiry, in SAFE, ARMED with a full list, and in a ROLL with an empty one; STOPPING at 299 and
300 ms, BACKING at REFLEX_BACK and just under it with a still time of 1980 and 1990 ms, TURNING at REFLEX_TURN and just under
it, each on_contact; and a deferred head. -/
theorem witness_BumpContacts :
    (let timed (s : State) : State :=
      { s with partTime := 20, contact := { s.contact with bumpTimer := ⟨some 20, none⟩ } }
     let roll := timed (running rollFields)
     (∀ s ∈ [timed (inState .safe), roll], s.resetting = none ∧ s.contact.bumpTimer.get .left = some 20 ∧
       due s.partTime 20 = true) ∧ due 19 20 = false ∧ (inState .safe).contact.bumpTimer.get .left = none ∧
     (timed (inState .safe)).guard.machine ≠ .armed ∧ roll.guard.machine = .armed ∧ roll.contact.list.length ≤ 8 ∧
     roll.contact.list = [] ∧ roll.contact.stage = .quiet ∧ roll.plan.state = .running ∧
     roll.plan.active = some (segmentOf rollFields) ∧ rollFields.kind = 1 ∧ 2 ≤ roll.plan.applied.trapCount ∧
     (List.replicate 8 (⟨0, 1, 0, 0, 0, none, none, none⟩ : Entry)).length ≤ 8) ∧
    (∀ stage r c, CalmPeriod (reflexAt 300 stage r c) 128 128) ∧
    (∀ stage c entry distance turned still,
      let s := reflexAt 300 stage (reflexRecord entry distance turned still) c
      let seg := segmentOf { rollFields with onContact := c }
      s.resetting = none ∧ s.contact.stall = ⟨none, none⟩ ∧ s.plan.active = some seg ∧ seg.fields.kind = 1 ∧
        ¬ TimeUp s seg ∧ s.drive.suspended = true ∧ s.contact.record.activation = seg.activation ∧
        s.contact.stage = stage ∧ seg.fields.onContact = c ∧ seg.fields.next = 255 ∧ s.plan.watch = none ∧
        ¬ AtBoundary s seg.fields) ∧
    since 300 0 = 300 ∧ since 300 1 = 299 ∧ Settings.default.reflexBack = 300 ∧ 76799 / 256 < 300 ∧ 300 ≤ 76800 / 256 ∧
    Settings.default.reflexTurn = 8192 ∧
    CalmPeriod deferred 128 128 ∧ deferred.contact.stall = ⟨none, none⟩ ∧ deferred.plan.active = none ∧
    deferred.plan.deferred = some 5 ∧ deferred.contact.stage = .turning ∧
    deferred.plan.applied.reflexTurn ≤ (deferred.contact.record.turned + headingTravel deferred).natAbs ∧
    deferred.word 0x0BF = deferred.plan.appliedGen ∧ RunsOn deferred 5 :=
  ⟨by decide, calm_reflexAt,
    fun _ _ _ _ _ _ => ⟨rfl, rfl, rfl, rfl, fun h => h.1 rfl, rfl, rfl, rfl, rfl, rfl, rfl, fun h => h.1 rfl⟩,
    by decide, by decide, by decide, by decide, by decide, by decide, calm_deferred, rfl, rfl, rfl, rfl,
    (by decide : (8192 : Nat) ≤ (8192 + 0 : Int).natAbs), by decide, runs_on_deferred⟩

theorem witness_PingAndTrigger :
    let s := { (inState .armed) with
      partTime := 40
      contact := { State.reset.contact with
        pingTimer := some 40, sonar := ⟨⟨true, .idle, none, 0⟩, ⟨false, .idle, none, 0⟩⟩ } }
    s.resetting = none ∧ s.contact.pingTimer = some 40 ∧ due s.partTime 40 = true ∧ due 39 40 = false ∧
      (s.contact.sonar.get .left).trigger = true ∧ (s.contact.sonar.get .right).trigger = false ∧
      (inState .armed).contact.pingTimer = none := by decide

/-- Echoes at 1199, 1200, 1750 (300 mm, SONAR_STOP) and 24,000 us, timeouts at 23,999 and 24,000 us, and IDLE; a second close
range in SAFE, in a ROLL and in a DOCK. -/
theorem witness_EchoWindow :
    let heard (s : State) (close : Nat) : State := { s with contact := { State.reset.contact with
      sonar := ⟨⟨false, .listen 0, none, close⟩, ⟨false, .idle, none, 0⟩⟩ } }
    let dock : Fields := { rollFields with kind := 5 }
    (∀ s ∈ [heard (inState .safe) 0, heard (inState .safe) 1, heard (running rollFields) 1, heard (running dock) 1],
      s.resetting = none ∧ (s.contact.sonar.get .left).window = .listen 0 ∧
        (s.contact.sonar.get .right).window = .idle ∧ s.plan.applied.sonarStop = 300) ∧
      ((heard (inState .safe) 0).contact.sonar.get .left).close = 0 ∧
      ((heard (running rollFields) 1).contact.sonar.get .left).close ≠ 0 ∧
      (inState .safe).guard.machine ≠ .armed ∧ (running rollFields).guard.machine = .armed ∧
      (running rollFields).plan.active = some (segmentOf rollFields) ∧ rollFields.kind = 1 ∧ rollFields.kind ≠ 5 ∧
      (running rollFields).plan.state = .running ∧ (heard (running rollFields) 1).contact.list = [] ∧
      (heard (running rollFields) 1).contact.stage = .quiet ∧ 2 ≤ (running rollFields).plan.applied.trapCount ∧
      (running dock).plan.active = some (segmentOf dock) ∧ (segmentOf dock).fields.kind = 5 ∧
      since 1199 0 < 1200 ∧ 1200 ≤ since 1200 0 ∧
      since 24000 0 ≤ 24000 ∧ 24000 ≤ since 24000 0 ∧ since 23999 0 < 24000 ∧
      300 ≤ since 1750 0 * 343 / 2000 ∧ since 1749 0 * 343 / 2000 < 300 := by decide

/-- A blade that is OFF without a duty. -/
theorem blade_off {s : State} (h : s.blade.state = .off) (d : s.blade.duty = 0) : BladeLaw s :=
  ⟨fun hd => absurd hd (by rw [d]; decide), fun hd => by rcases hd with hd | hd <;> rw [h] at hd <;> cases hd⟩

/-- The four findings while ARMED in a ROLL, each timer at its expiry; ESCAPED at its limit; TILT after 1000 ms and its start;
BLADE_RUNAWAY at 6001 rpm. -/
theorem witness_FindingTrips :
    (let s : State := { (running rollFields) with
       partTime := 1000
       guard := { (inState .armed).guard with
         liftTimer := ⟨some 1000, none⟩, noSignal := some 1000, silence := some 1000 } }
     s.resetting = none ∧ s.guard.machine = .armed ∧ BladeLaw s ∧ s.guard.liftTimer.get .left = some 1000 ∧
       s.guard.noSignal = some 1000 ∧ s.guard.silence = some 1000 ∧ due s.partTime 1000 = true ∧
       s.plan.active = some (segmentOf rollFields)) ∧
    (let s (mm : Nat) : State := { (periodAt 1000 rollFields) with
       loops := { State.reset.loops with posClass := .outsideAll }
       guard := { (inState .armed).guard with escape := 256 * mm } }
     (∀ mm, (s mm).resetting = none ∧ (s mm).guard.machine = .armed ∧ BladeLaw (s mm) ∧
       due (s mm).partTime (s mm).drive.timer = true ∧ (s mm).guard.recovery = false ∧
       (s mm).loops.posClass = .outsideAll ∧ meanTravel (s mm) = 0) ∧
     Settings.default.escapeLimit = 300 ∧ 300 ≤ min 4294967295 (256 * 300 + 0) / 256 ∧
     ¬ 300 ≤ min 4294967295 (256 * 299 + 0) / 256) ∧
    (let s (start : Option Time) : State := { (periodAt 1000 rollFields) with
       guard := { (inState .armed).guard with tiltStart := start } }
     (∀ start, (s start).guard.tiltStart = start ∧ (s start).resetting = none ∧ BladeLaw (s start) ∧
       (s start).guard.machine = .armed ∧ (s start).loops.posClass = .unknown ∧
       (s start).plan.active = some (segmentOf rollFields) ∧ (s start).plan.applied = Settings.default) ∧
     ¬ BasicEnds (s none) (segmentOf rollFields) ∧ Settings.default.slopeTrip ≤ slopeAt 249 128 ∧
     slopeAt 128 128 < Settings.default.slopeTrip ∧ 1000 ≤ since 1000 0 ∧
     (s none).word 0x0BF = (s none).plan.appliedGen) ∧
    (let s := blading .cutting (some 0) (some 4999)
     s.resetting = none ∧ s.guard.machine = .armed ∧ BladeLaw s ∧ due s.partTime s.blade.timer = true ∧
       s.blade.lastPulse = some 0 ∧ s.blade.period = some 4999 ∧ since 4999 0 < 100000 ∧
       6000 < 30000000 / max 4999 (since 4999 0) ∧ ¬ 6000 < 30000000 / max 5000 (since 5000 0) ∧
       s.blade.runaway = false) :=
  ⟨⟨by decide, by decide, blade_off rfl rfl, by decide, by decide, by decide, by decide, by decide⟩,
    ⟨fun _ => ⟨rfl, rfl, blade_off rfl rfl, (by decide : due (1000 : Time) 1000 = true), rfl, rfl,
        (by decide : Int.tdiv (0 * 983 + 0 * 983) 2 = 0)⟩, by decide, by decide, by decide⟩,
    ⟨fun _ => ⟨rfl, rfl, blade_off rfl rfl, rfl, rfl, rfl, rfl⟩, by decide, by decide, by decide, by decide, by decide⟩,
    by decide, by decide, ⟨fun _ => Or.inr rfl, fun _ => by decide⟩, by decide, by decide, by decide, by decide, by decide,
    by decide, by decide⟩

/-- TRIPPED on LIFT with every timer at its expiry, SAFE, and the timers stopped or not yet due. -/
theorem witness_FindingsOutsideArmed :
    let s : State := { (inState .tripped) with
      partTime := 1000
      guard := { (inState .tripped).guard with
        trip := { State.reset.guard.trip with first := some .lift }
        liftTimer := ⟨some 1000, some 1001⟩, noSignal := some 1000, silence := some 1000 } }
    s.resetting = none ∧ s.guard.machine ≠ .armed ∧ s.guard.machine = .tripped ∧ s.guard.trip.first ≠ some .stopKey ∧
      s.guard.liftTimer.get .left = some 1000 ∧ s.guard.noSignal = some 1000 ∧ s.guard.silence = some 1000 ∧
      due s.partTime 1000 = true ∧ dueOpt s.partTime (s.guard.liftTimer.get .right) = false ∧
      (inState .safe).guard.machine ≠ .armed ∧ State.reset.guard.silence = none := by decide

/-- A contact sense with its start, the sample due at part time 1000. -/
def sensing (c : Sense) (start : Option Time) : State :=
  { (inState .safe) with partTime := 1000, dock := { State.reset.dock with timer := 1000, sense := c, senseStart := start } }

/-- The samples 180 and 179, 170 and 169 against DOCK_V 180, and starts 200 and 199 ms back, also in PARKED; and a window of
PARKED in which REAR of loop 0 was not heard. -/
theorem witness_ContactSense :
    (∀ m ∈ [MachineState.safe, .parked], ∀ c ∈ [Sense.absent, .rising, .present, .falling],
      let s := { (sensing c (some 800)) with guard := (inState m).guard }
      s.resetting = none ∧ s.guard.machine = m ∧ s.dock.run = .none ∧ s.dock.bumpPending = false ∧
        due s.partTime s.dock.timer = true ∧ s.dock.sense = c ∧ s.dock.senseStart = some 800 ∧
        200 ≤ since s.partTime 800 ∧ ¬ 200 ≤ since s.partTime 801 ∧ s.mem.wf = true) ∧
    State.reset.plan.applied.dockV ≤ (180 : Byte).toNat ∧ ¬ State.reset.plan.applied.dockV ≤ (179 : Byte).toNat ∧
    (169 : Byte).toNat < State.reset.plan.applied.dockV - 10 ∧
    ¬ (170 : Byte).toNat < State.reset.plan.applied.dockV - 10 ∧ due 999 1000 = false ∧
    (let s := mapped { (inState .parked) with partTime := 2000, loops := { State.reset.loops with windowTimer := 2000 } }
     let r := s.loops.recs.l0.coils.rear
     let quiet : State := { s with loops := { s.loops with
       recs := s.loops.recs.set 0 ⟨.weak, { s.loops.recs.l0.coils with rear := { r with state := .present } }⟩ } }
     quiet.resetting = none ∧ quiet.guard.machine = .parked ∧ due quiet.partTime quiet.loops.windowTimer = true ∧
       quiet.loops.checkFlag = false ∧ quiet.loops.spoiled = false ∧ quiet.plan.active = none ∧ quiet.dock.run = .none ∧
       quiet.plan.applied.loopMap.l0 ≠ 15 ∧ quiet.loops.recs.l0.coils.rear.state ≠ .lost ∧
       quiet.loops.recs.l0.coils.rear.window = 0) := by decide

/-- The words of a DOCK, and of an UNDOCK of 500 mm with an angle. -/
def dockFields : Fields := { rollFields with kind := 5 }
def undockFields (angle : BitVec 32) : Fields := { rollFields with kind := 6, distance := 500, angle := angle }

/-- A coil that hears its loop: a fresh frame, a side and an amplitude. -/
def heardSub (side : Side) (amplitude : Byte) : SubRecord := ⟨.present, side, none, 3, amplitude, none, some 990, 30⟩

/-- The part with LEFT and RIGHT of loop 0 hearing as given. -/
def straddling (l r : SubRecord) (s : State) : State :=
  { s with
    loops := { s.loops with recs := { s.loops.recs with
      l0 := { s.loops.recs.l0 with coils := { s.loops.recs.l0.coils with left := l, right := r } } } }
    track := ⟨some 1, some 0, some .leftOut, 0, 400, 7, 7, 48, 48⟩ }

/-- Two fresh frames of known sides and enough amplitude are no hold case. -/
theorem wire_heard {s : State} {l r : SubRecord} {f g : Time} (hf : l.lastFrame = some f) (hg : r.lastFrame = some g)
    (h : ¬ 30 < since s.partTime f ∧ ¬ 30 < since s.partTime g ∧ l.side ≠ .unknown ∧ r.side ≠ .unknown ∧
      ¬ l.amplitude.toNat + r.amplitude.toNat < s.plan.applied.ampMin) : ¬ WireHold s l r := by
  rintro (k | k | k | k | k)
  · exact h.1 (k f hf)
  · exact h.2.1 (k g hg)
  · exact h.2.2.1 k
  · exact h.2.2.2.1 k
  · exact h.2.2.2.2 k

/-- An active segment at 1000 ms with the given Dock Unit; the control period, the contact's sample and the LEFT bump
debounce are due; loop 0 is heard INSIDE at LEFT and OUTSIDE at RIGHT. -/
def docking (f : Fields) (d : Dock) : State :=
  straddling (heardSub .outside 90) (heardSub .inside 110) { (periodAt 1000 f) with
    dock := { d with timer := 1000 }
    contact := { State.reset.contact with bumpTimer := ⟨some 1000, none⟩ } }

theorem calm_docking (f : Fields) (d : Dock) : CalmPeriod (docking f d) 128 128 :=
  calm ⟨rfl, (by decide : due (1000 : Time) 1000 = true), rfl, (by decide : PosClass.unknown ≠ PosClass.outsideAll),
    (by decide : 0 < Settings.default.slopeTrip)⟩

/-- DOCKED: the contact has risen for 200 ms. A DOCK's bumps in each sense, its tries at 1 and 2 of 3, NEAR at 1501 mm, and
BACKOFF at 399 and 400 mm. An UNDOCK at 299 and 300 mm, at 499 and 500 mm, with and without a turn, and its turn at 8191 and
8192 au. -/
theorem witness_DockedEnds :
    (let seg := segmentOf { rollFields with kind := 5, loop := 3 }
     let s : State := { (running seg.fields) with
       partTime := 1000
       dock := { State.reset.dock with
         timer := 1000, run := .dock seg.activation, sense := .rising, senseStart := some 800 } }
     s.resetting = none ∧ s.guard.machine ≠ .parked ∧ due s.partTime s.dock.timer = true ∧ s.plan.active = some seg ∧
       s.dock.run = .dock seg.activation ∧ seg.fields.next = 255 ∧ s.dock.sense = .rising ∧
       s.dock.senseStart = some 800 ∧ 200 ≤ since s.partTime 800 ∧ s.plan.applied.dockV ≤ (180 : Byte).toNat) ∧
    (∀ f d, (docking f d).resetting = none ∧ (docking f d).guard.machine = .armed ∧
      (docking f d).plan.active = some (segmentOf f) ∧ (docking f d).contact.stage = .quiet ∧
      (docking f d).contact.bumpTimer.get .left = some 1000 ∧ due (docking f d).partTime 1000 = true ∧
      (docking f d).contact.list = [] ∧ CalmPeriod (docking f d) 128 128 ∧
      (docking f d).contact.stall = ⟨none, none⟩ ∧ (docking f d).drive.suspended = false ∧
      (docking f d).plan.applied = Settings.default ∧ (f.timeLimit = 0 → ¬ TimeUp (docking f d) (segmentOf f)) ∧
      due (docking f d).partTime (docking f d).dock.timer = true ∧
      (docking f d).track.loop = some 0 ∧ (docking f d).track.side = some .leftOut) ∧
    (∀ phase sense wait tries,
      let s := docking dockFields { State.reset.dock with
        run := .dock 1, phase := some phase, sense := sense, bumpPending := wait, tries := tries }
      (segmentOf dockFields).fields.kind = 5 ∧ s.dock.run = .dock 1 ∧ s.dock.phase = some phase ∧ s.dock.sense = sense ∧
        s.dock.bumpPending = wait ∧ s.dock.tries = tries) ∧
    2 + 1 = Settings.default.dockTries ∧ 1 + 1 ≠ Settings.default.dockTries ∧
    (179 : Byte).toNat < Settings.default.dockV ∧
    (let s (near back : Nat) := docking dockFields { State.reset.dock with near := near, back := back }
     Settings.default.dockReach < travelled (s (256 * 1501) 0) (s (256 * 1501) 0).dock.near / 256 ∧
     ¬ Settings.default.dockReach < travelled (s (256 * 1501 - 1) 0) (s (256 * 1501 - 1) 0).dock.near / 256 ∧
     (∀ n b, (s n b).drive.choice ≠ .backoff ∧ (s n b).dock.back = b) ∧
     256 * 399 / 256 < 400 ∧ 400 ≤ 256 * 400 / 256 ∧
     ¬ WireHold (s 0 0) (s 0 0).loops.recs.l0.coils.left (s 0 0).loops.recs.l0.coils.right ∧
     (wireError .leftOut (s 0 0).loops.recs.l0.coils.left (s 0 0).loops.recs.l0.coils.right).isSome = true) ∧
    (∀ angle phase sense,
      let s := docking (undockFields angle) { State.reset.dock with
        run := .undock 1, phase := some phase, sense := sense }
      (segmentOf (undockFields angle)).fields.kind = 6 ∧ s.dock.run = .undock 1 ∧ s.dock.phase = some phase ∧
        s.dock.sense = sense ∧ (segmentOf (undockFields angle)).fields.next = 255) ∧
    (let s (mm : Nat) (turned : Int) : State :=
       let d := docking (undockFields 8192) { State.reset.dock with run := .undock 1 }
       { d with drive := { d.drive with runDist := 256 * mm, runTurn := turned } }
     runDistance (s 299 0) / 256 = 299 ∧ runDistance (s 300 0) / 256 = 300 ∧ runDistance (s 499 0) / 256 = 499 ∧
       runDistance (s 500 0) / 256 = 500 ∧ (undockFields 8192).distance.toInt = 500 ∧
       turnGoal (undockFields 0) = 0 ∧ turnGoal (undockFields 8192) = 8192 ∧
       (runAngle (s 0 8191) - (s 0 8191).dock.turnAtEntry).natAbs = 8191 ∧
       (runAngle (s 0 8192) - (s 0 8192).dock.turnAtEntry).natAbs = 8192) :=
  ⟨by decide,
    fun _ _ => ⟨rfl, rfl, rfl, rfl, rfl, (by decide : due (1000 : Time) 1000 = true), rfl, calm_docking _ _, rfl, rfl, rfl,
      fun h t => t.1 h, (by decide : due (1000 : Time) 1000 = true), rfl, rfl⟩,
    fun _ _ _ _ => ⟨rfl, rfl, rfl, rfl, rfl, rfl⟩, by decide, by decide, by decide,
    ⟨by decide, by decide, fun _ _ => ⟨(by decide : Choice.kind ≠ .backoff), rfl⟩, by decide, by decide,
      wire_heard rfl rfl (by decide), by decide⟩,
    fun _ _ _ => ⟨rfl, rfl, rfl, rfl, rfl⟩,
    by decide, by decide, by decide, by decide, by decide, by decide, by decide, by decide, by decide⟩

/-- A TRACK of loop 0 at 1000 ms with the given coils, distance, time limit and run distance. -/
def tracking (distance : BitVec 32) (limit : Word) (mm : Nat) (l r : SubRecord) : State :=
  let p := periodAt 1000 { rollFields with kind := 4, distance := distance, timeLimit := limit }
  straddling l r { p with drive := { p.drive with runDist := 256 * mm } }

/-- A TRACK without a distance, at 499 and at 500 mm of 500, at its time limit; the hold case with the weak count at 48 and 49
of 50, on either side known alone, a stale frame and the amplitude sum 23 and 24; the wire straddled, both coils on one side,
and the mixed case; a DOCK in APPROACH, and in NEAR at DOCK_REACH and past it. -/
theorem witness_TrackSteering :
    (∀ d limit mm l r, CalmPeriod (tracking d limit mm l r) 128 128 ∧
      (tracking d limit mm l r).contact.stall = ⟨none, none⟩ ∧ (tracking d limit mm l r).contact.stage = .quiet ∧
      (tracking d limit mm l r).drive.suspended = false ∧
      (tracking d limit mm l r).plan.active =
        some (segmentOf { rollFields with kind := 4, distance := d, timeLimit := limit }) ∧
      (tracking d limit mm l r).track.loop = some 0 ∧ (tracking d limit mm l r).track.side = some .leftOut ∧
      (tracking d limit mm l r).loops.recs.l0.coils.left = l ∧ (tracking d limit mm l r).loops.recs.l0.coils.right = r ∧
      (tracking d limit mm l r).track.weak = 48 ∧ (limit = 0 →
        ¬ TimeUp (tracking d limit mm l r) (segmentOf { rollFields with kind := 4, distance := d, timeLimit := limit }))) ∧
    rollFields.next = 255 ∧
    (let at_ (mm : Nat) := tracking 500 0 mm (heardSub .outside 90) (heardSub .inside 110)
     runDistance (at_ 499) / 256 = 499 ∧ runDistance (at_ 500) / 256 = 500 ∧
     (let s := tracking 500 1 0 (heardSub .outside 90) (heardSub .inside 110)
      TimeUp s (segmentOf { rollFields with kind := 4, distance := 500, timeLimit := 1 })) ∧
     WireHold (at_ 0) (heardSub .unknown 90) (heardSub .inside 110) ∧
     WireHold (at_ 0) (heardSub .outside 90) (heardSub .unknown 110) ∧
     WireHold (at_ 0) (heardSub .outside 3) (heardSub .inside 20) ∧
     ¬ WireHold (at_ 0) (heardSub .outside 4) (heardSub .inside 20) ∧
     WireHold (at_ 0) { (heardSub .outside 90) with lastFrame := some 969 } (heardSub .inside 110) ∧
     ¬ WireHold (at_ 0) { (heardSub .outside 90) with lastFrame := some 970 } (heardSub .inside 110)) ∧
    48 + 1 < Settings.default.weakLimit ∧ Settings.default.weakLimit ≤ 49 + 1 ∧
    wireError .leftOut (heardSub .outside 120) (heardSub .inside 80) = some 203 ∧
    wireError .leftOut (heardSub .inside 120) (heardSub .inside 80) = some 1024 ∧
    wireError .leftOut (heardSub .inside 120) (heardSub .outside 80) = none ∧
    (let s (phase : DockPhase) (near : Nat) :=
       docking dockFields { State.reset.dock with run := .dock 1, phase := some phase, near := near }
     (∀ phase near, (s phase near).plan.active = some (segmentOf dockFields) ∧ (s phase near).dock.phase = some phase ∧
       (s phase near).dock.run = .dock (segmentOf dockFields).activation ∧ (s phase near).dock.bumpPending = false) ∧
     travelled (s .near (256 * 1501 - 1)) (s .near (256 * 1501 - 1)).dock.near / 256 ≤ Settings.default.dockReach ∧
     ¬ travelled (s .near (256 * 1501)) (s .near (256 * 1501)).dock.near / 256 ≤ Settings.default.dockReach) :=
  ⟨fun _ _ _ _ _ => ⟨calm ⟨rfl, (by decide : due (1000 : Time) 1000 = true), rfl,
      (by decide : PosClass.unknown ≠ PosClass.outsideAll), (by decide : 0 < Settings.default.slopeTrip)⟩,
      rfl, rfl, rfl, rfl, rfl, rfl, rfl, rfl, rfl, fun h t => t.1 h⟩, by decide,
    ⟨by decide, by decide, by decide, Or.inr (Or.inr (Or.inl rfl)), Or.inr (Or.inr (Or.inr (Or.inl rfl))),
      Or.inr (Or.inr (Or.inr (Or.inr (by decide)))), wire_heard rfl rfl (by decide),
      Or.inl (fun f h => by cases h; decide), wire_heard rfl rfl (by decide)⟩,
    by decide, by decide, by decide, by decide, by decide,
    ⟨fun _ _ => ⟨rfl, rfl, rfl, rfl⟩, by decide, by decide⟩⟩

/-- START, a self-check in hand, and the code 13. -/
theorem witness_RequestsTurnedAway :
    let checking : State := { (inState .safe) with port := { State.reset.port with inHand := .selfCheck 7 } }
    (inState .start).resetting = none ∧ (inState .start).guard.machine = .start ∧
      writeOfRow .arm = some (0x041, 1) ∧ writeOfRow .restart = some (0x041, 12) ∧ (1 : Word) ≠ 0 ∧
      checking.resetting = none ∧ checking.guard.machine ≠ .start ∧ checking.port.inHand = .selfCheck 7 ∧
      (1 : Word) ≠ 12 ∧ writeOfRow (.unknownRequest 13) = some (0x041, 13) ∧ 12 < (13 : Word).toNat ∧
      (inState .safe).port.inHand = .none := by decide

/-- SAFE and ready to be armed: loop 0 PRESENT, with the stage generation and the motion direction given. -/
def ready (gen : Word) (m : Motion) : State :=
  { (inState .safe) with
    loops := { State.reset.loops with recs := { State.reset.loops.recs with
      l0 := { State.reset.loops.recs.l0 with state := .present } } }
    drive := { State.reset.drive with motion := m }
    mem := State.reset.mem.write 0x0BF gen }

/-- The verdict (1, 0) with equal and differing generations, FORWARD and STILL, and a refusal in TRIPPED. -/
theorem witness_ArmRefusalsAndEffect :
    (∀ s ∈ [ready 0 .forward, ready 0 .still, ready 1 .still],
      s.resetting = none ∧ s.guard.machine = .safe ∧ s.port.inHand = .none ∧ s.word 0x042 = 0 ∧
        s.pins.lift.left = false ∧ s.pins.lift.right = false ∧ s.gov.slope < s.plan.applied.slopeTrip ∧
        s.pins.stopKey = false ∧ s.loops.recs.l0.state = .present ∧ s.blade.state = .off ∧
        s.loops.posClass ≠ .outsideAll ∧ s.plan.standing = .off ∧ s.contact.pinging = false) ∧
    (ready 0 .still).word 0x0BF = (ready 0 .still).plan.appliedGen ∧
    (ready 1 .still).word 0x0BF ≠ (ready 1 .still).plan.appliedGen ∧
    (inState .tripped).resetting = none ∧ (inState .tripped).guard.machine ≠ .start ∧
    (inState .tripped).guard.machine ≠ .safe ∧ (inState .tripped).port.inHand = .none := by decide

/-- ARMED in a ROLL, with the blade driven and not, SAFE, TRIPPED and PARKED. -/
theorem witness_DisarmInEveryState :
    (∀ m : MachineState, BladeLaw (inState m) ∧ (inState m).resetting = none ∧ (inState m).port.inHand = .none) ∧
    (let s := { (running rollFields) with blade := { State.reset.blade with state := .cutting, duty := 640 } }
     s.resetting = none ∧ s.port.inHand = .none ∧ BladeLaw s ∧ s.guard.machine = .armed ∧ Driven s.blade.state ∧
       s.plan.active = some (segmentOf rollFields)) :=
  ⟨fun _ => ⟨blade_off rfl rfl, rfl, rfl⟩,
    by decide, by decide, ⟨fun _ => Or.inr (by decide), fun _ => by decide⟩, by decide, Or.inr (by decide), by decide⟩

/-- TRIPPED with nothing standing, TRIPPED with loop 0 LOST, and SAFE. -/
theorem witness_ClearTrip :
    let s := { (ready 0 .still) with guard := (inState .tripped).guard }
    s.resetting = none ∧ s.guard.machine = .tripped ∧ s.port.inHand = .none ∧
      ¬ (s.pins.lift.left = true ∨ s.pins.lift.right = true ∨ s.plan.applied.slopeTrip ≤ s.gov.slope ∨
        s.pins.stopKey = true ∨ s.loops.recs.l0.state = .lost ∨ s.loops.recs.l0.state = .unused) ∧
      BladeLaw s ∧ (inState .tripped).loops.recs.l0.state = .lost ∧ (inState .safe).guard.machine ≠ .tripped ∧
      (inState .safe).guard.machine ≠ .start :=
  ⟨by decide, by decide, by decide, by decide,
    blade_off rfl rfl, by decide, by decide, by decide⟩

/-- ARMED with the words of slot 5 given and the argument word 5; every loop is heard. -/
def heads (m : Memory) (p : Plan) (stage : Stage) : State :=
  mapped { (inState .armed) with mem := m, plan := p, contact := { State.reset.contact with stage := stage } }

/-- The heads 47 and 48, outside ARMED, FREE; a QUEUED slot of each kind; a kind, blade, on_contact and end_on that cannot
run, a LOST loop, a DOCK on its contacts, the boundary and the watch; a RUNNING plan with and without its segment, and during
a reflex. -/
theorem witness_PlanStart :
    let head (m : MachineState) (h : Word) : State := { (inState m) with mem := (queued 3 State.reset.mem).write 0x042 h }
    let old : Plan := (running rollFields).plan
    (∀ m h, (head m h).resetting = none ∧ (head m h).guard.machine = m ∧ (head m h).port.inHand = .none) ∧
    47 < ((head .armed 48).word 0x042).toNat ∧ ((head .safe 47).word 0x042).toNat ≤ 47 ∧
    ((head .armed 47).word 0x042).toNat = (47 : Slot).val ∧ (head .armed 47).slotState 47 ≠ slotQueued ∧
    (∀ m p stage, (heads m p stage).resetting = none ∧ (heads m p stage).guard.machine = .armed ∧
      (heads m p stage).port.inHand = .none ∧ (heads m p stage).plan = p ∧ (heads m p stage).contact.stage = stage) ∧
    (∀ p stage, ∀ k ∈ [((1 : Word), (0 : Word)), (1, 3), (2, 0), (3, 0), (4, 0), (4, 2), (5, 0), (6, 0)],
      RunsOn (heads (queuedWatch k.1 k.2) p stage) 5) ∧
    ((queuedWatch 3 0).read 0x042).toNat = (5 : Slot).val ∧ (queuedWatch 3 0).read 0x0BF = State.reset.plan.appliedGen ∧
    State.reset.plan.state ≠ .running ∧ old.state = .running ∧ old.active = some (segmentOf rollFields) ∧
    (segmentOf rollFields).slot ≠ 5 ∧ old.appliedGen = State.reset.plan.appliedGen ∧ old.holdTimer = none ∧
    old.applied.bladeHold ≠ 0 ∧ { old with active := none }.active = none ∧ Stage.stopping ≠ .quiet ∧
    (let s (kind endOn : Word) := heads (queuedWatch kind endOn) State.reset.plan .quiet
     let f (kind endOn : Word) := (s kind endOn).slotFields 5
     47 < (f 3 0).next.toNat ∧ ¬ SoundSegment (s 0 0) (f 0 0) ∧ ¬ SoundSegment (s 7 0) (f 7 0) ∧
     ¬ SoundSegment (s 1 4) (f 1 4) ∧
     (let lost : State := { (s 4 0) with loops := State.reset.loops }
      SoundSegment lost (f 4 0) ∧ LoopLost lost (f 4 0)) ∧
     (let on : State := { (s 5 0) with dock := { State.reset.dock with sense := .present } }
      SoundSegment on (f 5 0) ∧ ¬ LoopLost on (f 5 0) ∧ (f 5 0).kind = 5 ∧ OnContacts on) ∧
     (let g : Fields := { (f 1 0) with stopAtBoundary := 1 }
      let out : State := { (s 1 0) with
        mem := (s 1 0).mem.write 0x4A4 1, loops := { (s 1 0).loops with posClass := .outsideFront } }
      out.slotFields 5 = g ∧ SoundSegment out g ∧ ¬ LoopLost out g ∧ AtBoundary out g) ∧
     (let near : State := { (s 1 1) with loops := { (s 1 1).loops with stationNear := true } }
      SoundSegment near (f 1 1) ∧ ¬ LoopLost near (f 1 1) ∧ ¬ AtBoundary near (f 1 1) ∧ WatchMet near (f 1 1))) :=
  ⟨fun _ _ => ⟨rfl, rfl, rfl⟩, by decide, by decide, by decide, by decide, fun _ _ _ => ⟨rfl, rfl, rfl, rfl, rfl⟩,
    fun _ _ k hk => runs_on k hk, by decide, by decide, by decide, by decide, by decide, by decide, by decide, by decide,
    by decide, by decide, by decide,
    ⟨by decide, by decide, by decide, by decide, ⟨by decide, by decide⟩, ⟨by decide, by decide, by decide, by decide⟩,
      ⟨by decide, by decide, by decide, by decide⟩, ⟨by decide, by decide, by decide, by decide⟩⟩⟩

theorem witness_PlanStop :
    (running rollFields).resetting = none ∧ (running rollFields).guard.machine ≠ .start ∧
      (running rollFields).port.inHand = .none ∧ (running rollFields).plan.state ≠ .idle ∧
      (running rollFields).plan.active = some (segmentOf rollFields) ∧ (inState .safe).plan.state = .idle := by decide

/-- With and without an active ROLL; with and without an entry in the list, its mirror's refresh writing and not. -/
theorem witness_SetPoseAndClearContacts :
    let listed (r : Refresh) : State := { (inState .safe) with
      contact := { State.reset.contact with list := [⟨1, 1, 0, 0, 0, none, none, some .held⟩] }
      port := { State.reset.port with contactList := r } }
    (∀ s ∈ [running rollFields, inState .safe, listed ⟨none, false⟩, listed ⟨some [(0x201, 1)], false⟩],
      s.resetting = none ∧ s.guard.machine ≠ .start ∧ s.port.inHand = .none) ∧
    (running rollFields).plan.active = some (segmentOf rollFields) ∧ (segmentOf rollFields).fields.kind = 1 ∧
    (inState .safe).plan.active = none ∧ (inState .safe).contact.list = [] ∧
    (∀ r, (listed r).contact.list ≠ [] ∧ (listed r).port.contactList = r) ∧
    (listed ⟨none, false⟩).mem.wf = true :=
  ⟨by decide, by decide, by decide, by decide, by decide, fun _ => ⟨List.cons_ne_nil _ _, rfl⟩, by decide⟩

/-- LOCKED_OUT with the effective directive OFF and CUT, and OFF. -/
theorem witness_BladeUnlock :
    let locked (d : Directive) : State := { (inState .armed) with
      plan := { State.reset.plan with standing := d }
      blade := { State.reset.blade with state := .lockedOut } }
    (∀ s ∈ [locked .off, locked .cut, inState .safe],
      s.resetting = none ∧ s.guard.machine ≠ .start ∧ s.port.inHand = .none ∧ s.mem.wf = true) ∧
    (locked .off).blade.state = .lockedOut ∧ (locked .off).effectiveDirective = .off ∧
    (locked .cut).blade.state = .lockedOut ∧ (locked .cut).effectiveDirective = .cut ∧
    (inState .safe).blade.state ≠ .lockedOut := by decide

/-- PARK taken from SAFE and from ARMED, turned away in SAFE, and WAKE in PARKED. -/
theorem witness_ParkAndWake :
    ∀ s ∈ [onContacts .safe, onContacts .armed, inState .safe, onContacts .parked],
      s.resetting = none ∧ s.guard.machine ≠ .start ∧ s.port.inHand = .none ∧
        (¬ 0 < s.blade.duty ∧ s.blade.state = .off) ∧ (s.plan.state = .idle ∧ s.plan.active = none) ∧
        ((s.dock.sense = .present ∧ s.loops.recs.l0.coils.rear.state ≠ .lost) ∨ s.dock.sense = .absent) := by decide

/-- A changed and an unchanged heartbeat while ARMED, and SAFE. -/
theorem witness_HeartbeatWrite :
    (inState .armed).resetting = none ∧ (inState .armed).guard.machine = .armed ∧ (1 : Word) ≠ (inState .armed).word 0x040 ∧
      (0 : Word) = (inState .armed).word 0x040 ∧ (inState .safe).guard.machine ≠ .armed ∧
      (inState .armed).mem.wf = true := by decide

/-- The words where the clauses meet: 0x03F, 0x0BF, 0x0C0, a slot's state word and its last word, 0xA00, 0xFFB, 0xFFC. -/
theorem witness_HostWriteTakenOrDropped :
    let s := { (inState .safe) with mem := State.reset.mem.write 0x6A0 2 }
    let taken (n : Nat) (v : Word) : Bool :=
      decide ((0x040 ≤ n ∧ n < 0x0C0) ∨ (0xA00 ≤ n ∧ n < 0xFFC) ∨
        ((0x400 ≤ n ∧ n < 0xA00) ∧ s.word (n - n % 32) ≠ 2 ∧ (n % 32 = 0 → v.toNat ≤ 1)))
    s.resetting = none ∧ s.noticesHeld = false ∧
      { (inState .start) with port := { State.reset.port with inHand := .restart 1 } }.noticesHeld = true ∧
      taken 0x0BF 9 = true ∧ taken 0x400 1 = true ∧ taken 0x41F 9 = true ∧ taken 0xA00 9 = true ∧
      taken 0xFFB 9 = true ∧ taken 0x062 9 = true ∧
      taken 0x03F 9 = false ∧ taken 0x0C0 9 = false ∧ taken 0x400 2 = false ∧ taken 0x6A0 0 = false ∧
      taken 0x6BF 9 = false ∧ taken 0xFFC 9 = false ∧
      (Instr.hostWrite 0x0BF 9).wellFormed = true ∧ (Instr.hostWrite 0x6A0 0).wellFormed = true ∧
      (Instr.hostWrite 0xFFC 9).wellFormed = true := by decide

/-- R195: with no TRACK or DOCK active any more, a snapshot copies the steering values of the latest control period. -/
theorem test_snapshot_copies_latched_steering :
    let s : State := { (inState .safe) with port := { State.reset.port with latched := List.replicate 23 0 ++ [7, 8] } }
    s.track.running = none ∧ (0x128, 7) ∈ s.mirrorCopy .snapshot ∧ (0x129, 8) ∈ s.mirrorCopy .snapshot := by decide

/-- The snapshot timer at and before its expiry, a refresh writing and none, with and without the again flag. -/
theorem witness_SnapshotAndRefresh :
    let s (again : Bool) : State := { (inState .safe) with
      partTime := 50, port := { State.reset.port with snapTimer := 50, snapshot := ⟨some [(0x101, 7)], again⟩ } }
    (∀ b : Bool, (s b).resetting = none ∧ due (s b).partTime (s b).port.snapTimer = true ∧
      (s b).port.snapshot.writing = some [(0x101, 7)] ∧ (s b).port.snapshot.again = b ∧ (s b).mem.wf = true ∧
      ((0x101, 7) : Nat × Word).1 ≠ mirrorOpen .snapshot) ∧
    due 49 50 = false ∧ { State.reset.port with contactList := ⟨none, false⟩ }.contactList.writing = none := by decide

/-- REFLEX and PORT pending with PLAN under service, and nothing pending; PLAN alone under service, none under service; the
ignored values 7 and 0x0081. -/
theorem witness_AttentionAndService :
    (servicing.resetting = none ∧ DetailsLaw servicing ∧ servicing.notice.ackMode = false ∧
      (servicing.notice.get .reflex).pending = true ∧ (servicing.word 0x062).getLsbD Source.reflex.rank = true ∧
      Source.reflex.rank < Source.plan.rank ∧ (servicing.notice.get .trip).pending = false ∧
      (State.reset.notice.get .trip).pending = false ∧ DetailsLaw State.reset ∧
      { servicing.notice with ackMode := true }.ackMode = true) ∧
    (servicing.notice.get .plan).service = true ∧ (servicing.notice.get .trip).service = false ∧
      (servicing.notice.get .port).service = false ∧ (State.reset.notice.get .plan).service = false ∧
      6 < (7 : Word).toNat ∧ (7 : Word) ≠ 0x0080 ∧ 6 < (0x0081 : Word).toNat ∧ (0x0081 : Word) ≠ 0x0080 :=
  ⟨⟨by decide, fun a => by cases a <;> rfl, by decide, by decide, by decide, by decide, by decide, by decide,
    fun a => by cases a <;> rfl, by decide⟩, by decide⟩

theorem witness_PortctlWrite :
    (inState .safe).resetting = none ∧ (inState .safe).guard.machine ≠ .start ∧
      { State.reset with resetting := some ⟨.pin, false⟩ }.resetting = some ⟨.pin, false⟩ ∧
      0xFFC ≤ (0xFFC : BitVec 12).toNat := by decide

theorem witness_HostWriteRowsReadBack :
    writeOfRow (.serviceClear 6) = some (0xFFD, 6) ∧ (Instr.serviceClear 6).wellFormed = true ∧
      writeOfRow (.heartbeatWrite 7) = some (0x040, 7) ∧ (Instr.heartbeatWrite 7).wellFormed = true := by decide

/-! ### The laws hold in a state other than reset's, and a step leads on from it -/

/-- The armed machine rolling, its queue not empty. -/
def rolling : State := { (running rollFields) with pending := [.partTimeTick] }

theorem witness_step : ∃ t, step rolling = .next t := ⟨_, rfl⟩

theorem witness_StepKeepsMemoryCanonical : MemoryCanonical rolling := by unfold MemoryCanonical; decide

theorem witness_StepKeepsLostLaw : LostLaw rolling := by
  intro n c; unfold LostSubRecord; revert n; cases c <;> decide

theorem witness_StepKeepsPlanLaw : PlanLaw { (inState .tripped) with pending := [.clearTrip] } := fun _ => by decide

theorem witness_StepKeepsTargetLaw : TargetLaw rolling :=
  ⟨fun i => by cases i <;> decide, fun _ i => by cases i <;> rfl⟩

theorem witness_StepKeepsCapLaw : CapLaw rolling := by
  have least : ∀ p ∈ rolling.gov.table.toList, (match p.2 with | some v => decide (rolling.gov.cap ≤ v) | none => true) = true := by
    decide
  refine ⟨by decide, by decide, fun p hp v hv => ?_, by decide⟩
  have h := least p hp
  rw [hv] at h
  exact of_decide_eq_true h

theorem witness_StepKeepsLineLaw :
    let port := { State.reset.port with snapshot := ⟨none, false⟩, loopTable := ⟨none, true⟩, contactList := ⟨none, false⟩ }
    LineLaw { servicing with port := port, pending := [.attentionAck] } :=
  ⟨⟨fun _ h => (by cases h), fun _ h => (by cases h), fun _ h => (by cases h), rfl, fun a => by cases a <;> rfl⟩,
    fun _ => ⟨rfl, rfl, .reflex, rfl, Or.inr (by decide),
    fun b hb => by cases b <;> first | exact absurd hb (by decide) | decide⟩, fun _ => rfl⟩

theorem witness_StepKeepsBladeLaw :
    BladeLaw { rolling with blade := { State.reset.blade with state := .cutting, duty := 640, effective := .cut } } :=
  ⟨fun _ => Or.inr rfl, fun _ => by decide⟩

theorem witness_StepKeepsContactLaw : ContactLaw rolling := by unfold ContactLaw; decide

theorem witness_StepKeepsSettingsLaw :
    SettingsLaw { rolling with plan := { rolling.plan with applied := { Settings.default with blank := 16 } } } := by
  unfold SettingsLaw; refine ⟨?_, by decide⟩; decide

theorem witness_StepKeepsHazardLaw : HazardLaw rolling := fun _ =>
  ⟨fun i => by cases i <;> decide, fun _ => ⟨rfl, fun i => by cases i <;> decide⟩⟩

/-- TRIPPED over a step. -/
theorem witness_StepKeepsTripCauses :
    stepped (step { (inState .tripped) with pending := [.partTimeTick] })
      (fun t => decide (t.guard.machine = .tripped)) = true := by decide

end Sys2Proof.Tests
end

section
/-! SUPPORT. What an answer, a judgement of an OFF blade and an arrival at its owner do, and the proof of BLADE_UNLOCK. -/

namespace Sys2Proof.Proofs

open Sys2Proof.Machine Sys2Proof.Safety

/-! ### Posts and answers -/

/-- A post moves the notice state and the memory alone. -/
theorem post_eq_update (r : Report) (s : State) :
    post r s = { s with notice := (post r s).notice, mem := (post r s).mem } := by
  unfold post
  split <;> rfl

/-- An answer moves its record, the notice state and the memory alone (R191). -/
theorem answerWith_eq_update (code : Word) (r : Result) (count : BitVec 8) (s : State) :
    answerWith code r count s = { s with
      port := { s.port with answer := ⟨code, r.code, r.reason, count⟩ }
      notice := (answerWith code r count s).notice
      mem := (answerWith code r count s).mem } := post_eq_update _ _

@[simp] theorem answerWith_causes (code : Word) (r : Result) (count : BitVec 8) (s : State) :
    (answerWith code r count s).causes = s.causes := by rw [answerWith_eq_update]

/-! ### A request that reaches its owner (R189, R190) -/

/-- Outside START, and with no SELF_CHECK in hand, the owner judges. -/
theorem judgeRequest_owner {s : State} (hm : s.guard.machine ≠ .start) (hc : ∀ n, s.port.inHand ≠ .selfCheck n)
    (code : Word) (count : BitVec 8) : judgeRequest code count s = askOwner code count s := by
  have hcheck : s.port.inHand.isCheck = false := by
    cases h : s.port.inHand with
    | selfCheck n => exact absurd h (hc n)
    | restart n => rfl
    | none => rfl
  simp [judgeRequest, hm, hcheck]

/-- A request whose owner changes nothing that a mirror shows at once starts no refresh: what the owner leaves is what the
event leaves. -/
theorem requestEvent_quiet {s b : State} {code : Word} (hr : s.resetting = none) (hm : s.guard.machine ≠ .start)
    (hc : ∀ n, s.port.inHand ≠ .selfCheck n) (hcode : code ≠ requestRestart)
    (hb : b = askOwner code (s.port.requestCount + 1) (takeArrival code { s with causes := Causes.none }))
    (hrecv : b.recv = s.recv) (hloops : b.loops = s.loops) (hlist : b.contact.list = s.contact.list)
    (hmachine : b.guard.machine = s.guard.machine) (hcauses : b.causes = Causes.none) :
    s.requestEvent code = { b with causes := s.causes } := by
  have harrival : arrival code { s with causes := Causes.none } = b := by
    rw [hb]
    exact judgeRequest_owner (s := takeArrival code { s with causes := Causes.none }) hm hc _ _
  have hquiet : startMirrors false { s with causes := Causes.none } b = b :=
    startMirrors_quiet
      (loopMirrorChanged_false (by rw [hloops]) (by rw [hloops]) (by rw [hloops]) (by simp [hrecv]))
      hlist.symm hmachine.symm hcauses
  simp only [State.requestEvent, whenRunning_running hr, State.noting, State.restarts, decide_eq_false hcode,
    Bool.false_and, Bool.false_eq_true, if_false, harrival, hquiet]

/-! ### The blade goes OFF and its directive is judged (R120, R121, R127, R129, R130) -/

/-- The end in OFF moves the plan, by the uncut report, the blade and the memory alone. -/
theorem offAndJudge_eq_update (s : State) :
    offAndJudge s = { s with
      plan := (offAndJudge s).plan
      blade := (offAndJudge s).blade
      mem := (offAndJudge s).mem } := by
  unfold offAndJudge judgeBlade reportUncut actOnDirective
  (repeat' split) <;> rfl

/-- The judgement of a blade is its action on the directive; the uncut report changes neither blade nor memory. -/
theorem judgeBlade_eq_act (s : State) :
    (judgeBlade s).blade = (actOnDirective { s with blade := { s.blade with effective := s.effectiveDirective } }).blade ∧
    (judgeBlade s).mem = (actOnDirective { s with blade := { s.blade with effective := s.effectiveDirective } }).mem := by
  simp [judgeBlade]

/-- An OFF blade stays so without a CUT directive. -/
theorem actOnDirective_off {s : State} (hs : s.blade.state = .off) (he : s.blade.effective = .off) :
    actOnDirective s = s := by simp [actOnDirective, hs, he]

/-- An OFF blade enters SPINUP on a CUT directive. -/
theorem actOnDirective_cut {s : State} (hs : s.blade.state = .off) (he : s.blade.effective = .cut) :
    actOnDirective s = enterSpinup s := by simp [actOnDirective, hs, he]

/-- The state in which a blade just gone OFF acts on its directive. -/
def offJudged (s : State) : State := { enterOff s with blade := { (enterOff s).blade with effective := s.effectiveDirective } }

/-- The directive reads nothing of the blade, so the entry to OFF leaves it. -/
theorem offAndJudge_eq_act (s : State) :
    (offAndJudge s).blade = (actOnDirective (offJudged s)).blade ∧
    (offAndJudge s).mem = (actOnDirective (offJudged s)).mem := judgeBlade_eq_act (enterOff s)

theorem offAndJudge_of_off {s : State} (hd : s.effectiveDirective = .off) :
    (offAndJudge s).blade = (offJudged s).blade ∧ (offAndJudge s).mem = (enterOff s).mem := by
  have hact : actOnDirective (offJudged s) = offJudged s := actOnDirective_off rfl hd
  have h := offAndJudge_eq_act s
  rwa [hact] at h

theorem offAndJudge_of_cut {s : State} (hd : s.effectiveDirective = .cut) :
    (offAndJudge s).blade = (enterSpinup (offJudged s)).blade ∧
    (offAndJudge s).mem = (enterSpinup (offJudged s)).mem := by
  have hact : actOnDirective (offJudged s) = enterSpinup (offJudged s) := actOnDirective_cut rfl hd
  have h := offAndJudge_eq_act s
  rwa [hact] at h

/-- Whatever the directive, the end in OFF keeps the jam count and the last fault and jam, and drives nothing. -/
theorem offAndJudge_blade (s : State) :
    (offAndJudge s).blade.effective = s.effectiveDirective ∧ (offAndJudge s).blade.duty = 0 ∧
    (offAndJudge s).blade.brake = false ∧ (offAndJudge s).blade.jamCount = s.blade.jamCount ∧
    (offAndJudge s).blade.lastFault = s.blade.lastFault ∧ (offAndJudge s).blade.lastJam = s.blade.lastJam := by
  cases hd : s.effectiveDirective with
  | off =>
    rw [(offAndJudge_of_off hd).1]
    exact ⟨hd, rfl, rfl, rfl, rfl, rfl⟩
  | cut =>
    rw [(offAndJudge_of_cut hd).1]
    exact ⟨hd, rfl, rfl, rfl, rfl, rfl⟩

/-- Without a CUT directive the blade is left OFF. -/
theorem offAndJudge_state_off {s : State} (hd : s.effectiveDirective = .off) : (offAndJudge s).blade.state = .off := by
  rw [(offAndJudge_of_off hd).1]
  rfl

/-- With a CUT directive the blade spins up from the present part time (R123). -/
theorem offAndJudge_spinup {s : State} (hd : s.effectiveDirective = .cut) :
    (offAndJudge s).blade.state = .spinup ∧ (offAndJudge s).blade.spinupEntry = s.partTime := by
  rw [(offAndJudge_of_cut hd).1]
  exact ⟨rfl, rfl⟩

/-! ### The state word of the blade record (R134) -/

/-- A word just written reads back in a canonical memory; a word other than 0 does so in any. -/
theorem read_write_of_wf_or_ne_zero {m : Memory} (a : Nat) {v : Word} (h : m.wf = true ∨ v ≠ 0) :
    (m.write a v).read a = v := by
  rcases h with h | h
  · exact Memory.read_write_same h a v
  · induction m with
    | nil =>
      rw [Memory.write, if_neg h]
      simp [Memory.read]
    | cons c m ih =>
      rw [Memory.write, if_neg h, if_neg h]
      split
      · simp [Memory.read]
      · split
        · simp [Memory.read]
        · rwa [Memory.read, if_neg ‹_›]

/-- The blade record begins with the state word. -/
theorem bladeCells_eq_cons (b : Blade) :
    ∃ ws, bladeCells b = (addrBladeRecord, b.state.code) :: cellsFrom (addrBladeRecord + 1) ws := ⟨_, rfl⟩

theorem setBlade_stateWord (b : Blade) {s : State} (h : MemoryCanonical s ∨ b.state.code ≠ 0) :
    (setBlade b s).word addrBladeRecord = b.state.code := by
  obtain ⟨ws, hcells⟩ := bladeCells_eq_cons b
  calc (setBlade b s).word addrBladeRecord
      = (s.mem.writeAll (bladeCells b)).read addrBladeRecord := rfl
    _ = (s.mem.write addrBladeRecord b.state.code).read addrBladeRecord := by
      rw [hcells]
      exact Memory.read_writeAll_outside _ fun c hc => Nat.ne_of_gt (cellsFrom_bounds hc).1
    _ = b.state.code := read_write_of_wf_or_ne_zero _ h

theorem offAndJudge_stateWord_off {s : State} (hd : s.effectiveDirective = .off) (hw : MemoryCanonical s) :
    (offAndJudge s).word addrBladeRecord = 0 := by
  rw [State.word_eq, (offAndJudge_of_off hd).2]
  exact setBlade_stateWord _ (.inl hw)

theorem offAndJudge_stateWord_cut {s : State} (hd : s.effectiveDirective = .cut) :
    (offAndJudge s).word addrBladeRecord = 1 := by
  rw [State.word_eq, (offAndJudge_of_cut hd).2]
  exact setBlade_stateWord _ (.inr (show BladeState.spinup.code ≠ 0 by decide))

/-! ### BLADE_UNLOCK (R129) -/

theorem askBladeUnlock_locked {s : State} (h : s.blade.state = .lockedOut) (count : BitVec 8) :
    askBladeUnlock count s = answerWith 8 .done count (offAndJudge s) := by simp [askBladeUnlock, h]

theorem askBladeUnlock_refused {s : State} (h : s.blade.state ≠ .lockedOut) (count : BitVec 8) :
    askBladeUnlock count s = answerWith 8 .refusedState count s := by simp [askBladeUnlock, h]

@[simp] theorem askBladeUnlock_causes (count : BitVec 8) (s : State) : (askBladeUnlock count s).causes = s.causes := by
  by_cases h : s.blade.state = .lockedOut
  · rw [askBladeUnlock_locked h, answerWith_causes, offAndJudge_eq_update]
  · rw [askBladeUnlock_refused h, answerWith_causes]

/-- The request as the Blade Controller finds it: counted, its word and arguments taken. -/
def unlockArrival (s : State) : State := takeArrival 8 { s with causes := Causes.none }

@[simp] theorem unlockArrival_frame (s : State) :
    (unlockArrival s).recv = s.recv ∧ (unlockArrival s).loops = s.loops ∧ (unlockArrival s).contact = s.contact ∧
    (unlockArrival s).guard = s.guard ∧ (unlockArrival s).causes = Causes.none := by and_intros <;> rfl

/-- The command is the Blade Controller's answer; no mirror's refresh starts. -/
theorem exec_bladeUnlock {s : State} (hr : s.resetting = none) (hm : s.guard.machine ≠ .start)
    (hc : ∀ n, s.port.inHand ≠ .selfCheck n) :
    exec .bladeUnlock s =
      .next { askBladeUnlock (s.port.requestCount + 1) (unlockArrival s) with causes := s.causes } :=
  congrArg Host.Outcome.next
    (requestEvent_quiet hr hm hc (by decide) rfl (by simp) (by simp) (by simp) (by simp) (by simp))

/-- An arrival writes the request word alone. -/
theorem unlockArrival_word (s : State) {a : Nat} (h : a ≠ 0x041) : (unlockArrival s).word a = s.word a :=
  Memory.read_write_other _ _ h

theorem unlockArrival_canonical {s : State} (h : MemoryCanonical s) : MemoryCanonical (unlockArrival s) :=
  Memory.wf_write _ _ h

/-- Settles O40, by the two ways of the Blade Controller's answer and, in LOCKED_OUT, by the directive it judges. -/
theorem bladeUnlock : Obligations.BladeUnlock := by
  unfold Obligations.BladeUnlock
  intro s hr hm hc
  refine ⟨_, exec_bladeUnlock hr hm hc, fun hstate => ?refused, fun hstate => ?locked⟩
  case refused =>
    rw [askBladeUnlock_refused (s := unlockArrival s) hstate]
    constructor
    · rw [answerWith_eq_update]
      rfl
    · intro a ha hne
      exact (answerWith_word _ _ _ _ (.inr ha)).trans (unlockArrival_word s hne)
  case locked =>
    rw [askBladeUnlock_locked (s := unlockArrival s) hstate]
    have hblade : (answerWith 8 .done (s.port.requestCount + 1) (offAndJudge (unlockArrival s))).blade =
        (offAndJudge (unlockArrival s)).blade := by simp
    have hword : (answerWith 8 .done (s.port.requestCount + 1) (offAndJudge (unlockArrival s))).word 0x2A0 =
        (offAndJudge (unlockArrival s)).word 0x2A0 := answerWith_word _ _ _ _ (.inr (by decide))
    obtain ⟨heffective, hduty, hbrake, hcount, hfault, hjam⟩ := offAndJudge_blade (unlockArrival s)
    constructor
    · rw [answerWith_eq_update, offAndJudge_eq_update]
      rfl
    · simp only [hblade]
      refine ⟨heffective, hduty, hbrake, hcount, hfault, hjam, fun hd => ?off, fun hd => ?cut⟩
      case off =>
        exact ⟨offAndJudge_state_off hd, fun hw => hword.trans (offAndJudge_stateWord_off hd (unlockArrival_canonical hw))⟩
      case cut =>
        obtain ⟨hspinup, hentry⟩ := offAndJudge_spinup (s := unlockArrival s) hd
        exact ⟨hspinup, hentry, hword.trans (offAndJudge_stateWord_cut hd)⟩

end Sys2Proof.Proofs
end

section
/-! SUPPORT. What a directive of OFF, a plan that ends in IDLE and the leaving of ARMED do, and the proof of DISARM. -/

namespace Sys2Proof.Proofs

open Sys2Proof.Machine Sys2Proof.Safety

/-! ### Words after writes -/

theorem writeAll_append (m : Memory) (cs ds : List (Nat × Word)) :
    m.writeAll (cs ++ ds) = (m.writeAll cs).writeAll ds := by
  induction cs generalizing m with
  | nil => rfl
  | cons c cs ih => exact ih _

/-- Of a list of cells the last one at an address stands, in any memory, when its word is not 0. -/
theorem read_writeAll_last (m : Memory) (before : List (Nat × Word)) {after : List (Nat × Word)} {a : Nat} {v : Word}
    (hv : v ≠ 0) (hafter : ∀ c ∈ after, c.1 ≠ a) : (m.writeAll (before ++ (a, v) :: after)).read a = v := by
  rw [writeAll_append, Memory.writeAll, Memory.read_writeAll_outside _ hafter]
  exact read_write_of_wf_or_ne_zero a (.inr hv)

@[simp] theorem timeWords_length (t : Option Time) : (timeWords t).length = 2 := by cases t <;> rfl

/-- The blade record lies in the records area (R206). -/
theorem bladeCells_outside (b : Blade) {a : Nat} (ha : a < 0x280 ∨ 0x400 ≤ a) : ∀ c ∈ bladeCells b, c.1 ≠ a := by
  intro c hc
  have hbounds := cellsFrom_bounds hc
  simp only [addrBladeRecord, List.length_append, List.length_cons, List.length_nil, timeWords_length] at hbounds
  omega

/-- The dock record lies in the records area (R206). -/
theorem dockCells_outside (d : Dock) {a : Nat} (ha : a < 0x280 ∨ 0x400 ≤ a) : ∀ c ∈ dockCells d, c.1 ≠ a := by
  intro c hc
  have hbounds := cellsFrom_bounds hc
  simp only [addrDockRecord, List.length_append, List.length_cons, List.length_nil, timeWords_length] at hbounds
  omega

/-! ### A directive of OFF (R120, R121, R122) -/

/-- A blade at which an OFF directive has been acted on. -/
def Undriven (b : Blade) : Prop := b.effective = .off ∧ ¬ Driven b.state

/-- Without a CUT directive of the plan, and outside ARMED, the effective directive is OFF. -/
theorem effectiveDirective_off {s : State} (h : s.plan.standing = .off ∨ s.guard.machine ≠ .armed) :
    s.effectiveDirective = .off := by
  rcases h with h | h <;> simp [State.effectiveDirective, State.armed, h]

/-- An OFF directive brakes a driven blade. -/
theorem judgeBlade_of_driven {s : State} (he : s.effectiveDirective = .off) (hd : Driven s.blade.state) :
    (judgeBlade s).blade.state = .braking ∧ (judgeBlade s).blade.duty = 0 ∧ (judgeBlade s).blade.effective = .off := by
  rw [(judgeBlade_eq_act s).1, he]
  rcases hd with hd | hd <;> simp [actOnDirective, hd, enterBraking]

/-- An OFF directive is only noted at a blade that is not driven. -/
theorem judgeBlade_of_not_driven {s : State} (he : s.effectiveDirective = .off) (hd : ¬ Driven s.blade.state) :
    (judgeBlade s).blade = { s.blade with effective := .off } := by
  rw [(judgeBlade_eq_act s).1, he]
  cases hs : s.blade.state with
  | spinup => exact absurd (.inl hs) hd
  | cutting => exact absurd (.inr hs) hd
  | off => simp [actOnDirective, hs]
  | braking => simp [actOnDirective, hs]
  | jammed => simp [actOnDirective, hs]
  | lockedOut => simp [actOnDirective, hs]

theorem judgeBlade_undriven {s : State} (he : s.effectiveDirective = .off) : Undriven (judgeBlade s).blade := by
  by_cases hd : Driven s.blade.state
  · obtain ⟨hstate, -, heffective⟩ := judgeBlade_of_driven he hd
    exact ⟨heffective, by simp [Driven, hstate]⟩
  · rw [judgeBlade_of_not_driven he hd]
    exact ⟨rfl, hd⟩

/-- A second judgement of OFF finds nothing to do. -/
theorem judgeBlade_blade_of_undriven {s : State} (he : s.effectiveDirective = .off) (h : Undriven s.blade) :
    (judgeBlade s).blade = s.blade := by
  rw [judgeBlade_of_not_driven he h.2, ← h.1]

/-- A segment is uncut only by a standing CUT, and while ARMED (R122). -/
theorem judgeBlade_plan {s : State} (h : s.plan.standing = .off ∨ s.guard.machine ≠ .armed) :
    (judgeBlade s).plan = s.plan := by
  rcases h with h | h <;> simp [judgeBlade, reportUncut, State.armed, h]

/-- A judgement writes at most the blade record. -/
theorem judgeBlade_word (s : State) {a : Nat} (ha : a < 0x280 ∨ 0x400 ≤ a) : (judgeBlade s).word a = s.word a := by
  have hrecord (b : Blade) (t : State) : (setBlade b t).word a = t.word a :=
    Memory.read_writeAll_outside _ (bladeCells_outside b ha)
  rw [State.word_eq, (judgeBlade_eq_act s).2]
  unfold actOnDirective
  split
  · exact hrecord _ _
  · exact hrecord _ _
  · exact hrecord _ _
  · rfl

/-! ### The plan becomes IDLE (R53, R61, R62) -/

theorem becomeIdle_plan (s : State) :
    (becomeIdle s).plan.state = .idle ∧ (becomeIdle s).plan.active = none ∧ (becomeIdle s).plan.standing = .off := by
  unfold becomeIdle handStanding
  rw [judgeBlade_plan (.inl rfl)]
  exact ⟨rfl, rfl, rfl⟩

theorem becomeIdle_blade {s : State} (h : Undriven s.blade) : (becomeIdle s).blade = s.blade :=
  judgeBlade_blade_of_undriven (effectiveDirective_off (.inl rfl)) h

theorem becomeIdle_word (s : State) {a : Nat} (ha : a < 0x280 ∨ 0x400 ≤ a) : (becomeIdle s).word a = s.word a :=
  judgeBlade_word _ ha

/-! ### The end of a segment (R52) -/

theorem endState_ne_zero (cause : EndCause) : endState cause ≠ 0 := by
  unfold endState
  split <;> decide

theorem endCause_code_ne_zero (cause : EndCause) : cause.code ≠ 0 := by cases cause <;> decide

theorem slotBase_ge (n : Slot) : 0x400 ≤ slotBase n := Nat.le_add_right ..

/-- The results of a segment lie in the slots. -/
theorem resultCells_slot {seg : Segment} {cause : EndCause} {mm : Nat} {duration : BitVec 32} {c : Nat × Word}
    (hc : c ∈ resultCells seg cause mm duration) : 0x400 ≤ c.1 := by
  have hslot := slotBase_ge seg.slot
  simp only [resultCells, List.mem_append, List.mem_singleton] at hc
  rcases hc with (hc | hc) | rfl
  · have hbounds := cellsFrom_bounds hc
    omega
  · have hbounds := cellsFrom_bounds hc
    omega
  · exact hslot

theorem resultCells_state (m : Memory) (seg : Segment) (cause : EndCause) (mm : Nat) (duration : BitVec 32) :
    (m.writeAll (resultCells seg cause mm duration)).read (slotBase seg.slot) = endState cause :=
  read_writeAll_last m _ (endState_ne_zero cause) (by simp)

theorem resultCells_cause (m : Memory) (seg : Segment) (cause : EndCause) (mm : Nat) (duration : BitVec 32) :
    (m.writeAll (resultCells seg cause mm duration)).read (slotBase seg.slot + 20) = cause.code :=
  read_writeAll_last m [] (endCause_code_ne_zero cause) (by simp [cellsFrom, words32])

theorem postEnd_word (seg : Segment) (cause : EndCause) (s : State) {a : Nat} (ha : a < 0x010 ∨ 0x040 ≤ a) :
    (postEnd seg cause s).word a = s.word a := by
  unfold postEnd
  split
  · rfl
  · split <;> exact post_word _ _ ha

theorem endDock_word (cause : EndCause) (s : State) {a : Nat} (ha : a < 0x280 ∨ 0x400 ≤ a) :
    (endDock cause s).word a = s.word a := by
  unfold endDock
  split
  · rfl
  · exact Memory.read_writeAll_outside _ (dockCells_outside _ ha)

/-- Beside the results, the end of a segment writes the dock record and the header's notices alone. -/
theorem closeSegment_word (seg : Segment) (cause : EndCause) (s : State) {a : Nat} (ha : a < 0x010 ∨ 0x400 ≤ a) :
    (closeSegment seg cause s).word a =
      (s.mem.writeAll (resultCells seg cause s.segmentMm (s.partTime - seg.start))).read a := by
  unfold closeSegment reportDocked
  split
  · rw [post_word _ _ (by omega), endDock_word _ _ (by omega)]
    rfl
  · rw [endDock_word _ _ (by omega)]
    rfl

/-! ### The plan ends (R61) -/

/-- The end of the active segment with a cause that leads to IDLE. -/
theorem abortPlan_active {s : State} {seg : Segment} {cause : EndCause} (ha : s.plan.active = some seg)
    (hc : ∀ o, cause.continuation o = .toIdle) :
    abortPlan cause s = becomeIdle (postEnd seg cause (closeSegment seg cause s)) := by
  simp [abortPlan, settleEnd, continuePlan, ha, hc]

/-- With such a cause the plan becomes IDLE from a state with the blade and the header below the notices unchanged. -/
theorem abortPlan_becomeIdle (s : State) {cause : EndCause} (hc : ∀ o, cause.continuation o = .toIdle) :
    ∃ t, abortPlan cause s = becomeIdle t ∧ t.blade = s.blade ∧ ∀ a < 0x010, t.word a = s.word a := by
  cases hactive : s.plan.active with
  | none => exact ⟨s, by simp [abortPlan, hactive], rfl, fun _ _ => rfl⟩
  | some seg =>
    refine ⟨_, abortPlan_active hactive hc, by simp, fun a ha => ?_⟩
    rw [postEnd_word _ _ _ (.inl ha), closeSegment_word _ _ _ (.inl ha)]
    refine Memory.read_writeAll_outside _ fun c hcell => ?_
    have hcell_slot := resultCells_slot hcell
    omega

/-- The state word and the cause word of the slot whose segment the cause ends. -/
theorem abortPlan_slot {s : State} {seg : Segment} {cause : EndCause} (ha : s.plan.active = some seg)
    (hc : ∀ o, cause.continuation o = .toIdle) :
    (abortPlan cause s).slotState seg.slot = endState cause ∧
    (abortPlan cause s).word (slotBase seg.slot + 20) = cause.code := by
  have hslot := slotBase_ge seg.slot
  have hword (a : Nat) (h : 0x400 ≤ a) : (abortPlan cause s).word a =
      (s.mem.writeAll (resultCells seg cause s.segmentMm (s.partTime - seg.start))).read a := by
    rw [abortPlan_active ha hc, becomeIdle_word _ (.inr h), postEnd_word _ _ _ (.inr (by omega)),
      closeSegment_word _ _ _ (.inr h)]
  constructor
  · exact (hword _ hslot).trans (resultCells_state ..)
  · exact (hword _ (by omega)).trans (resultCells_cause ..)

/-! ### A machine state outside ARMED is put in force (R156) -/

section
variable {s : State} {dest : MachineState} (hdest : dest ≠ .armed)
include hdest

theorem setMachine_undriven : Undriven (setMachine dest s).blade :=
  judgeBlade_undriven (effectiveDirective_off (.inr hdest))

theorem setMachine_braking (hd : Driven s.blade.state) :
    (setMachine dest s).blade.state = .braking ∧ (setMachine dest s).blade.duty = 0 ∧
    (setMachine dest s).blade.effective = .off :=
  judgeBlade_of_driven (effectiveDirective_off (.inr hdest)) hd

theorem setMachine_blade_of_not_driven (hd : ¬ Driven s.blade.state) :
    (setMachine dest s).blade = { s.blade with effective := .off } :=
  judgeBlade_of_not_driven (effectiveDirective_off (.inr hdest)) hd

/-- No segment becomes uncut. -/
theorem setMachine_plan : (setMachine dest s).plan = s.plan := judgeBlade_plan (.inr hdest)

end

@[simp] theorem setMachine_guard (dest : MachineState) (s : State) :
    (setMachine dest s).guard = { s.guard with machine := dest } := by simp [setMachine]

theorem setMachine_word {dest : MachineState} (s : State) (hcode : dest.code ≠ 0) :
    (setMachine dest s).word addrMachineState = dest.code := by
  unfold setMachine
  rw [judgeBlade_word _ (.inl (by decide))]
  exact read_write_of_wf_or_ne_zero _ (.inr hcode)

/-! ### ARMED is left (R61, R73, R138, R152, R156, R160, R164, R165) -/

theorem leaveArmed_guard (cause : EndCause) (dest : MachineState) (s : State) :
    (leaveArmed cause dest s).guard =
      { s.guard with machine := dest, recovery := false, escape := 0, silence := none } := by
  simp [leaveArmed, clearArmed]

theorem leaveArmed_drive (cause : EndCause) (dest : MachineState) (s : State) :
    (∀ i, ((leaveArmed cause dest s).drive.wheels.get i).target = 0) ∧
    (leaveArmed cause dest s).drive.suspended = false := by
  simp [leaveArmed, zeroTargets, WheelState.zeroed]

/-- The reflex becomes QUIET and the record of the episode stays (R152). -/
theorem abortReflex_contact (s : State) :
    (abortReflex s).contact.stage = .quiet ∧ (abortReflex s).contact.record = s.contact.record := by
  unfold abortReflex
  split
  · exact ⟨‹_›, rfl⟩
  · exact ⟨rfl, rfl⟩

theorem leaveArmed_contact (cause : EndCause) (dest : MachineState) (s : State) :
    (leaveArmed cause dest s).contact.stage = .quiet ∧ (leaveArmed cause dest s).contact.pinging = false ∧
    (leaveArmed cause dest s).contact.record = s.contact.record := by
  obtain ⟨hstage, hrecord⟩ := abortReflex_contact (zeroTargets (abortPlan cause (setMachine dest s)))
  exact ⟨hstage, rfl, by simpa [leaveArmed, pingOff] using hrecord⟩

/-- The plan is settled by its own part of the leaving, and so are the blade and the memory. -/
theorem leaveArmed_eq_abortPlan (cause : EndCause) (dest : MachineState) (s : State) :
    (leaveArmed cause dest s).plan = (abortPlan cause (setMachine dest s)).plan ∧
    (leaveArmed cause dest s).blade = (abortPlan cause (setMachine dest s)).blade ∧
    (leaveArmed cause dest s).mem = (abortPlan cause (setMachine dest s)).mem := by simp [leaveArmed]

section
variable {cause : EndCause} {dest : MachineState} (hc : ∀ o, cause.continuation o = .toIdle)
include hc

theorem leaveArmed_plan (s : State) :
    (leaveArmed cause dest s).plan.state = .idle ∧ (leaveArmed cause dest s).plan.active = none ∧
    (leaveArmed cause dest s).plan.standing = .off := by
  obtain ⟨t, ht, -, -⟩ := abortPlan_becomeIdle (setMachine dest s) hc
  rw [(leaveArmed_eq_abortPlan cause dest s).1, ht]
  exact becomeIdle_plan t

/-- The machine state's judgement of OFF is the one that moves the blade. -/
theorem leaveArmed_blade (s : State) (hdest : dest ≠ .armed) :
    (leaveArmed cause dest s).blade = (setMachine dest s).blade := by
  obtain ⟨t, ht, hblade, -⟩ := abortPlan_becomeIdle (setMachine dest s) hc
  rw [(leaveArmed_eq_abortPlan cause dest s).2.1, ht, becomeIdle_blade (hblade ▸ setMachine_undriven hdest), hblade]

theorem leaveArmed_machineWord (s : State) (hcode : dest.code ≠ 0) :
    (leaveArmed cause dest s).word addrMachineState = dest.code := by
  obtain ⟨t, ht, -, hword⟩ := abortPlan_becomeIdle (setMachine dest s) hc
  rw [State.word_eq, (leaveArmed_eq_abortPlan cause dest s).2.2, ht, ← State.word_eq,
    becomeIdle_word t (.inl (by decide)), hword _ (by decide), setMachine_word s hcode]

theorem leaveArmed_slot {s : State} {seg : Segment} (ha : s.plan.active = some seg) (hdest : dest ≠ .armed) :
    (leaveArmed cause dest s).slotState seg.slot = endState cause ∧
    (leaveArmed cause dest s).word (slotBase seg.slot + 20) = cause.code := by
  unfold State.slotState State.word
  rw [(leaveArmed_eq_abortPlan cause dest s).2.2]
  exact abortPlan_slot ((congrArg Plan.active (setMachine_plan hdest)).trans ha) hc

end

/-! ### DISARM (R161, R189, R190) -/

/-- The request as the port hands it on: counted, its word and arguments taken. -/
def disarmArrival (s : State) : State := takeArrival 2 { s with causes := Causes.none }

@[simp] theorem disarmArrival_frame (s : State) :
    (disarmArrival s).partTime = s.partTime ∧ (disarmArrival s).recv = s.recv ∧ (disarmArrival s).loops = s.loops ∧
    (disarmArrival s).plan = s.plan ∧ (disarmArrival s).gov = s.gov ∧ (disarmArrival s).blade = s.blade ∧
    (disarmArrival s).contact = s.contact ∧ (disarmArrival s).guard = s.guard ∧
    (disarmArrival s).causes = Causes.none := by and_intros <;> rfl

/-- The state DISARM leaves, with the refreshes its changes cause. -/
def disarmed (s : State) : State :=
  { startMirrors false { s with causes := Causes.none }
      (judgeRequest 2 (s.port.requestCount + 1) (disarmArrival s)) with causes := s.causes }

theorem exec_disarm {s : State} (hr : s.resetting = none) : exec .disarm s = .next (disarmed s) := by
  have hevent : s.requestEvent 2 = s.noting fun b => startMirrors false b (arrival 2 b) := whenRunning_running hr _
  exact congrArg Host.Outcome.next hevent

/-- ARMED, the machine is left for SAFE. -/
theorem judgeRequest_disarm_armed {s : State} (hm : s.guard.machine = .armed)
    (hc : ∀ n, s.port.inHand ≠ .selfCheck n) (count : BitVec 8) :
    judgeRequest 2 count s = answerWith 2 .done count (leaveArmed .disarm .safe s) := by
  rw [judgeRequest_owner (by simp [hm]) hc]
  simp [askOwner, askDisarm, hm]

/-- What DISARM is answered in each machine state. -/
def disarmResult : MachineState → Result
  | .start => .notReady
  | .safe => .done
  | .armed => .done
  | .tripped => .refusedState
  | .parked => .refusedState

/-- Outside ARMED, the request is answered and nothing else. -/
theorem judgeRequest_disarm_unarmed {s : State} (hm : s.guard.machine ≠ .armed)
    (hc : ∀ n, s.port.inHand ≠ .selfCheck n) (count : BitVec 8) :
    judgeRequest 2 count s = answerWith 2 (disarmResult s.guard.machine) count s := by
  cases h : s.guard.machine with
  | start => simp [judgeRequest, h, disarmResult]
  | armed => exact absurd h hm
  | safe => rw [judgeRequest_owner (by simp [h]) hc]; simp [askOwner, askDisarm, h, disarmResult]
  | tripped => rw [judgeRequest_owner (by simp [h]) hc]; simp [askOwner, askDisarm, h, disarmResult]
  | parked => rw [judgeRequest_owner (by simp [h]) hc]; simp [askOwner, askDisarm, h, disarmResult]

/-- While ARMED, the answer and the refreshes leave the leaving of ARMED as it is. -/
theorem disarmed_of_armed {s : State} (hm : s.guard.machine = .armed) (hc : ∀ n, s.port.inHand ≠ .selfCheck n) :
    let left := leaveArmed .disarm .safe (disarmArrival s)
    (disarmed s).port.answer = ⟨2, 1, 0, s.port.requestCount + 1⟩ ∧ (disarmed s).partTime = left.partTime ∧
    (disarmed s).recv = left.recv ∧ (disarmed s).loops = left.loops ∧ (disarmed s).gov = left.gov ∧
    (disarmed s).guard = left.guard ∧ (disarmed s).plan = left.plan ∧ (disarmed s).drive = left.drive ∧
    (disarmed s).blade = left.blade ∧ (disarmed s).contact = left.contact ∧
    ∀ a, a < 0x009 ∨ 0x400 ≤ a → (disarmed s).word a = left.word a := by
  unfold disarmed
  rw [judgeRequest_disarm_armed (s := disarmArrival s) hm hc]
  refine ⟨?answer, by simp, by simp, by simp, by simp, by simp, by simp, by simp, by simp, by simp, fun a ha => ?word⟩
  case answer => simp [Result.code, Result.reason]
  case word =>
    exact (startMirrors_word _ _ _ (by omega) (by omega) (by omega)).trans (answerWith_word _ _ _ _ (by omega))

/-- Outside ARMED, the answer starts no refresh. -/
theorem disarmed_of_unarmed {s : State} (hm : s.guard.machine ≠ .armed) (hc : ∀ n, s.port.inHand ≠ .selfCheck n) :
    disarmed s = { answerWith 2 (disarmResult s.guard.machine) (s.port.requestCount + 1) (disarmArrival s) with
      causes := s.causes } := by
  unfold disarmed
  rw [judgeRequest_disarm_unarmed (s := disarmArrival s) hm hc, startMirrors_quiet]
  · simp
  · exact loopMirrorChanged_false (by simp) (by simp) (by simp) (by simp)
  · simp
  · simp
  · simp

/-- Settles O35: ARMED by the parts of the leaving, and outside ARMED by the answer alone. -/
theorem disarmInEveryState : Obligations.DisarmInEveryState := by
  unfold Obligations.DisarmInEveryState
  intro s hr hc hblade
  refine ⟨fun hm => ⟨disarmed s, exec_disarm hr, ?armed⟩, fun result hresult => ⟨disarmed s, exec_disarm hr, ?unarmed⟩⟩
  case armed =>
    have hsafe : MachineState.safe ≠ .armed := by decide
    have hidle : ∀ o, EndCause.disarm.continuation o = .toIdle := fun _ => rfl
    obtain ⟨hanswer, hpart, hrecv, hloops, hgov, hguard, hplan, hdrive, hbl, hcontact, hword⟩ := disarmed_of_armed hm hc
    obtain ⟨hstate, hactive, hstanding⟩ := leaveArmed_plan (dest := .safe) hidle (disarmArrival s)
    obtain ⟨htargets, hsuspended⟩ := leaveArmed_drive .disarm .safe (disarmArrival s)
    obtain ⟨hstage, hpinging, hrecord⟩ := leaveArmed_contact .disarm .safe (disarmArrival s)
    have hbraked := setMachine_braking (s := disarmArrival s) hsafe
    have hkept := setMachine_blade_of_not_driven (s := disarmArrival s) hsafe
    rw [← leaveArmed_blade hidle _ hsafe, ← hbl] at hbraked hkept
    refine ⟨by simp [hpart], by simp [hrecv], by simp [hloops], by simp [hgov], hanswer, ?_, hplan ▸ hstate,
      hplan ▸ hactive, hplan ▸ hstanding, hdrive ▸ htargets, hdrive ▸ hsuspended, ?duty, fun hd => (hbraked hd).1,
      hkept, hcontact ▸ hstage, hcontact ▸ hpinging, hcontact ▸ hrecord, ?header, fun seg hseg => ?slot⟩
    · exact hguard.trans (leaveArmed_guard ..)
    case duty =>
      by_cases hd : Driven s.blade.state
      · exact (hbraked hd).2.1
      · rw [hkept hd]
        exact Nat.eq_zero_of_not_pos fun hpos => hd (hblade.1 hpos)
    case header => exact (hword _ (by decide)).trans (leaveArmed_machineWord (dest := .safe) hidle _ (by decide))
    case slot =>
      have hslot := slotBase_ge seg.slot
      obtain ⟨hcut, hcause⟩ := leaveArmed_slot (s := disarmArrival s) hidle hseg hsafe
      exact ⟨(hword _ (.inr hslot)).trans hcut, (hword _ (.inr (by omega))).trans hcause⟩
  case unarmed =>
    have hm : s.guard.machine ≠ .armed := by
      rcases hresult with ⟨h, -⟩ | ⟨h, -⟩ | ⟨h | h, -⟩ <;> simp [h]
    have hcode : (disarmResult s.guard.machine).code = result ∧ (disarmResult s.guard.machine).reason = 0 := by
      rcases hresult with ⟨h, rfl⟩ | ⟨h, rfl⟩ | ⟨h | h, rfl⟩ <;> rw [h] <;> exact ⟨rfl, rfl⟩
    rw [disarmed_of_unarmed hm hc]
    constructor
    · rw [answerWith_eq_update, hcode.1, hcode.2]
      rfl
    · intro a ha hne
      exact (answerWith_word _ _ _ _ (.inr ha)).trans (Memory.read_write_other _ _ hne)

end Sys2Proof.Proofs
end

section
/-! SUPPORT. What an event that changes nothing a mirror shows leaves, the words of PORTCTL and IDENT, the registers'
frame, the notice state over a RESTART, and the proof of the statement on PORTCTL. -/

namespace Sys2Proof.Proofs

open Sys2Proof.Machine Sys2Proof.Safety

/-! ### An event that starts no refresh (R195, R196) -/

/-- Rules that leave alone all that a mirror shows at once are the whole event. -/
theorem event_quiet {s b : State} {f : State → State} (hr : s.resetting = none)
    (hb : f { s with causes := Causes.none } = b) (hloops : b.loops = s.loops) (hrecv : b.recv = s.recv)
    (hcontact : b.contact = s.contact) (hguard : b.guard = s.guard) (hcauses : b.causes = Causes.none) :
    s.event f = { b with causes := s.causes } := by
  have hsame : loopMirrorChanged { s with causes := Causes.none } b = false :=
    loopMirrorChanged_false (by rw [hloops]) (by rw [hloops]) (by rw [hloops]) (by simp [hrecv])
  rw [event_running hr, State.noting, hb, startMirrors_quiet hsame (by rw [hcontact]) (by rw [hguard]) hcauses]

/-- An event without rules leaves the state as it is, in a reset and out of it. -/
theorem event_id (s : State) : s.event (fun a => a) = s := by
  cases hr : s.resetting with
  | none => exact event_quiet (b := { s with causes := Causes.none }) hr rfl rfl rfl rfl rfl rfl
  | some r => exact event_resetting hr _

/-! ### The words of PORTCTL and IDENT (R202, R206) -/

theorem hostRead_portctl {s : State} (hr : s.resetting = none) : s.hostRead 0xFFE = s.notice.portctlWord := by
  simp [State.hostRead, hr]

theorem hostRead_ident {s : State} (hr : s.resetting = none) : s.hostRead 0xFFF = Config.identWord := by
  simp [State.hostRead, hr]

/-- The two low bits of a word, put together as PORTCTL puts them, are that word without its other bits. -/
theorem wordB_low_bits (v : Word) : wordB (v.getLsbD 0) ||| (wordB (v.getLsbD 1) <<< 1) = v &&& 3 := by
  have hlow (b : Bool) (i : Nat) : (wordB b).getLsbD i = (b && decide (i = 0)) := by
    cases b <;> simp [wordB, BitVec.getLsbD_one]
  have hmask (i : Nat) (hi : i < 16) : (3 : Word).getLsbD i = decide (i < 2) := by
    interval_cases i <;> rfl
  refine BitVec.eq_of_getLsbD_eq fun i hi => ?_
  rw [BitVec.getLsbD_or, BitVec.getLsbD_and, BitVec.getLsbD_shiftLeft, hlow, hlow, hmask i hi]
  match i with
  | 0 => simp
  | 1 => simp
  | i + 2 => simp

/-! ### The registers and the port faults (R186, R188) -/

/-- What a source writes lies above the port fault count, however many detail words it has. -/
theorem sourceCells_ge {src : Source} {st : SourceState} {c : Nat × Word} (hc : c ∈ sourceCells src st) : 0x010 ≤ c.1 := by
  rcases List.mem_cons.1 hc with rfl | hc
  · exact Nat.le_add_right ..
  · rcases List.mem_cons.1 hc with rfl | hc
    · exact Nat.le_add_right_of_le (Nat.le_add_right ..)
    · have hbounds := cellsFrom_bounds hc
      simp only [addrDetails] at hbounds
      omega

theorem setSource_word (src : Source) (st : SourceState) (s : State) {a : Nat} (ha : a < 0x010) :
    (setSource src st s).word a = s.word a :=
  Memory.read_writeAll_outside _ fun _ hc => Nat.ne_of_gt (Nat.lt_of_lt_of_le ha (sourceCells_ge hc))

theorem writeService_word (v : Word) (s : State) {a : Nat} (ha : a < 0x010) :
    (writeService v s).word a = s.word a := by
  unfold writeService endService serviceNumber clearSource
  split
  · split
    · rfl
    · exact setSource_word _ _ _ ha
  · split
    · rfl
    · exact setSource_word _ _ _ ha

theorem writeRegister_word (r : Nat) (v : Word) (s : State) {a : Nat} (ha : a < 0x010) :
    (writeRegister r v s).word a = s.word a := by
  unfold writeRegister
  split
  · exact writeService_word _ _ ha
  · split <;> rfl

/-- The registers are the addresses from 0xFFC on (R188). -/
theorem areaOf_registers {a : Nat} (ha : 0xFFC ≤ a) : areaOf a = .registers := by
  unfold areaOf
  repeat rw [if_neg (by omega)]

theorem exec_hostWrite_register {a : BitVec 12} (ha : 0xFFC ≤ a.toNat) (v : Word) (s : State) :
    exec (.hostWrite a v) s = .next (s.event (writeRegister a.toNat v)) := by
  have harea : hostWrite a.toNat v = writeRegister a.toNat v := by
    funext t
    simp [hostWrite, areaOf_registers ha]
  have hrequest : a.toNat ≠ addrRequest := Nat.ne_of_gt (Nat.lt_of_lt_of_le (by decide) ha)
  have hevent : s.hostWriteEvent a.toNat v = s.event (writeRegister a.toNat v) := by
    rw [State.hostWriteEvent, if_neg fun h => hrequest h.1, harea]
  exact congrArg Host.Outcome.next hevent

/-- A write to a register counts no port fault, and leaves the header's count. -/
theorem event_writeRegister_faults (r : Nat) (v : Word) (s : State) :
    (s.event (writeRegister r v)).port.faults = s.port.faults ∧
    (s.event (writeRegister r v)).word 0x00D = s.word 0x00D := by
  cases hr : s.resetting with
  | some _ => rw [event_resetting hr]; exact ⟨rfl, rfl⟩
  | none =>
    rw [event_running hr]
    constructor
    · simp
    · rw [noting_word, startMirrors_word _ _ _ (by decide) (by decide) (by decide)]
      exact writeRegister_word _ _ _ (by decide)

/-- IDENT takes no write (R202). -/
theorem writeRegister_ident (v : Word) : writeRegister 0xFFF v = fun s => s := by
  funext s
  simp [writeRegister]

/-- A read of ATTENTION, acknowledging or not, counts no port fault, and leaves the header's count. -/
theorem attentionAccess_faults (s : State) :
    (attentionAccess s).port.faults = s.port.faults ∧ (attentionAccess s).word 0x00D = s.word 0x00D := by
  have hread : (readAttention s).port.faults = s.port.faults ∧ (readAttention s).word 0x00D = s.word 0x00D := by
    unfold readAttention
    split
    · exact ⟨rfl, rfl⟩
    · split
      · exact ⟨rfl, rfl⟩
      · exact ⟨rfl, setSource_word _ _ _ (by decide)⟩
  unfold attentionAccess hostReadEvent readEffect
  split
  · exact ⟨rfl, rfl⟩
  · exact hread

/-! ### PORTCTL is written (R202) -/

theorem exec_portctlWrite {s : State} (hr : s.resetting = none) (v : Word) :
    exec (.portctlWrite v) s = .next (writePortctl v s) :=
  congrArg Host.Outcome.next
    (event_quiet hr rfl (by simp) (by simp) (by simp) (by simp) rfl : s.event (writePortctl v) = writePortctl v s)

theorem writePortctl_portctlWord (v : Word) (s : State) : (writePortctl v s).notice.portctlWord = v &&& 3 :=
  wordB_low_bits v

/-! ### PORTCTL over the resets (R169, R170, R197) -/

/-- A POWER, PIN or STROBE that ends leaves the part running, with both bits of PORTCTL clear. -/
theorem endReset_portctl {s : State} {r : Resetting} (hr : s.resetting = some r) :
    (endReset s).resetting = none ∧ (endReset s).notice = initNotices false false := by
  simp [endReset, hr, State.initial]

/-- No notice is posted of the segment that a RESTART ends (R61). -/
theorem endForRestart_notice (s : State) : (endForRestart s).notice = s.notice := by
  have hidle : ∀ o, EndCause.restart.continuation o = .toIdle := fun _ => rfl
  unfold endForRestart settleEnd
  split
  · split
    · rfl
    · simp [continuePlan, hidle, becomeIdle, postEnd, closeSegment, reportDocked]
  · rfl

/-- A taken RESTART clears every source and keeps both bits of PORTCTL. -/
theorem takeRestart_notice (count : BitVec 8) (s : State) :
    (takeRestart count s).notice = initNotices s.notice.atnEnable s.notice.ackMode := by
  have hblocks : (takeRestart count s).notice =
      initNotices (endForRestart s).notice.atnEnable (endForRestart s).notice.ackMode := by
    simp [takeRestart, blocksAfterRestart]
  rw [hblocks, endForRestart_notice]

/-- Outside START a RESTART is taken, whatever request is in hand (R190). -/
theorem judgeRequest_restart {s : State} (hm : s.guard.machine ≠ .start) (count : BitVec 8) :
    judgeRequest requestRestart count s = takeRestart count s := by
  simp [judgeRequest, hm, askOwner, requestRestart]

/-- The request as the port hands it on: counted, its word and arguments taken. -/
def restartArrival (s : State) : State := takeArrival requestRestart { s with causes := Causes.none }

/-- The state a taken RESTART leaves; it starts the refreshes itself. -/
def restarted (s : State) : State :=
  { takeRestart (s.port.requestCount + 1) (restartArrival s) with causes := s.causes }

theorem exec_restart {s : State} (hr : s.resetting = none) (hm : s.guard.machine ≠ .start) :
    exec .restart s = .next (restarted s) := by
  have htaken : State.restarts { s with causes := Causes.none } requestRestart = true := by simp [State.restarts, hm]
  have howner : arrival requestRestart { s with causes := Causes.none } =
      takeRestart (s.port.requestCount + 1) (restartArrival s) := judgeRequest_restart (s := restartArrival s) hm _
  have hevent : s.requestEvent requestRestart = restarted s := by
    rw [State.requestEvent, whenRunning_running hr, State.noting, if_pos htaken, howner, restarted]
  exact congrArg Host.Outcome.next hevent

/-- Over a RESTART the part keeps running and PORTCTL keeps both bits. -/
theorem restarted_portctl (s : State) :
    (restarted s).resetting = s.resetting ∧ (restarted s).notice = initNotices s.notice.atnEnable s.notice.ackMode := by
  constructor
  · simp [restarted, restartArrival]
  · simp only [restarted, takeRestart_notice]
    rfl

/-- Settles O47, by PORTCTL's word after a write and after each kind of reset, and by the frame of the registers. -/
theorem portctlWrite : Obligations.PortctlWrite := by
  unfold Obligations.PortctlWrite
  intro s
  refine ⟨fun hr v => ?write, fun r hr => ?reset, fun hr hm => ?restart, fun hr => hostRead_ident hr, fun v => ?ident,
    fun a v ha => ?registers, fun c hc => ?attention⟩
  case write =>
    refine ⟨writePortctl v s, exec_portctlWrite hr v, rfl, ?_⟩
    rw [hostRead_portctl (by simp [hr]), writePortctl_portctlWord]
  case reset =>
    obtain ⟨hrunning, hnotice⟩ := endReset_portctl hr
    refine ⟨endReset s, rfl, ?_⟩
    rw [hostRead_portctl hrunning, hnotice]
    decide
  case restart =>
    obtain ⟨hrunning, hnotice⟩ := restarted_portctl s
    refine ⟨restarted s, exec_restart hr hm, ?_⟩
    rw [hostRead_portctl (hrunning.trans hr), hostRead_portctl hr, hnotice]
    rfl
  case ident =>
    have hident : 0xFFC ≤ (0xFFF : BitVec 12).toNat := by decide
    rw [exec_hostWrite_register hident, show (0xFFF : BitVec 12).toNat = 0xFFF from rfl, writeRegister_ident, event_id]
  case registers => exact ⟨_, exec_hostWrite_register ha v s, event_writeRegister_faults _ v s⟩
  case attention =>
    have hread : exec c s = .next (attentionAccess s) := by
      rcases hc with rfl | rfl <;> rfl
    exact ⟨_, hread, attentionAccess_faults s⟩

end Sys2Proof.Proofs
end

section
/-! SUPPORT. What every operation of the running part keeps: one relation between two states that holds every law of
Safety.lean, is reflexive and transitive, and is shown once for each shared operation. -/

namespace Sys2Proof.Proofs

open Sys2Proof.Machine Sys2Proof.Safety

/-! ### The laws kept -/

/-- The level the attention line has by its rule (R199), with the facts that keep its words apart from the mirrors. -/
def LineJudged (s : State) : Prop :=
  (CopyInside s.port.snapshot 0x100 0x17F ∧ CopyInside s.port.loopTable 0x180 0x1FF ∧
      CopyInside s.port.contactList 0x200 0x27F ∧ s.port.latched.length = 25 ∧ DetailsLaw s) ∧
    s.notice.line = s.notice.lineLevel s.noticeEnable

/-- The further causes only grow, and the first cause stands (R167). -/
def TripGrows (g h : Guard) : Prop :=
  h.trip.first = g.trip.first ∧ g.trip.further &&& h.trip.further = g.trip.further

/-- What every operation keeps, also one in the middle of the leaving of ARMED, in which plan and targets follow the machine
state. A law is kept as in `Calm.refl` where the operation leaves alone all that it reads. -/
structure Calm (s t : State) : Prop where
  resetting : t.resetting = s.resetting
  pins : t.pins = s.pins
  lift : t.guard.lift = s.guard.lift ∧ t.guard.liftTimer = s.guard.liftTimer
  unarmed : s.guard.machine ≠ .armed → t.guard.machine ≠ .armed
  gov : t.gov = s.gov
  targets : ∀ i, (t.drive.wheels.get i).target = (s.drive.wheels.get i).target ∨ (t.drive.wheels.get i).target = 0
  memory : s.mem.wf = true → t.mem.wf = true
  lost : LostLaw s → LostLaw t
  blade : BladeLaw s → BladeLaw t
  contact : ContactLaw s → ContactLaw t
  settings : SettingsLaw s → SettingsLaw t
  line : LineJudged s → LineJudged t
  trip : s.guard.machine = .tripped → t.guard.machine = .tripped ∧ TripGrows s.guard t.guard

/-- The wheel targets are 0 outside ARMED (R72). -/
def RestLaw (s : State) : Prop := s.guard.machine ≠ .armed → ∀ i : LR, (s.drive.wheels.get i).target = 0

/-- What every whole operation keeps. -/
structure Kept (s t : State) : Prop extends Calm s t where
  plan : PlanLaw s → PlanLaw t
  rest : RestLaw s → RestLaw t

theorem TripGrows.trans {f g h : Guard} (hfg : TripGrows f g) (hgh : TripGrows g h) : TripGrows f h := by
  obtain ⟨hfirst, hfurther⟩ := hfg
  obtain ⟨hfirst', hfurther'⟩ := hgh
  refine ⟨hfirst'.trans hfirst, ?_⟩
  rw [← hfurther, BitVec.and_assoc, hfurther']

theorem Calm.refl (s : State) : Calm s s where
  resetting := rfl
  pins := rfl
  lift := ⟨rfl, rfl⟩
  unarmed := id
  gov := rfl
  targets _ := .inl rfl
  memory := id
  lost := id
  blade := id
  contact := id
  settings := id
  line := id
  trip h := ⟨h, rfl, BitVec.and_self⟩

theorem Calm.trans {s t u : State} (h : Calm s t) (k : Calm t u) : Calm s u where
  resetting := k.resetting.trans h.resetting
  pins := k.pins.trans h.pins
  lift := ⟨k.lift.1.trans h.lift.1, k.lift.2.trans h.lift.2⟩
  unarmed := k.unarmed ∘ h.unarmed
  gov := k.gov.trans h.gov
  targets i := by
    rcases k.targets i with hk | hk
    · exact hk ▸ h.targets i
    · exact .inr hk
  memory := k.memory ∘ h.memory
  lost := k.lost ∘ h.lost
  blade := k.blade ∘ h.blade
  contact := k.contact ∘ h.contact
  settings := k.settings ∘ h.settings
  line := k.line ∘ h.line
  trip hs := by
    obtain ⟨ht, hst⟩ := h.trip hs
    obtain ⟨hu, htu⟩ := k.trip ht
    exact ⟨hu, hst.trans htu⟩

theorem Kept.refl (s : State) : Kept s s where
  toCalm := .refl s
  plan := id
  rest := id

theorem Kept.trans {s t u : State} (h : Kept s t) (k : Kept t u) : Kept s u where
  toCalm := h.toCalm.trans k.toCalm
  plan := k.plan ∘ h.plan
  rest := k.rest ∘ h.rest

/-- Composition read from the outermost operation inwards. -/
theorem Kept.after {s t u : State} (k : Kept t u) (h : Kept s t) : Kept s u := h.trans k

/-- Outside ARMED before and after, kept targets that were 0 are 0. -/
theorem Calm.rest {s t : State} (h : Calm s t) (hm : t.guard.machine ≠ .armed → s.guard.machine ≠ .armed) :
    RestLaw s → RestLaw t := fun hs ht i => by
  rcases h.targets i with hi | hi
  · rw [hi]; exact hs (hm ht) i
  · exact hi

/-- An operation that leaves the machine state, and no IDLE plan busy, keeps the laws on both. -/
theorem Calm.kept {s t : State} (h : Calm s t) (hm : t.guard.machine = s.guard.machine)
    (hp : s.guard.machine ≠ .armed → s.plan.state = .idle ∧ s.plan.active = none →
      t.plan.state = .idle ∧ t.plan.active = none) : Kept s t where
  toCalm := h
  plan hs ht := hp (hm ▸ ht) (hs (hm ▸ ht))
  rest := h.rest (hm ▸ id)

/-- An operation that leaves the machine state and the plan is whole. -/
theorem Calm.kept_of_plan {s t : State} (h : Calm s t) (hm : t.guard.machine = s.guard.machine) (hp : t.plan = s.plan) :
    Kept s t := h.kept hm fun _ hidle => hp ▸ hidle

/-! ### Updates of one block -/

/-- The clocks, and the blocks no law reads. -/
theorem kept_unread (s : State) (timebase : Capture) (partTime : Time) (recv : Receiver) (track : Track) (dock : Dock)
    (causes : Causes) :
    Kept s { s with
      timebase := timebase, partTime := partTime, recv := recv, track := track, dock := dock, causes := causes } := { Kept.refl s with }

/-- The words of the exchange memory that the line's judgement does not read. -/
theorem kept_cells (s : State) {cells : List (Nat × Word)} (h : ∀ c ∈ cells, c.1 ≠ addrNoticeEnable) :
    Kept s { s with mem := s.mem.writeAll cells } := { Kept.refl s with
  memory := Memory.wf_writeAll cells
  line := fun ⟨hfacts, hline⟩ => ⟨hfacts, hline.trans (congrArg _ (Memory.read_writeAll_outside s.mem h).symm)⟩ }

theorem kept_cell (s : State) {a : Nat} (v : Word) (h : a ≠ addrNoticeEnable) :
    Kept s { s with mem := s.mem.write a v } :=
  kept_cells (cells := [(a, v)]) s fun _ hc => by rw [List.mem_singleton.1 hc]; exact h

/-- The Loop Table, when no sub-record loses what a LOST one must have. -/
theorem kept_loops (s : State) {l : LoopTable} (h : LostLaw s → LostLaw { s with loops := l }) :
    Kept s { s with loops := l } := { Kept.refl s with lost := h }

/-- The plan, when the settings in force stay or are in range. -/
theorem calm_plan (s : State) {p : Plan} (h : SettingsLaw s → SettingsLaw { s with plan := p }) :
    Calm s { s with plan := p } := { Calm.refl s with settings := h }

theorem kept_plan (s : State) {p : Plan} (ha : p.applied = s.plan.applied)
    (hp : s.guard.machine ≠ .armed → s.plan.state = .idle ∧ s.plan.active = none → p.state = .idle ∧ p.active = none) :
    Kept s { s with plan := p } :=
  (calm_plan s fun h => by unfold SettingsLaw at h ⊢; rwa [ha]).kept rfl hp

theorem kept_drive (s : State) {d : Drive}
    (h : ∀ i, (d.wheels.get i).target = (s.drive.wheels.get i).target ∨ (d.wheels.get i).target = 0) :
    Kept s { s with drive := d } :=
  (show Calm s { s with drive := d } from { Calm.refl s with targets := h }).kept_of_plan rfl rfl

theorem kept_contact (s : State) {c : Contact} (h : ContactLaw s → ContactLaw { s with contact := c }) :
    Kept s { s with contact := c } := { Kept.refl s with contact := h }

theorem kept_blade (s : State) {b : Blade} (h : BladeLaw s → BladeLaw { s with blade := b }) :
    Kept s { s with blade := b } := { Kept.refl s with blade := h }

/-- The Guard, but for its machine state and the lift inputs. -/
theorem kept_guard_of (s : State) {g : Guard}
    (h : g.machine = s.guard.machine ∧ g.lift = s.guard.lift ∧ g.liftTimer = s.guard.liftTimer)
    (hg : TripGrows s.guard g) : Kept s { s with guard := g } := by
  obtain ⟨hm, hl, ht⟩ := h
  exact (show Calm s { s with guard := g } from
    { Calm.refl s with
      lift := ⟨hl, ht⟩
      unarmed := fun h => hm ▸ h
      blade := fun h => by unfold BladeLaw at h ⊢; rwa [hm]
      trip := fun h => ⟨hm.trans h, hg⟩ }).kept_of_plan hm rfl

/-- What the Guard notes beside its machine state, the lift inputs and the causes of a trip. -/
theorem kept_guard (s : State) {g : Guard}
    (h : (g.machine, g.lift, g.liftTimer, g.trip.first, g.trip.further) =
      (s.guard.machine, s.guard.lift, s.guard.liftTimer, s.guard.trip.first, s.guard.trip.further)) :
    Kept s { s with guard := g } := by
  simp only [Prod.mk.injEq] at h
  obtain ⟨hm, hl, ht, hfirst, hfurther⟩ := h
  exact kept_guard_of s ⟨hm, hl, ht⟩ ⟨hfirst, by rw [hfurther, BitVec.and_self]⟩

/-- The port, but for its refreshes and what it keeps for the next snapshot. -/
theorem kept_port (s : State) {p : Port}
    (h : (p.snapshot, p.loopTable, p.contactList, p.latched) =
      (s.port.snapshot, s.port.loopTable, s.port.contactList, s.port.latched)) : Kept s { s with port := p } := by
  simp only [Prod.mk.injEq] at h
  obtain ⟨hs, hl, hc, hk⟩ := h
  exact { Kept.refl s with
    line := fun hline => by
      unfold LineJudged at hline ⊢
      rwa [hs, hl, hc, hk] }

/-! ### Notices and answers (R191, R198, R199) -/

/-- The line is judged on the words as they stand. -/
theorem judgeLine_line (s : State) : (judgeLine s).notice.line = (judgeLine s).notice.lineLevel (judgeLine s).noticeEnable :=
  rfl

/-- What a source writes leaves NOTICE_ENABLE. -/
theorem sourceCells_noticeEnable {src : Source} {st : SourceState} (h : st.details.length = if src = .plan then 3 else 1) :
    ∀ c ∈ sourceCells src st, c.1 ≠ addrNoticeEnable := fun c hc => by
  have := sourceCells_header (st := st) (by rw [h]; split <;> decide) hc
  simp only [addrNoticeEnable]
  omega

/-- A source with its proper number of details is put in force. -/
theorem kept_setSource (src : Source) (st : SourceState) (s : State)
    (h : DetailsLaw s → st.details.length = if src = .plan then 3 else 1) : Kept s (setSource src st s) := { Kept.refl s with
  memory := setSource_wf src st
  line := fun ⟨⟨hs, hl, hc, hk, hd⟩, _⟩ => by
    refine ⟨⟨hs, hl, hc, hk, fun a => ?_⟩, judgeLine_line _⟩
    by_cases ha : a = src
    · subst ha
      rw [setSource_get]
      exact h hd
    · have hother : (setSource src st s).notice.get a = s.notice.get a := by
        calc (setSource src st s).notice.get a = (s.notice.set src st).get a := by cases a <;> rfl
          _ = s.notice.get a := Notices.get_set_other _ _ ha
      rw [hother]
      exact hd a }

theorem kept_post (r : Report) (s : State) : Kept s (post r s) := by
  unfold post
  split
  · exact .refl s
  · exact kept_setSource _ _ _ fun _ => r.details_length_eq

theorem kept_answerWith (code : Word) (r : Result) (count : BitVec 8) (s : State) :
    Kept s (answerWith code r count s) := by
  have hcells : ∀ c ∈ answerCells ⟨code, r.code, r.reason, count⟩, c.1 ≠ addrNoticeEnable := fun c hc => by
    have := cellsFrom_bounds hc
    simp only [addrAnswer, addrNoticeEnable, List.length_cons, List.length_nil] at this ⊢
    omega
  exact (kept_post _ _).after
    ((kept_cells s hcells).trans (kept_port _ (p := { s.port with answer := ⟨code, r.code, r.reason, count⟩ }) rfl))

/-- NOTICE_ENABLE is written and the line judged with it (R193). -/
theorem kept_enable (v : Word) (s : State) : Kept s (judgeLine (s.put addrNoticeEnable v)) := { Kept.refl s with
  memory := Memory.wf_write _ v
  line := fun ⟨hfacts, _⟩ => ⟨hfacts, judgeLine_line _⟩ }

theorem kept_writePortctl (v : Word) (s : State) : Kept s (writePortctl v s) := { Kept.refl s with
  line := fun ⟨⟨hs, hl, hc, hk, hd⟩, _⟩ =>
    ⟨⟨hs, hl, hc, hk, fun a => by have := hd a; cases a <;> exact this⟩, judgeLine_line _⟩ }

/-! ### Records -/

/-- Cells of the records area are none the line's judgement reads. -/
theorem outside_noticeEnable {cells : List (Nat × Word)} (h : ∀ c ∈ cells, 0x280 ≤ c.1) :
    ∀ c ∈ cells, c.1 ≠ addrNoticeEnable := fun c hc => by
  have := h c hc
  simp only [addrNoticeEnable]
  omega

theorem kept_cellsFrom (s : State) {a : Nat} (ws : List Word) (h : 0x280 ≤ a) :
    Kept s { s with mem := s.mem.writeAll (cellsFrom a ws) } :=
  kept_cells s (outside_noticeEnable fun _ hc => h.trans (cellsFrom_bounds hc).1)

theorem kept_writeBladeRecord (s : State) : Kept s (writeBladeRecord s) := kept_cellsFrom s _ (by decide)
theorem kept_writeDockRecord (s : State) : Kept s (writeDockRecord s) := kept_cellsFrom s _ (by decide)
theorem kept_writeTripRecord (s : State) : Kept s (writeTripRecord s) := kept_cellsFrom s _ (by decide)
theorem kept_writeCheckRecord (s : State) : Kept s (writeCheckRecord s) := kept_cellsFrom s _ (by decide)

/-! ### Refreshes (R195, R196) -/

theorem entryWords_length (e : Entry) : (entryWords e).length = 11 := rfl

theorem entriesWords_length (n : Nat) (l : List Entry) : (entriesWords n l).length = 11 * n := by
  induction n generalizing l with
  | zero => rfl
  | succ n ih =>
    cases l with
    | nil => rw [entriesWords, List.length_append, ih]; simp; omega
    | cons e l => rw [entriesWords, List.length_append, entryWords_length, ih]; omega

theorem loopWords_length (r : LoopRec) : (loopWords r).length = 25 := by simp [loopWords, subWords]

/-- The first and the last word of a mirror's area, between which its copies lie. -/
def CopiesInside (p : Port) : Prop :=
  CopyInside p.snapshot 0x100 0x17F ∧ CopyInside p.loopTable 0x180 0x1FF ∧ CopyInside p.contactList 0x200 0x27F

/-- Cells in rising address order, within bounds. -/
def Spread (low high : Nat) (cells : List (Nat × Word)) : Prop :=
  cells.Pairwise (fun c d => c.1 < d.1) ∧ ∀ c ∈ cells, low ≤ c.1 ∧ c.1 < high

theorem spread_cellsFrom (a : Nat) (ws : List Word) : Spread a (a + ws.length) (cellsFrom a ws) := by
  refine ⟨?_, fun _ => cellsFrom_bounds⟩
  induction ws generalizing a with
  | nil => exact List.Pairwise.nil
  | cons w ws ih => exact List.pairwise_cons.2 ⟨fun c hc => (cellsFrom_bounds hc).1, ih (a + 1)⟩

theorem spread_of_length {a n : Nat} {ws : List Word} (h : ws.length = n) : Spread a (a + n) (cellsFrom a ws) :=
  h ▸ spread_cellsFrom a ws

theorem spread_singleton (a : Nat) (v : Word) : Spread a (a + 1) [(a, v)] := spread_cellsFrom a [v]

theorem Spread.append {low mid mid' high : Nat} {xs ys : List (Nat × Word)} (h : Spread low mid xs)
    (k : Spread mid' high ys) (hm : mid ≤ mid' := by decide) (hl : low ≤ mid' := by decide)
    (hh : mid ≤ high := by decide) : Spread low high (xs ++ ys) := by
  obtain ⟨hrise, hbound⟩ := h
  obtain ⟨hrise', hbound'⟩ := k
  refine ⟨List.pairwise_append.2 ⟨hrise, hrise', fun c hc d hd => ?_⟩, fun c hc => ?_⟩
  · have := hbound c hc
    have := hbound' d hd
    omega
  · rcases List.mem_append.1 hc with hc | hc
    · have := hbound c hc
      omega
    · have := hbound' c hc
      omega

theorem snapshotCells_spread {latched : List Word} (h : latched.length = 25) (b : Blade) (p : Plan) (c : Contact)
    (l : LoopTable) (g : Guard) (d : Dock) : Spread 0x101 0x12E (snapshotCells latched b p c l g d) :=
  spread_of_length (n := 45)
    (by simp [steeringWords, h, driveGovCount, snapshotMiddle, snapshotDock, words32])

theorem loopCells_spread (l : LoopTable) (r : Receiver) : Spread 0x181 0x1F4 (loopCells l r) :=
  (spread_of_length (n := 11) rfl).append
    (spread_of_length (n := 100) (by simp only [List.length_append, loopWords_length]))

theorem contactCells_spread (list : List Entry) : Spread 0x201 0x260 (contactCells list) :=
  (spread_singleton 0x201 _).append (spread_of_length (n := 88) (entriesWords_length Config.contactCapacity list))

/-- The copy of a mirror lies between its OPEN and its CLOSE (R195, R206). -/
theorem mirrorCopy_inside (m : Mirror) {s : State} (h : s.port.latched.length = 25) :
    ∀ c ∈ s.mirrorCopy m, mirrorOpen m < c.1 ∧ c.1 < mirrorClose m := by
  intro c hc
  cases m with
  | snapshot =>
    have := (snapshotCells_spread h _ _ _ _ _ _).2 c hc
    simp only [mirrorOpen, mirrorClose]
    omega
  | loopTable =>
    have := (loopCells_spread _ _).2 c hc
    simp only [mirrorOpen, mirrorClose]
    omega
  | contactList =>
    have := (contactCells_spread _).2 c hc
    simp only [mirrorOpen, mirrorClose]
    omega

theorem mirrorOpen_ne_noticeEnable (m : Mirror) : mirrorOpen m ≠ addrNoticeEnable := by cases m <;> decide

theorem mirrorClose_ne_noticeEnable (m : Mirror) : mirrorClose m ≠ addrNoticeEnable := by cases m <;> decide

/-- A mirror's refresh, between its two counts. -/
theorem copyInside_refresh {p : Port} (h : CopiesInside p) (m : Mirror) :
    CopyInside (p.refresh m) (mirrorOpen m) (mirrorClose m) := by
  obtain ⟨hs, hl, hc⟩ := h
  cases m
  · exact hs
  · exact hl
  · exact hc

theorem copiesInside_setRefresh {p : Port} (h : CopiesInside p) {m : Mirror} {r : Refresh}
    (hr : CopyInside r (mirrorOpen m) (mirrorClose m)) : CopiesInside (p.setRefresh m r) := by
  obtain ⟨hs, hl, hc⟩ := h
  cases m
  · exact ⟨hr, hl, hc⟩
  · exact ⟨hs, hr, hc⟩
  · exact ⟨hs, hl, hr⟩

theorem copyInside_of_writing {r : Refresh} {copy : List (Nat × Word)} {low high : Nat} (h : r.writing = some copy)
    (hc : ∀ c ∈ copy, low < c.1 ∧ c.1 < high) : CopyInside r low high := by
  intro copy' h'
  rw [h] at h'
  cases h'
  exact hc

theorem copyInside_none (again : Bool) (low high : Nat) : CopyInside ⟨none, again⟩ low high := by
  intro copy h
  cases h

/-- A refresh put in force with a memory that leaves NOTICE_ENABLE. -/
theorem kept_refresh (s : State) {m : Mirror} {r : Refresh} {mem : Memory} (hmem : s.mem.wf = true → mem.wf = true)
    (hr : LineJudged s → CopyInside r (mirrorOpen m) (mirrorClose m))
    (hn : LineJudged s → mem.read addrNoticeEnable = s.noticeEnable) :
    Kept s { s with port := s.port.setRefresh m r, mem := mem } := { Kept.refl s with
  memory := hmem
  line := fun h => by
    obtain ⟨⟨hs, hl, hc, hk, hd⟩, hline⟩ := id h
    obtain ⟨hs', hl', hc'⟩ := copiesInside_setRefresh ⟨hs, hl, hc⟩ (hr h)
    have hlatched : (s.port.setRefresh m r).latched.length = 25 := by simpa using hk
    exact ⟨⟨hs', hl', hc', hlatched, hd⟩, hline.trans (congrArg _ (hn h).symm)⟩ }

theorem kept_startRefresh (m : Mirror) (s : State) : Kept s (startRefresh m s) := by
  cases hw : (s.port.refresh m).writing with
  | some copy =>
    rw [startRefresh_writing hw]
    refine kept_refresh s id (fun ⟨⟨hs, hl, hc, _⟩, _⟩ => ?_) (fun _ => rfl)
    exact copyInside_of_writing rfl (copyInside_refresh ⟨hs, hl, hc⟩ m copy hw)
  | none =>
    rw [startRefresh_idle hw]
    refine kept_refresh s (Memory.wf_write _ _) (fun ⟨⟨_, _, _, hk, _⟩, _⟩ => ?_) (fun _ => ?_)
    · exact copyInside_of_writing rfl (mirrorCopy_inside m hk)
    · exact Memory.read_write_other _ _ (mirrorOpen_ne_noticeEnable m).symm

/-- A word of a copy lies in a mirror, so it is not NOTICE_ENABLE. -/
theorem inside_ne_noticeEnable {m : Mirror} {c : Nat × Word} (h : mirrorOpen m < c.1 ∧ c.1 < mirrorClose m) :
    c.1 ≠ addrNoticeEnable := by
  have : addrNoticeEnable < mirrorOpen m := by cases m <;> decide
  omega

theorem kept_writeNext (m : Mirror) (s : State) : Kept s (writeNext m s) := by
  cases hw : (s.port.refresh m).writing with
  | none => rw [writeNext_idle hw]; exact .refl s
  | some copy =>
    cases copy with
    | nil => rw [writeNext_done hw]; exact .refl s
    | cons c copy =>
      rw [writeNext_word hw]
      have hall (h : LineJudged s) : ∀ d ∈ c :: copy, mirrorOpen m < d.1 ∧ d.1 < mirrorClose m := by
        obtain ⟨⟨hs, hl, hc, _⟩, _⟩ := h
        exact copyInside_refresh ⟨hs, hl, hc⟩ m (c :: copy) hw
      refine kept_refresh s (Memory.wf_write _ _) (fun h => ?_) (fun h => ?_)
      · exact copyInside_of_writing rfl fun d hd => hall h d (List.mem_cons_of_mem _ hd)
      · exact Memory.read_write_other _ _ (inside_ne_noticeEnable (hall h c (List.mem_cons_self ..))).symm

theorem kept_endRefresh (m : Mirror) (s : State) : Kept s (endRefresh m s) := by
  unfold endRefresh
  cases hw : (s.port.refresh m).writing with
  | none => exact .refl s
  | some copy =>
    have hended : Kept s { s with
        port := s.port.setRefresh m ⟨none, false⟩
        mem := (s.mem.writeAll copy).write (mirrorClose m) (s.word (mirrorOpen m)) } := by
      refine kept_refresh s (fun h => Memory.wf_write _ _ (Memory.wf_writeAll _ h)) (fun _ => copyInside_none _ _ _)
        (fun ⟨⟨hs, hl, hc, _⟩, _⟩ => ?_)
      rw [Memory.read_write_other _ _ (mirrorClose_ne_noticeEnable m).symm]
      exact Memory.read_writeAll_outside _ fun c hcell =>
        inside_ne_noticeEnable (copyInside_refresh ⟨hs, hl, hc⟩ m copy hw c hcell)
    dsimp only
    split
    · exact hended.trans (kept_startRefresh _ _)
    · exact hended

/-! ### Events -/

theorem kept_startMirrors (window : Bool) (a b : State) : Kept b (startMirrors window a b) := by
  have hone (p : Prop) [Decidable p] (m : Mirror) {t : State} (h : Kept b t) :
      Kept b (if p then startRefresh m t else t) := by
    split
    · exact h.trans (kept_startRefresh _ _)
    · exact h
  unfold startMirrors
  dsimp only
  split
  · exact hone _ _ (hone _ _ (.refl b))
  · exact (hone _ _ (hone _ _ (.refl b))).trans (kept_startRefresh _ _)

/-- Every command of the running part that a reset leaves without effect. -/
theorem kept_whenRunning {s : State} {f : State → State} (h : ∀ a, a.resetting = none → Kept a (f a)) :
    Kept s (s.whenRunning f) := by
  unfold State.whenRunning
  split
  · exact h s ‹_›
  · exact .refl s

theorem kept_noting {s : State} {f : State → State} (h : ∀ a, Kept a (f a)) : Kept s (s.noting f) :=
  ((kept_unread s _ _ _ _ _ Causes.none).trans (h _)).trans (kept_unread _ _ _ _ _ _ s.causes)

theorem kept_event {s : State} {f : State → State} (h : ∀ a, Kept a (f a)) : Kept s (s.event f) :=
  kept_whenRunning fun _ _ => kept_noting fun b => (h b).trans (kept_startMirrors _ _ _)

end Sys2Proof.Proofs
end

section
/-! SUPPORT. The operations of the Blade Controller, the Loop Table and the Plan Engine keep the laws. -/

namespace Sys2Proof.Proofs

open Sys2Proof.Machine Sys2Proof.Safety

/-! ### The blade (R120..R123, R130) -/

/-- A CUT directive is in force only while ARMED (R120). -/
theorem armed_of_cut {s : State} (h : s.effectiveDirective = .cut) : s.guard.machine = .armed := by
  by_contra hm
  rw [effectiveDirective_off (.inr hm)] at h
  cases h

theorem kept_setBlade {b : Blade} {s : State} (h : BladeLaw s → BladeLaw { s with blade := b }) :
    Kept s (setBlade b s) := (kept_blade s h).trans (kept_writeBladeRecord _)

/-- A blade that is not driven and has no duty meets its law whatever else holds. -/
theorem bladeLaw_of_undriven {s : State} (hs : ¬ Driven s.blade.state) (hd : s.blade.duty = 0) : BladeLaw s :=
  ⟨fun h => absurd hd (Nat.ne_of_gt h), fun h => absurd h hs⟩

theorem kept_enterBraking (s : State) : Kept s (enterBraking s) :=
  kept_setBlade fun _ => bladeLaw_of_undriven (by simp [Driven]) rfl

theorem kept_enterOff (s : State) : Kept s (enterOff s) :=
  kept_setBlade fun _ => bladeLaw_of_undriven (by simp [Driven]) rfl

theorem kept_enterSpinup {s : State} (h : s.guard.machine = .armed) : Kept s (enterSpinup s) :=
  kept_setBlade fun _ => ⟨fun hd => absurd hd (Nat.lt_irrefl 0), fun _ => ⟨h, rfl⟩⟩

theorem kept_markUncut (s : State) : Kept s (markUncut s) :=
  kept_plan s rfl fun _ ⟨hstate, hactive⟩ => ⟨hstate, by simp [hactive]⟩

theorem kept_reportUncut (s : State) : Kept s (reportUncut s) := by
  unfold reportUncut
  split
  · exact kept_markUncut s
  · exact .refl s

theorem kept_actOnDirective {s : State} (h : s.blade.effective = .cut → s.guard.machine = .armed) :
    Kept s (actOnDirective s) := by
  unfold actOnDirective
  split
  · exact kept_enterSpinup (h ‹_›)
  · exact kept_enterBraking s
  · exact kept_enterBraking s
  · exact .refl s

theorem kept_judgeBlade (s : State) : Kept s (judgeBlade s) :=
  ((kept_blade s (b := { s.blade with effective := s.effectiveDirective }) id).trans
    (kept_actOnDirective armed_of_cut)).trans (kept_reportUncut _)

theorem kept_handStanding (d : Directive) (s : State) : Kept s (handStanding d s) :=
  (kept_plan s (p := { s.plan with standing := d }) rfl fun _ => id).trans (kept_judgeBlade _)

/-- A judgement of OFF leaves the blade undriven, so its law holds whatever the machine state. -/
theorem bladeLaw_judgeBlade_off {s : State} (he : s.effectiveDirective = .off)
    (hd : 0 < s.blade.duty → Driven s.blade.state) : BladeLaw (judgeBlade s) := by
  by_cases hs : Driven s.blade.state
  · obtain ⟨hstate, hduty, -⟩ := judgeBlade_of_driven he hs
    exact bladeLaw_of_undriven (by simp [Driven, hstate]) hduty
  · have hblade := judgeBlade_of_not_driven he hs
    refine bladeLaw_of_undriven (by rwa [hblade]) ?_
    rw [hblade]
    exact Nat.eq_zero_of_not_pos fun hpos => hs (hd hpos)

/-- A machine state other than ARMED is put in force; TRIPPED is not left so. -/
theorem calm_setMachine {dest : MachineState} {s : State} (hd : dest ≠ .armed) (hs : s.guard.machine ≠ .tripped) :
    Calm s (setMachine dest s) where
  resetting := by simp
  pins := by simp
  lift := by simp
  unarmed _ := by simpa using hd
  gov := by simp
  targets i := by simp
  memory h := (kept_judgeBlade _).memory (Memory.wf_write _ _ h)
  lost h := by unfold LostLaw at h ⊢; simpa using h
  blade h := bladeLaw_judgeBlade_off (effectiveDirective_off (.inr hd)) h.1
  contact h := by unfold ContactLaw at h ⊢; simpa using h
  settings h := by unfold SettingsLaw at h ⊢; simpa using h
  line h := (kept_judgeBlade _).line ((kept_cell s _ (by decide)).line h)
  trip h := absurd h hs

/-- Outside ARMED a change of the machine state leaves the plan and the targets as they must be; TRIPPED is not left so. -/
theorem kept_setMachine {dest : MachineState} {s : State} (hd : dest ≠ .armed) (ha : s.guard.machine ≠ .armed)
    (hs : s.guard.machine ≠ .tripped) : Kept s (setMachine dest s) := by
  have hcalm : Calm s (setMachine dest s) := calm_setMachine hd hs
  refine { toCalm := hcalm, plan := fun hp _ => ?_, rest := hcalm.rest fun _ => ha }
  rw [setMachine_plan hd]
  exact hp ha

/-! ### Loop states, class and station-near flag (R31, R32, R34, R37) -/

/-- A Loop Table with the sub-records it had. -/
theorem kept_loops_of_coils (s : State) {l : LoopTable}
    (h : ∀ n, (l.recs.get n).coils = (s.loops.recs.get n).coils) : Kept s { s with loops := l } :=
  kept_loops s fun hlost n c => by
    show LostSubRecord ((l.recs.get n).coils.get c)
    rw [h n]
    exact hlost n c

theorem kept_noteLoops (s : State) : Kept s (noteLoops s) := kept_unread s _ _ _ _ _ _

theorem kept_noteContacts (s : State) : Kept s (noteContacts s) := kept_unread s _ _ _ _ _ _

theorem kept_followNoSignal (before after : LoopState) (s : State) : Kept s (followNoSignal before after s) := by
  unfold followNoSignal
  split
  · split
    · exact .refl s
    · exact kept_guard s rfl
  · exact kept_guard s rfl

theorem kept_recomputeLoop (n : Loop) (s : State) : Kept s (recomputeLoop n s) := by
  have hset (st : LoopState) : Kept s { s with loops := { s.loops with
      recs := s.loops.recs.set n { s.loops.recs.get n with state := st } } } :=
    kept_loops_of_coils s fun m => by
      by_cases h : m = n
      · subst h; simp
      · simp [Four.get_set_other _ _ h]
  unfold recomputeLoop
  dsimp only
  generalize (if entryUnused _ = true then LoopState.unused else _) = st
  split
  · exact .refl s
  · have hposted := (kept_post (.loopState n) _).after ((kept_noteLoops _).after (hset st))
    split
    · exact hposted.trans (kept_followNoSignal _ _ _)
    · exact hposted

theorem kept_recomputeLoops (s : State) : Kept s (recomputeLoops s) :=
  (((kept_recomputeLoop 0 s).trans (kept_recomputeLoop 1 _)).trans (kept_recomputeLoop 2 _)).trans
    (kept_recomputeLoop 3 _)

theorem kept_guardOnClass (s : State) : Kept s (guardOnClass s) := by
  have hescape : Kept s (if s.loops.posClass = .outsideAll then s
      else { s with guard := { s.guard with escape := 0 } }) := by
    split
    · exact .refl s
    · exact kept_guard s rfl
  unfold guardOnClass
  dsimp only
  generalize (if s.loops.posClass = .outsideAll then s else _) = escaped at hescape ⊢
  split
  · exact (kept_judgeBlade _).after ((kept_post _ _).after (hescape.trans (kept_guard _ rfl)))
  · exact hescape

theorem kept_bladeOnClass (s : State) : Kept s (bladeOnClass s) := by
  unfold bladeOnClass
  split
  · exact kept_judgeBlade s
  · exact .refl s

theorem kept_recomputeClass (s : State) : Kept s (recomputeClass s) := by
  unfold recomputeClass
  dsimp only
  split
  · exact .refl s
  · exact (kept_guardOnClass _).after ((kept_bladeOnClass _).after ((kept_post _ _).after ((kept_noteLoops _).after
      (kept_loops_of_coils s fun _ => rfl))))

theorem kept_judgeNear (s : State) : Kept s (judgeNear s) := by
  unfold judgeNear
  dsimp only
  split
  · exact .refl s
  · exact (kept_noteLoops _).after (kept_loops_of_coils s fun _ => rfl)

theorem lostSub_lawful : LostSubRecord lostSub := fun _ => ⟨rfl, rfl, rfl⟩

/-- Three sub-records with the LOST values. -/
theorem lostSubs_lawful (c : Coil) : LostSubRecord ((⟨lostSub, lostSub, lostSub⟩ : Three SubRecord).get c) := by
  cases c <;> exact lostSub_lawful

theorem kept_clearChanged (before : Four Nat) (s : State) : Kept s (clearChanged before s) :=
  kept_loops s fun h n c => by
    simp only [Four.get_mapIdx]
    split
    · exact h n c
    · exact lostSubs_lawful c

theorem kept_loopsOnApply (before : Four Nat) (s : State) : Kept s (loopsOnApply before s) := by
  have hloops := (kept_clearChanged before s).trans (kept_recomputeLoops _)
  unfold loopsOnApply
  dsimp only
  split
  · exact hloops.trans (kept_judgeNear _)
  · exact (hloops.trans (kept_recomputeClass _)).trans (kept_judgeNear _)

/-! ### Staged settings (R64, R65, R204) -/

theorem clampN_bounds {lo hi : Nat} (h : lo ≤ hi) (x : Nat) : lo ≤ clampN lo hi x ∧ clampN lo hi x ≤ hi := by
  unfold clampN
  split
  · omega
  · split <;> omega

theorem valuesFrom_length (s : State) (a n : Nat) : (s.valuesFrom a n).length = n := by
  induction n generalizing a with
  | zero => rfl
  | succ n ih => simp [State.valuesFrom, ih]

/-- The value an apply puts in force at an offset, before the cross-field clamps. -/
theorem clampSettingsFrom_getD (off : Nat) (rs : List (Nat × Nat)) (vs : List Nat) (h : vs.length = rs.length) (k : Nat)
    (hk : k < rs.length) :
    (clampSettingsFrom off rs vs).getD k 0 = clampSetting (off + k) (rs.getD k (0, 0)) (vs.getD k 0) := by
  induction rs generalizing off vs k with
  | nil => cases hk
  | cons r rs ih =>
    cases vs with
    | nil => cases h
    | cons v vs =>
      cases k with
      | zero => rfl
      | succ k =>
        have := ih (off + 1) vs (by simpa using h) k (by simpa using hk)
        simpa [clampSettingsFrom, Nat.add_comm, Nat.add_left_comm] using this

theorem clampSettingsFrom_length (off : Nat) (rs : List (Nat × Nat)) (vs : List Nat) (h : vs.length = rs.length) :
    (clampSettingsFrom off rs vs).length = rs.length := by
  induction rs generalizing off vs with
  | nil => cases vs <;> rfl
  | cons r rs ih =>
    cases vs with
    | nil => cases h
    | cons v vs => simpa [clampSettingsFrom] using ih (off + 1) vs (by simpa using h)

theorem replaceAt_getD_same (n v : Nat) (xs : List Nat) (h : n < xs.length) : (replaceAt n v xs).getD n 0 = v := by
  induction xs generalizing n with
  | nil => cases h
  | cons x xs ih =>
    cases n with
    | zero => rfl
    | succ n => simpa [replaceAt] using ih n (by simpa using h)

theorem replaceAt_getD_other (n v : Nat) (xs : List Nat) {k : Nat} (h : k ≠ n) :
    (replaceAt n v xs).getD k 0 = xs.getD k 0 := by
  induction xs generalizing n k with
  | nil => cases n <;> rfl
  | cons x xs ih =>
    cases n with
    | zero =>
      cases k with
      | zero => exact absurd rfl h
      | succ k => rfl
    | succ n =>
      cases k with
      | zero => rfl
      | succ k => simpa [replaceAt] using ih n (k := k) (by omega)

theorem replaceAt_length (n v : Nat) (xs : List Nat) : (replaceAt n v xs).length = xs.length := by
  induction xs generalizing n with
  | nil => cases n <;> rfl
  | cons x xs ih => cases n <;> simp [replaceAt, ih]

theorem raiseAt_getD_same (n low : Nat) (xs : List Nat) (h : n < xs.length) :
    (raiseAt n low xs).getD n 0 = max low (xs.getD n 0) := by
  unfold raiseAt
  split
  · rw [replaceAt_getD_same _ _ _ h]; omega
  · omega

theorem raiseAt_getD_other (n low : Nat) (xs : List Nat) {k : Nat} (h : k ≠ n) :
    (raiseAt n low xs).getD k 0 = xs.getD k 0 := by
  unfold raiseAt
  split
  · exact replaceAt_getD_other _ _ _ h
  · rfl

theorem raiseAt_length (n low : Nat) (xs : List Nat) : (raiseAt n low xs).length = xs.length := by
  unfold raiseAt
  split
  · exact replaceAt_length _ _ _
  · rfl

/-- A setting that no cross-field clamp raises. -/
theorem clampSettings_getD {vs : List Nat} (h : vs.length = 34) {k : Nat} (hk : k < 34) (hhard : k ≠ 28) (htrip : k ≠ 30) :
    (clampSettings vs).getD k 0 = clampSetting k (settingRanges.getD k (0, 0)) (vs.getD k 0) := by
  unfold clampSettings crossClamp offSlopeTrip offSlopeHard
  dsimp only
  rw [raiseAt_getD_other _ _ _ htrip, raiseAt_getD_other _ _ _ hhard]
  simpa using clampSettingsFrom_getD 0 settingRanges vs h k hk

/-- SLOPE_HARD after the cross-field clamp. -/
theorem clampSettings_slopeHard {vs : List Nat} (h : vs.length = 34) :
    (clampSettings vs).getD 28 0 = max ((clampSettings vs).getD 27 0 + 1) (clampN 6 40 (vs.getD 28 0)) := by
  have hlength := clampSettingsFrom_length 0 settingRanges vs h
  have h27 := clampSettings_getD h (k := 27) (by decide) (by decide) (by decide)
  have h27' := clampSettingsFrom_getD 0 settingRanges vs h 27 (by decide)
  have h28 := clampSettingsFrom_getD 0 settingRanges vs h 28 (by decide)
  simp only [Nat.zero_add] at h27' h28
  rw [h27, ← h27']
  unfold clampSettings crossClamp offSlopeHard offSlopeSoft offSlopeTrip
  dsimp only
  rw [raiseAt_getD_other _ _ _ (by decide), raiseAt_getD_same _ _ _ (by rw [hlength]; decide), h28]
  rfl

/-- SLOPE_TRIP after the cross-field clamp. -/
theorem clampSettings_slopeTrip {vs : List Nat} (h : vs.length = 34) :
    (clampSettings vs).getD 30 0 = max ((clampSettings vs).getD 28 0) (clampN 10 45 (vs.getD 30 0)) := by
  have hlength := clampSettingsFrom_length 0 settingRanges vs h
  have h30 := clampSettingsFrom_getD 0 settingRanges vs h 30 (by decide)
  simp only [Nat.zero_add] at h30
  unfold clampSettings crossClamp offSlopeHard offSlopeSoft offSlopeTrip
  dsimp only
  rw [raiseAt_getD_other 30 _ _ (k := 28) (by decide), raiseAt_getD_same _ _ _ (by rw [raiseAt_length, hlength]; decide),
    raiseAt_getD_other 28 _ _ (k := 30) (by decide), h30]
  rfl

/-- A setting with a range of its own is put in force within that range. -/
theorem clampSettings_bounds {vs : List Nat} (h : vs.length = 34) {k : Nat} (hk : k < 34) (hblank : k ≠ 4)
    (hhard : k ≠ 28) (htrip : k ≠ 30) :
    (settingRanges.getD k (0, 0)).1 ≤ (clampSettings vs).getD k 0 ∧
      (clampSettings vs).getD k 0 ≤ (settingRanges.getD k (0, 0)).2 := by
  rw [clampSettings_getD h hk hhard htrip, clampSetting, if_neg (show k ≠ offBlank from hblank)]
  refine clampN_bounds ?_ _
  interval_cases k <;> decide

/-- What an apply puts in force is in range (R64, R65). -/
theorem settingsLaw_clampSettings {s : State} {vs : List Nat} (h : vs.length = 34)
    (hs : s.plan.applied = Settings.ofList (clampSettings vs)) : SettingsLaw s := by
  have b (k : Nat) (hk : k < 34) (h4 : k ≠ 4) (h28 : k ≠ 28) (h30 : k ≠ 30) := clampSettings_bounds h hk h4 h28 h30
  have hblank : (clampSettings vs).getD 4 0 = permittedBlank (vs.getD 4 0) :=
    clampSettings_getD h (by decide) (by decide) (by decide)
  have hsoft := b 27 (by decide) (by decide) (by decide) (by decide)
  have hhard := clampSettings_slopeHard h
  have htrip := clampSettings_slopeTrip h
  have hhardClamp := clampN_bounds (lo := 6) (hi := 40) (by decide) (vs.getD 28 0)
  have htripClamp := clampN_bounds (lo := 10) (hi := 45) (by decide) (vs.getD 30 0)
  simp only [settingRanges, List.getD_cons_succ, List.getD_cons_zero] at hsoft
  unfold SettingsLaw
  rw [hs]
  refine ⟨fun n => ?map, ?blank, (b 5 ?_ ?_ ?_ ?_).2, b 6 ?_ ?_ ?_ ?_, (b 7 ?_ ?_ ?_ ?_).2, (b 8 ?_ ?_ ?_ ?_).2,
    (b 9 ?_ ?_ ?_ ?_).2, (b 10 ?_ ?_ ?_ ?_).2, b 11 ?_ ?_ ?_ ?_, b 12 ?_ ?_ ?_ ?_, (b 13 ?_ ?_ ?_ ?_).2,
    (b 14 ?_ ?_ ?_ ?_).2, b 15 ?_ ?_ ?_ ?_, b 16 ?_ ?_ ?_ ?_, b 17 ?_ ?_ ?_ ?_, b 18 ?_ ?_ ?_ ?_, b 19 ?_ ?_ ?_ ?_,
    b 20 ?_ ?_ ?_ ?_, b 21 ?_ ?_ ?_ ?_, b 22 ?_ ?_ ?_ ?_, b 23 ?_ ?_ ?_ ?_, b 24 ?_ ?_ ?_ ?_, b 25 ?_ ?_ ?_ ?_,
    b 26 ?_ ?_ ?_ ?_, hsoft, ?hard, b 29 ?_ ?_ ?_ ?_, ?trip, b 31 ?_ ?_ ?_ ?_, (b 32 ?_ ?_ ?_ ?_).2, b 33 ?_ ?_ ?_ ?_⟩
  case map =>
    rcases n.cases_four with hn | hn | hn | hn <;> subst hn
    · exact (b 0 (by decide) (by decide) (by decide) (by decide)).2
    · exact (b 1 (by decide) (by decide) (by decide) (by decide)).2
    · exact (b 2 (by decide) (by decide) (by decide) (by decide)).2
    · exact (b 3 (by decide) (by decide) (by decide) (by decide)).2
  case blank =>
    have hpermitted (v : Nat) :
        permittedBlank v = 0 ∨ permittedBlank v = 4 ∨ permittedBlank v = 8 ∨ permittedBlank v = 16 := by
      unfold permittedBlank
      split
      · simp
      · split
        · simp
        · split <;> simp
    have := hpermitted (vs.getD 4 0)
    rwa [← hblank] at this
  case hard =>
    show (clampSettings vs).getD 27 0 + 1 ≤ (clampSettings vs).getD 28 0 ∧ (clampSettings vs).getD 28 0 ≤ 40
    omega
  case trip =>
    show 10 ≤ (clampSettings vs).getD 30 0 ∧ (clampSettings vs).getD 28 0 ≤ (clampSettings vs).getD 30 0 ∧
      (clampSettings vs).getD 30 0 ≤ 45
    omega
  all_goals decide

theorem kept_applySettings (s : State) : Kept s (applySettings s) := by
  have hcells : ∀ c ∈ cellsFrom addrApplied ((clampSettings s.stagedValues).map wordN) ++
      [(addrAppliedGenMirror, s.stageGen), (addrAppliedGen, s.stageGen)], c.1 ≠ addrNoticeEnable := fun c hc => by
    rcases List.mem_append.1 hc with hc | hc
    · have := (cellsFrom_bounds hc).1
      simp only [addrApplied, addrNoticeEnable] at this ⊢
      omega
    · rcases List.mem_cons.1 hc with rfl | hc
      · simp [addrAppliedGenMirror, addrNoticeEnable]
      · rw [List.mem_singleton.1 hc]
        simp [addrAppliedGen, addrNoticeEnable]
  have hplan : Kept s { s with plan := { s.plan with
      applied := Settings.ofList (clampSettings s.stagedValues), appliedGen := s.stageGen } } :=
    (calm_plan s fun _ => settingsLaw_clampSettings (valuesFrom_length _ _ _) rfl).kept rfl fun _ => id
  exact (kept_post _ _).after ((kept_loopsOnApply _ _).after ((kept_cells _ hcells).after hplan))

theorem kept_applyIfStaged (s : State) : Kept s (applyIfStaged s) := by
  unfold applyIfStaged
  split
  · exact .refl s
  · exact kept_applySettings s

end Sys2Proof.Proofs
end

section
/-! SUPPORT. The operations of the Plan Engine and the publications of the Loop Table keep the laws. -/

namespace Sys2Proof.Proofs

open Sys2Proof.Machine Sys2Proof.Safety

theorem Calm.after {s t u : State} (k : Calm t u) (h : Calm s t) : Calm s u := h.trans k

/-! ### The plan's own states (R45, R53, R63) -/

theorem kept_startHold (s : State) : Kept s (startHold s) := by
  unfold startHold
  split
  · exact .refl s
  · split
    · exact kept_handStanding _ _
    · exact kept_plan s rfl fun _ => id

theorem kept_becomeIdle (s : State) : Kept s (becomeIdle s) :=
  (kept_handStanding _ _).after (kept_plan s rfl fun _ _ => ⟨rfl, rfl⟩)

/-- WAITING_NEXT is entered only while ARMED. -/
theorem kept_enterWaiting (h : Slot) {s : State} (ha : s.guard.machine = .armed) : Kept s (enterWaiting h s) :=
  (kept_post _ _).after ((kept_startHold _).after (kept_plan s rfl fun hm => absurd ha hm))

/-! ### The end of a segment (R51..R55) -/

theorem kept_endDock (cause : EndCause) (s : State) : Kept s (endDock cause s) := by
  unfold endDock
  split
  · exact .refl s
  · exact (kept_writeDockRecord _).after (kept_unread s _ _ _ _ _ _)

theorem kept_reportDocked (cause : EndCause) (s : State) : Kept s (reportDocked cause s) := by
  unfold reportDocked
  split
  · exact kept_post _ _
  · exact .refl s

/-- Cells of the slots lie above the records. -/
theorem kept_slotCells (s : State) {cells : List (Nat × Word)} (h : ∀ c ∈ cells, 0x400 ≤ c.1) :
    Kept s { s with mem := s.mem.writeAll cells } :=
  kept_cells s (outside_noticeEnable fun c hc => by have := h c hc; omega)

/-- The words of a slot, the plan, the drive and Track Steering, as a segment's start and its end change them together. -/
theorem kept_segment (s : State) {cells : List (Nat × Word)} {p : Plan} {d : Drive} {track : Track}
    (hc : ∀ c ∈ cells, 0x400 ≤ c.1) (h : (p.applied, d.wheels) = (s.plan.applied, s.drive.wheels))
    (hp : s.guard.machine ≠ .armed → s.plan.state = .idle ∧ s.plan.active = none → p.state = .idle ∧ p.active = none) :
    Kept s { s with mem := s.mem.writeAll cells, plan := p, drive := d, track := track } :=
  (((kept_slotCells s hc).trans (kept_plan _ (p := p) (congrArg Prod.fst h) hp)).trans
    (kept_drive _ (d := d) fun _ => .inl (by rw [(Prod.mk.inj h).2]))).trans (kept_unread _ _ _ _ track _ _)

theorem kept_closeSegment (seg : Segment) (cause : EndCause) (s : State) : Kept s (closeSegment seg cause s) :=
  (kept_reportDocked _ _).after ((kept_endDock _ _).after
    (kept_segment s (fun _ => resultCells_slot) rfl fun _ ⟨hstate, _⟩ => ⟨hstate, rfl⟩))

theorem kept_postEnd (seg : Segment) (cause : EndCause) (s : State) : Kept s (postEnd seg cause s) := by
  unfold postEnd
  split
  · exact .refl s
  · split <;> exact kept_post _ _

/-- The plan may become HELD here, so only the end as a whole keeps its law. -/
theorem calm_continuePlan (seg : Segment) (cause : EndCause) (s : State) : Calm s (continuePlan seg cause s).1 := by
  unfold continuePlan
  split
  · split
    · exact .refl s
    · exact ((kept_post _ _).after (kept_becomeIdle s)).toCalm
  · exact ((kept_post _ _).after (kept_startHold _)).toCalm.after (calm_plan s id)
  · exact (kept_becomeIdle s).toCalm
  · exact .refl s

theorem kept_settleEnd (cause : EndCause) (s : State) : Kept s (settleEnd cause s).1 := by
  cases hactive : s.plan.active with
  | none =>
    rw [show settleEnd cause s = (s, none) by simp [settleEnd, hactive]]
    exact .refl s
  | some seg =>
    have hcalm : Calm s (settleEnd cause s).1 := by
      rw [show settleEnd cause s = continuePlan seg cause (postEnd seg cause (closeSegment seg cause s)) by
        simp [settleEnd, hactive]]
      exact (calm_continuePlan _ _ _).after ((kept_postEnd _ _ _).after (kept_closeSegment _ _ _)).toCalm
    refine hcalm.kept (by simp) fun _ ⟨_, hidle⟩ => ?_
    rw [hactive] at hidle
    cases hidle

/-! ### Activation (R45..R50) -/

theorem kept_startWatch (s : State) : Kept s (startWatch s) := by
  unfold startWatch
  split
  · exact .refl s
  · exact kept_plan s rfl fun _ => id

theorem slot_ge (n : Slot) (k : Nat) : 0x400 ≤ slotBase n + k := (slotBase_ge n).trans (Nat.le_add_right ..)

theorem slot_ne_noticeEnable (n : Slot) (k : Nat) : slotBase n + k ≠ addrNoticeEnable := by
  have := slotBase_ge n
  simp only [addrNoticeEnable]
  omega

theorem kept_clampActive (s : State) : Kept s (clampActive s) := by
  unfold clampActive
  cases hactive : s.plan.active with
  | none => exact .refl s
  | some seg =>
    have hplan : Kept s { s with plan := { s.plan with
        active := some { seg with fields := clampFields seg.fields, clamped := decide (clampFields seg.fields ≠ seg.fields) } } } :=
      kept_plan s rfl fun _ ⟨_, hidle⟩ => by rw [hactive] at hidle; cases hidle
    exact hplan.trans (kept_cell _ _ (slot_ne_noticeEnable _ _))

theorem activationCells_slot {h : Slot} {now : Time} {c : Nat × Word} (hc : c ∈ activationCells h now) : 0x400 ≤ c.1 := by
  rcases List.mem_append.1 hc with hc | hc
  · exact (slot_ge h 20).trans (cellsFrom_bounds hc).1
  · rw [List.mem_singleton.1 hc]
    exact slotBase_ge h

theorem kept_captureSlot (h : Slot) {s : State} (ha : s.guard.machine = .armed) : Kept s (captureSlot h s) :=
  kept_segment s (fun _ => activationCells_slot) rfl fun hm => absurd ha hm

theorem kept_beginTrack (act : BitVec 16) (f : Fields) (s : State) : Kept s (beginTrack act f s) :=
  kept_unread s _ _ _ _ _ _

theorem kept_enterNear (s : State) : Kept s (enterNear s) :=
  (kept_post _ _).after ((kept_writeDockRecord _).after (kept_unread s _ _ _ _ _ _))

theorem kept_beginDock (act : BitVec 16) (s : State) : Kept s (beginDock act s) := by
  unfold beginDock
  dsimp only
  split
  · exact kept_unread s _ _ _ _ _ _
  · split
    · exact (kept_enterNear _).after (kept_unread s _ _ _ _ _ _)
    · exact (kept_writeDockRecord _).after (kept_unread s _ _ _ _ _ _)

theorem kept_beginUndock (act : BitVec 16) (s : State) : Kept s (beginUndock act s) :=
  (kept_writeDockRecord _).after (kept_unread s _ _ _ _ _ _)

theorem kept_beginKind (seg : Segment) (s : State) : Kept s (beginKind seg s) := by
  unfold beginKind
  split
  · exact kept_beginTrack _ _ _
  · exact (kept_beginDock _ _).after (kept_beginTrack _ _ _)
  · exact kept_beginUndock _ _
  all_goals exact .refl s

theorem kept_handOn (s : State) : Kept s (handOn s).1 := by
  have hclamped := kept_clampActive s
  unfold handOn
  dsimp only
  split
  · exact hclamped
  · have hstarted (seg : Segment) := (kept_startWatch _).after ((kept_handStanding
        (directiveAfter (clampActive s).plan.standing seg.fields.blade) _).after ((kept_beginKind seg _).after hclamped))
    split
    · exact (kept_settleEnd _ _).after (hstarted _)
    · exact hstarted _

theorem kept_checkCaptured (s : State) : Kept s (checkCaptured s).1 := by
  unfold checkCaptured
  split
  · exact .refl s
  · split
    · exact kept_settleEnd _ _
    · split
      · exact kept_settleEnd _ _
      · exact kept_handOn s

theorem kept_activateOne (h : Slot) (s : State) : Kept s (activateOne h s).1 := by
  unfold activateOne
  split
  · exact kept_becomeIdle s
  · have ha : s.guard.machine = .armed := by simpa [State.armed] using ‹¬ (!s.armed) = true›
    split
    · exact kept_enterWaiting h ha
    · exact (kept_checkCaptured _).after ((kept_captureSlot h (by simpa using ha)).after (kept_applyIfStaged s))

theorem kept_activateChain (n : Nat) (h : Slot) (s : State) : Kept s (activateChain n h s) := by
  induction n generalizing h s with
  | zero => exact .refl s
  | succ n ih =>
    have hone := kept_activateOne h s
    rw [activateChain]
    split
    · simpa [‹activateOne h s = _›] using hone
    · exact (ih _ _).after (by simpa [‹activateOne h s = _›] using hone)

theorem kept_activate (h : Slot) (s : State) : Kept s (activate h s) := kept_activateChain 49 h s

theorem kept_goOn {s : State} {r : State × Option Slot} (h : Kept s r.1) : Kept s (goOn r) := by
  unfold goOn
  split
  · exact h
  · exact (kept_activate _ _).after h

theorem kept_endActive (cause : EndCause) (s : State) : Kept s (endActive cause s) := kept_goOn (kept_settleEnd cause s)

theorem kept_endSegment (act : BitVec 16) (cause : EndCause) (s : State) : Kept s (endSegment act cause s) := by
  unfold endSegment
  split
  · exact .refl s
  · split
    · exact kept_endActive _ _
    · exact .refl s

theorem kept_resumeKind (f : Fields) (s : State) : Kept s (resumeKind f s) := by
  unfold resumeKind
  split
  · exact kept_drive s fun _ => .inl rfl
  · exact kept_unread s _ _ _ _ _ _
  · split
    · exact kept_enterNear s
    · exact .refl s
  all_goals exact .refl s

theorem kept_resumeSegment (s : State) : Kept s (resumeSegment s) := by
  unfold resumeSegment
  split
  · exact .refl s
  · rename_i seg _
    have hresumed : Kept s (resumeKind seg.fields { s with drive := { s.drive with suspended := false } }) :=
      (kept_resumeKind _ _).after (kept_drive s fun _ => .inl rfl)
    dsimp only
    split
    · exact (kept_endActive _ _).after hresumed
    · exact (kept_startWatch _).after hresumed

/-! ### Publications of the Loop Table (R28, R34, R82, R83, R175) -/

theorem kept_testWatch (s : State) : Kept s (testWatch s) := by
  unfold testWatch
  split
  · split
    · exact kept_endSegment _ _ _
    · exact .refl s
  · exact .refl s

theorem kept_testBoundary (s : State) : Kept s (testBoundary s) := by
  unfold testBoundary
  split
  · exact .refl s
  · split
    · exact kept_endSegment _ _ _
    · exact .refl s

theorem kept_publishClass (s : State) : Kept s (publishClass s) := by
  unfold publishClass
  split
  · exact .refl s
  · exact (kept_testBoundary _).after (kept_recomputeClass s)

theorem kept_dockOnNear (s : State) : Kept s (dockOnNear s) := by
  unfold dockOnNear
  split
  · split
    · exact kept_enterNear s
    · exact .refl s
  · exact .refl s

theorem kept_publishNear (s : State) : Kept s (publishNear s) := by
  unfold publishNear
  dsimp only
  split
  · exact kept_judgeNear s
  · exact (kept_testWatch _).after ((kept_dockOnNear _).after (kept_judgeNear s))

/-! ### Frame reports and presence windows (R26..R31, R35) -/

/-- The side agreement of a sub-record does not make it LOST. -/
theorem agreeWith_state (r : SubRecord) (p : Polarity) : (r.agreeWith p).state = r.state := by
  unfold SubRecord.agreeWith
  split <;> rfl

/-- A report revives a LOST sub-record. -/
theorem report_ne_lost (r : SubRecord) (f : FrameReport) (now : Time) : (r.report f now).state ≠ .lost := by
  unfold SubRecord.report
  rw [agreeWith_state]
  dsimp only
  split
  · decide
  · assumption

theorem kept_setCoil (n : Loop) (i : Coil) (r : SubRecord) (s : State) (hr : LostSubRecord r) :
    Kept s (setCoils n ((s.loops.recs.get n).coils.set i r) s) :=
  kept_loops s fun h m c => by
    by_cases hm : m = n
    · subst hm
      simp only [Four.get_set_same]
      by_cases hc : c = i
      · subst hc
        rwa [Three.get_set_same]
      · rw [Three.get_set_other _ _ hc]
        exact h m c
    · simp only [Four.get_set_other _ _ hm]
      exact h m c

theorem kept_frameReport (f : FrameReport) (s : State) : Kept s (frameReport f s) := by
  have hclass : Kept s (publishClass (testWatch (recomputeLoop f.loop
      (setCoils f.loop ((s.loops.recs.get f.loop).coils.set f.coil
        (((s.loops.recs.get f.loop).coils.get f.coil).report f s.partTime)) s)))) :=
    (kept_publishClass _).after ((kept_testWatch _).after ((kept_recomputeLoop _ _).after
      (kept_setCoil _ _ _ s fun h => absurd h (report_ne_lost _ _ _))))
  unfold frameReport
  split
  · exact .refl s
  · dsimp only
    split
    · exact (kept_publishNear _).after hclass
    · exact hclass

/-- Sub-records that are each lawful where the one before was. -/
theorem kept_subRecords (s : State) {l : LoopTable}
    (h : ∀ n c, LostSubRecord ((s.loops.recs.get n).coils.get c) → LostSubRecord ((l.recs.get n).coils.get c)) :
    Kept s { s with loops := l } := kept_loops s fun hlost n c => h n c (hlost n c)

theorem judged_lawful (r : SubRecord) (parked : Bool) : LostSubRecord r → LostSubRecord (r.judged parked) := by
  intro h
  unfold SubRecord.judged
  dsimp only
  generalize (if parked = true then _ else _) = st
  split
  · split
    · exact h
    · exact fun _ => ⟨rfl, rfl, rfl⟩
  · exact fun hl => absurd hl ‹_›

theorem kept_clearWindows (s : State) : Kept s (clearWindows s) :=
  kept_subRecords s fun n c h => by simpa [LostSubRecord] using h

theorem kept_judgeWindows (s : State) : Kept s (judgeWindows s) :=
  kept_subRecords s fun n c h => by
    simp only [Four.get_mapIdx]
    split
    · exact h
    · rw [Three.get_map]
      exact judged_lawful _ _ h

theorem kept_holdParked (s : State) : Kept s (holdParked s) :=
  kept_subRecords s fun n c h => by
    simp only [Four.get_mapIdx]
    cases c with
    | left => exact lostSub_lawful
    | right => exact lostSub_lawful
    | rear =>
      simp only [Three.get]
      split
      · exact lostSub_lawful
      · exact h

theorem kept_restartWindow (period : Time) (s : State) : Kept s (restartWindow period s) :=
  (kept_loops_of_coils s (l := { s.loops with
    windowTimer := s.partTime + period
    spoiled := s.loops.checkFlag && s.loops.spoiled }) fun _ => rfl).trans (kept_clearWindows _)

theorem kept_loopsEnterParked (s : State) : Kept s (loopsEnterParked s) := by
  unfold loopsEnterParked
  exact (kept_judgeNear _).after ((kept_recomputeClass _).after ((kept_recomputeLoops _).after
    ((kept_holdParked _).after (kept_restartWindow _ s))))

theorem kept_loopsLeaveParked (s : State) : Kept s (loopsLeaveParked s) :=
  (kept_recomputeLoops _).after (kept_restartWindow _ s)

end Sys2Proof.Proofs
end

section
/-! SUPPORT. The operations of the Contact Unit, the Guard, the Blade Controller's period and the Dock Unit keep the laws. -/

namespace Sys2Proof.Proofs

open Sys2Proof.Machine Sys2Proof.Safety

/-! ### The contact list (R142..R145) -/

/-- An entry with a sonar source carries a range (R144). -/
def Ranged (src : Sources) (range : Option Nat) : Prop := src &&& sonarSources ≠ 0 → range.isSome = true

theorem kept_setList {l : List Entry} {s : State}
    (h : ContactLaw s → l.length ≤ 8 ∧ ∀ e ∈ l, Ranged e.sources e.range) : Kept s (setList l s) := kept_contact s h

theorem mapNewest_length (f : Entry → Entry) (l : List Entry) : (mapNewest f l).length = l.length := by
  induction l using mapNewest.induct with
  | case1 => rfl
  | case2 e => rfl
  | case3 e d es ih => simp only [mapNewest, List.length_cons] at ih ⊢; omega

theorem mem_mapNewest {f : Entry → Entry} {l : List Entry} {e : Entry} (h : e ∈ mapNewest f l) :
    e ∈ l ∨ ∃ d ∈ l, e = f d := by
  induction l using mapNewest.induct with
  | case1 => cases h
  | case2 d => exact .inr ⟨d, List.mem_singleton_self d, List.mem_singleton.1 h⟩
  | case3 c d es ih =>
    rcases List.mem_cons.1 h with rfl | h
    · exact .inl (List.mem_cons_self ..)
    · rcases ih h with h | ⟨x, hx, rfl⟩
      · exact .inl (List.mem_cons_of_mem _ h)
      · exact .inr ⟨x, List.mem_cons_of_mem _ hx, rfl⟩

/-- A change of the newest entry that leaves a ranged entry ranged. -/
theorem kept_mapNewest {f : Entry → Entry} {s : State}
    (h : ∀ e, Ranged e.sources e.range → Ranged (f e).sources (f e).range) :
    Kept s (setList (mapNewest f s.contact.list) s) :=
  kept_setList fun ⟨hlength, hranged⟩ => by
    refine ⟨(mapNewest_length f _).trans_le hlength, fun e he => ?_⟩
    rcases mem_mapNewest he with he | ⟨d, hd, rfl⟩
    · exact hranged e he
    · exact h d (hranged d hd)

theorem kept_writeEpisode (o : ContactOutcome) (s : State) : Kept s (writeEpisode o s) :=
  kept_setList fun ⟨hlength, hranged⟩ => by
    refine ⟨by simpa using hlength, fun e he => ?_⟩
    obtain ⟨d, hd, rfl⟩ := List.mem_map.1 he
    have := hranged d hd
    split
    · exact this
    · exact this

theorem kept_writeNewest (o : Option ContactOutcome) (s : State) : Kept s (writeNewest o s) := kept_mapNewest fun _ => id

theorem appendEntry_length (e : Entry) {l : List Entry} (h : l.length ≤ 8) : (appendEntry e l).length ≤ 8 := by
  have hpurge : (purgeOld e.time l).length ≤ l.length := List.length_filter_le _ _
  unfold appendEntry dropOldest
  simp only [Config.contactCapacity, List.length_append, List.length_singleton]
  split
  · rw [List.length_drop]; omega
  · omega

theorem mem_appendEntry {e d : Entry} {l : List Entry} (h : d ∈ appendEntry e l) : d = e ∨ d ∈ l := by
  rcases List.mem_append.1 h with h | h
  · right
    unfold dropOldest at h
    split at h
    · exact List.mem_of_mem_filter (List.mem_of_mem_drop h)
    · exact List.mem_of_mem_filter h
  · exact .inl (List.mem_singleton.1 h)

theorem kept_appendEntry {e : Entry} {s : State} (h : Ranged e.sources e.range) :
    Kept s (setList (appendEntry e s.contact.list) s) :=
  kept_setList fun ⟨hlength, hranged⟩ => by
    refine ⟨appendEntry_length e hlength, fun d hd => ?_⟩
    rcases mem_appendEntry hd with rfl | hd
    · exact h
    · exact hranged d hd

/-- A contact folded into an entry leaves it ranged. -/
theorem folded_ranged {src : Sources} {range : Option Nat} (h : Ranged src range) (e : Entry)
    (he : Ranged e.sources e.range) : Ranged (e.folded src range).sources (e.folded src range).range := by
  intro hsonar
  have hor : (e.sources ||| src) &&& sonarSources = (e.sources &&& sonarSources) ||| (src &&& sonarSources) := by
    ext i; simp [Bool.and_or_distrib_right]
  have hfold : e.range.isSome = true ∨ range.isSome = true → (foldRange e.range range).isSome = true := by
    unfold foldRange
    cases e.range <;> cases range <;> simp
  refine hfold ?_
  by_cases hold : e.sources &&& sonarSources = 0
  · refine .inr (h fun hnew => hsonar ?_)
    show (e.sources ||| src) &&& sonarSources = 0
    rw [hor, hold, hnew]
    rfl
  · exact .inl (he hold)

/-! ### Traps and the reflex (R143, R147, R150, R153) -/

/-- The reflex's stage and record are no part of the list. -/
theorem kept_reflex (s : State) (stage : Stage) (record : ReflexRecord) :
    Kept s { s with contact := { s.contact with stage := stage, record := record } } := kept_contact s id

theorem kept_planTrapped (s : State) : Kept s (planTrapped s) := by
  unfold planTrapped
  split
  · exact kept_endActive _ _
  · split
    · have hrunning : s.plan.state = .running := by
        have := ‹s.deferral = true›
        simp only [State.deferral, Bool.and_eq_true, decide_eq_true_eq] at this
        exact this.1
      exact (kept_post _ _).after ((kept_startHold _).after (kept_plan s rfl fun _ ⟨hidle, _⟩ => by
        rw [hrunning] at hidle; cases hidle))
    · exact .refl s

theorem kept_takeTrap (cause : TrapCause) (s : State) : Kept s (takeTrap cause s) := by
  have hplan := (kept_planTrapped _).after (kept_reflex s .quiet s.contact.record)
  unfold takeTrap
  refine (kept_post _ _).after ?_
  split
  · exact (kept_writeEpisode _ _).after hplan
  · exact (kept_writeNewest _ _).after hplan

theorem kept_startReflex (e : Entry) (s : State) : Kept s (startReflex e s) := { Kept.refl s with }

theorem kept_startOrTrap (e : Entry) (s : State) : Kept s (startOrTrap e s) := by
  unfold startOrTrap
  split
  · exact kept_takeTrap _ _
  · exact kept_startReflex _ _

theorem kept_restartReflex (e : Entry) (s : State) : Kept s (restartReflex e s) := kept_reflex s _ _

theorem kept_joinHits (src : Sources) (s : State) : Kept s (joinHits src s) := kept_reflex s _ _

theorem kept_restartOrTrap (e : Entry) (s : State) : Kept s (restartOrTrap e s) := by
  have hcount := kept_reflex s s.contact.stage { s.contact.record with restarts := s.contact.record.restarts + 1 }
  unfold restartOrTrap
  dsimp only
  split
  · exact (kept_takeTrap _ _).after hcount
  · exact (kept_restartReflex _ _).after hcount

theorem kept_joinReflex (e : Entry) (s : State) : Kept s (joinReflex e s) := by
  unfold joinReflex
  split
  · exact kept_takeTrap _ _
  · split
    · exact .refl s
    · exact kept_joinHits _ _
    · exact kept_restartOrTrap _ _
    · exact kept_restartOrTrap _ _

/-- The Dock Unit is read by no law. -/
theorem kept_dock (s : State) (d : Dock) : Kept s { s with dock := d } := kept_unread s _ _ _ _ _ _

theorem kept_takeMiss (s : State) : Kept s (takeMiss s) := by
  unfold takeMiss
  dsimp only
  split
  · exact (kept_endActive _ _).after (kept_dock s _)
  · exact (kept_post _ _).after ((kept_writeDockRecord _).after (kept_dock s _))

theorem kept_dockBump (s : State) : Kept s (dockBump s) := by
  unfold dockBump
  dsimp only
  split
  · exact .refl s
  · split
    · exact kept_takeMiss s
    · exact kept_dock s _
    · exact .refl s
    · exact .refl s

/-! ### Contacts (R142, R143) -/

theorem kept_dispose (e : Entry) (s : State) : Kept s (dispose e s) := by
  unfold dispose
  split
  · exact kept_joinReflex _ _
  · split
    · exact (kept_dockBump _).after (kept_writeNewest _ s)
    · split
      · exact kept_startOrTrap _ _
      · exact kept_writeNewest _ s

theorem kept_countContact (s : State) : Kept s (countContact s) :=
  kept_plan s rfl fun _ ⟨hstate, hactive⟩ => ⟨hstate, by simp [hactive]⟩

theorem kept_appendContact {e : Entry} (h : Ranged e.sources e.range) (s : State) : Kept s (appendContact e s) :=
  (kept_dispose _ _).after ((kept_countContact _).after (kept_appendEntry h))

section
variable {src : Sources} {range : Option Nat} (h : Ranged src range)
include h

theorem kept_foldContact (e : Entry) (s : State) : Kept s (foldContact e src range s) := by
  have hfolded : Kept s (noteContacts (setList (mapNewest (fun d => d.folded src range) s.contact.list) s)) :=
    (kept_noteContacts _).after (kept_mapNewest (folded_ranged h))
  unfold foldContact
  dsimp only
  split
  · split
    · exact (kept_joinHits _ _).after hfolded
    · exact hfolded
  · split
    · exact (kept_joinHits _ _).after hfolded
    · exact hfolded
  · exact hfolded
  · split
    · exact hfolded
    · split
      · exact (kept_takeTrap _ _).after hfolded
      · exact (kept_startReflex _ _).after ((kept_writeNewest _ _).after hfolded)

theorem kept_formContact (s : State) : Kept s (formContact src range s) := by
  unfold formContact
  split
  · split
    · exact kept_foldContact h _ _
    · exact kept_appendContact h _
  · exact kept_appendContact h _

theorem kept_formArmed (s : State) : Kept s (formArmed src range s) := by
  unfold formArmed
  split
  · exact kept_formContact h s
  · exact .refl s

end

/-! ### The end of a reflex, and pinging (R138, R151, R152) -/

theorem kept_reportReflex (s : State) : Kept s (reportReflex s).1 := by
  unfold reportReflex
  split
  · exact .refl s
  · split
    · exact .refl s
    · split
      · exact kept_resumeSegment s
      all_goals exact kept_endActive _ s

theorem kept_publishQuiet (s : State) : Kept s (publishQuiet s) := by
  unfold publishQuiet
  split
  · split
    · exact kept_resumeSegment s
    · exact .refl s
  · split
    · split
      · exact kept_activate _ _
      · exact .refl s
    · exact .refl s

theorem kept_finishReflex (s : State) : Kept s (finishReflex s) :=
  (kept_publishQuiet _).after ((kept_post _ _).after ((kept_writeEpisode _ _).after ((kept_reportReflex _).after
    (kept_reflex s .quiet s.contact.record))))

theorem kept_abortReflex (s : State) : Kept s (abortReflex s) := by
  unfold abortReflex
  split
  · exact .refl s
  · exact (kept_reflex _ _ _).after (kept_writeEpisode _ s)

theorem kept_triggerNext (s : State) : Kept s (triggerNext s) := kept_contact s id

theorem kept_pingOn (s : State) : Kept s (pingOn s) := (kept_triggerNext _).after (kept_contact s id)

theorem kept_pingOff (s : State) : Kept s (pingOff s) := kept_contact s id

theorem kept_judgePinging (s : State) : Kept s (judgePinging s) := by
  unfold judgePinging
  dsimp only
  split
  · exact .refl s
  · split
    · exact kept_pingOn s
    · exact kept_pingOff s

/-! ### ARMED is left (R61, R73, R156) -/

theorem kept_zeroTargets (s : State) : Kept s (zeroTargets s) :=
  kept_drive s fun i => .inr (by simp [WheelState.zeroed])

theorem kept_abortPlan (cause : EndCause) (s : State) : Kept s (abortPlan cause s) := by
  unfold abortPlan
  split
  · exact kept_settleEnd _ _
  · exact kept_becomeIdle s

theorem kept_clearArmed (s : State) : Kept s (clearArmed s) := kept_guard s rfl

theorem kept_leaveArmed {cause : EndCause} {dest : MachineState} {s : State} (hc : ∀ o, cause.continuation o = .toIdle)
    (hd : dest ≠ .armed) (hs : s.guard.machine = .armed) : Kept s (leaveArmed cause dest s) where
  toCalm := ((kept_clearArmed _).after ((kept_pingOff _).after ((kept_abortReflex _).after ((kept_zeroTargets _).after
    (kept_abortPlan cause _))))).toCalm.after (calm_setMachine hd (by rw [hs]; decide))
  plan _ _ := by
    obtain ⟨hstate, hactive, -⟩ := leaveArmed_plan (dest := dest) hc s
    exact ⟨hstate, hactive⟩
  rest _ _ := (leaveArmed_drive cause dest s).1

/-! ### Findings (R166, R167) -/

/-- A new trip record matters only to a machine that was TRIPPED before. -/
theorem Kept.withTrip {s u : State} (h : Kept s u) (hs : s.guard.machine ≠ .tripped) (r : TripRecord) :
    Kept s { u with guard := { u.guard with trip := r } } where
  resetting := h.resetting
  pins := h.pins
  lift := h.lift
  unarmed := h.unarmed
  gov := h.gov
  targets := h.targets
  memory := h.memory
  lost := h.lost
  blade := h.blade
  contact := h.contact
  settings := h.settings
  line := h.line
  trip ht := absurd ht hs
  plan := h.plan
  rest := h.rest

theorem kept_trip (c : TripCause) {s : State} (hs : s.guard.machine = .armed) : Kept s (trip c s) :=
  (kept_post _ _).after ((kept_writeTripRecord _).after
    ((kept_leaveArmed (fun _ => rfl) (by decide) hs).withTrip (by rw [hs]; decide) _))

theorem kept_addFurther (c : TripCause) (s : State) : Kept s (addFurther c s) := by
  unfold addFurther
  split
  · exact .refl s
  · refine (kept_writeTripRecord _).after (kept_guard_of s ⟨rfl, rfl, rfl⟩ ⟨rfl, ?_⟩)
    ext i
    simpa using Or.inl

theorem kept_find (c : TripCause) (s : State) : Kept s (find c s) := by
  unfold find
  split
  · exact kept_trip c ‹_›
  · exact kept_addFurther c s
  all_goals exact .refl s

/-! ### The end of START (R157, R170) -/

theorem kept_answerRestart (s : State) : Kept s (answerRestart s) := by
  unfold answerRestart
  split
  · exact (kept_answerWith _ _ _ _).after (kept_port s rfl)
  · exact .refl s
  · exact .refl s

theorem kept_finishStart (s : State) : Kept s (finishStart s) := by
  unfold finishStart
  split
  · have hstart : s.guard.machine = .start := by
      have := ‹(decide (s.guard.machine = .start) && s.guard.windowJudged && s.guard.bladeOff) = true›
      simp only [Bool.and_eq_true, decide_eq_true_eq] at this
      exact this.1.1
    exact (kept_answerRestart _).after (kept_setMachine (by decide) (by rw [hstart]; decide) (by rw [hstart]; decide))
  · exact .refl s

theorem kept_noteBladeOff (s : State) : Kept s (noteBladeOff s) := by
  unfold noteBladeOff
  split
  · exact (kept_finishStart _).after (kept_guard s rfl)
  · exact .refl s

theorem kept_noteWindow (s : State) : Kept s (noteWindow s) := by
  unfold noteWindow
  split
  · exact (kept_finishStart _).after (kept_guard s rfl)
  · exact .refl s

/-! ### The blade period (R119..R132) -/

/-- A blade with the state, duty and brake it had meets its law as it did. -/
theorem kept_bladeReading (s : State) {b : Blade} (hs : b.state = s.blade.state) (hd : b.duty = s.blade.duty)
    (hb : b.brake = s.blade.brake) : Kept s { s with blade := b } :=
  kept_blade s fun h => by unfold BladeLaw at h ⊢; rwa [hs, hd, hb]

theorem measure_driving (b : Blade) (t : Capture) :
    (b.measure t).state = b.state ∧ (b.measure t).duty = b.duty ∧ (b.measure t).brake = b.brake := by
  unfold Blade.measure
  (repeat' split) <;> exact ⟨rfl, rfl, rfl⟩

theorem pulse_driving (b : Blade) (t : Capture) :
    (b.pulse t).state = b.state ∧ (b.pulse t).duty = b.duty ∧ (b.pulse t).brake = b.brake := by
  unfold Blade.pulse
  split <;> exact ⟨rfl, rfl, rfl⟩

theorem kept_runawayStep (s : State) : Kept s (runawayStep s) := by
  unfold runawayStep
  split
  · refine (kept_find _ _).after ?_
    split
    · exact .refl s
    · exact kept_setBlade id
  · exact kept_blade s id

theorem kept_jamEvent (fault : BladeFault) (report : Report) (s : State) : Kept s (jamEvent fault report s) :=
  (kept_post _ _).after (kept_setBlade fun _ => bladeLaw_of_undriven (by simp [Driven]) rfl)

theorem kept_spinupStep (target : Nat) {s : State} (hs : s.blade.state = .spinup) : Kept s (spinupStep target s) := by
  unfold spinupStep
  split
  · exact (kept_post _ _).after (kept_setBlade fun ⟨_, h⟩ => ⟨fun _ => .inr rfl, fun _ => h (.inl hs)⟩)
  · split
    · exact kept_jamEvent _ _ s
    · exact kept_blade s fun ⟨_, h⟩ => ⟨fun _ => .inl hs, h⟩

theorem kept_regulated (target kb : Nat) (lowStart : Option Time) {s : State} (hs : s.blade.state = .cutting) :
    Kept s { s with blade := s.blade.regulated target kb lowStart } :=
  kept_blade s fun ⟨_, h⟩ => ⟨fun _ => .inr hs, h⟩

theorem kept_cuttingStep (target : Nat) {s : State} (hs : s.blade.state = .cutting) : Kept s (cuttingStep target s) := by
  unfold cuttingStep
  dsimp only
  split
  · exact kept_regulated _ _ _ hs
  · split
    · exact kept_regulated _ _ _ hs
    · split
      · exact kept_jamEvent _ _ s
      · exact kept_regulated _ _ _ hs

theorem kept_uncutAtLockout (s : State) : Kept s (uncutAtLockout s) := by
  unfold uncutAtLockout
  split
  · exact kept_markUncut s
  · exact .refl s

theorem kept_enterLockedOut (s : State) : Kept s (enterLockedOut s) :=
  (kept_uncutAtLockout _).after ((kept_post _ _).after
    (kept_setBlade fun _ => bladeLaw_of_undriven (by simp [Driven]) rfl))

/-- A blade whose brake goes off. -/
theorem bladeLaw_unbraked {s : State} {b : Blade} (hs : b.state = s.blade.state) (hd : b.duty = s.blade.duty)
    (hb : b.brake = false) : BladeLaw s → BladeLaw { s with blade := b } := fun ⟨hduty, hdriven⟩ =>
  ⟨fun h => by rw [show ({ s with blade := b } : State).blade.state = s.blade.state from hs]; exact hduty (hd ▸ h),
    fun h => ⟨(hdriven (hs ▸ h)).1, hb⟩⟩

theorem kept_takeStop (s : State) : Kept s (takeStop s) := by
  unfold takeStop
  split
  · exact kept_enterLockedOut s
  · exact kept_blade s (bladeLaw_unbraked rfl rfl rfl)

theorem kept_offAndJudge (s : State) : Kept s (offAndJudge s) := (kept_judgeBlade _).after (kept_enterOff s)

theorem kept_bladeAction (target : Nat) (stopped : Bool) (s : State) : Kept s (bladeAction target stopped s) := by
  unfold bladeAction
  split
  · exact .refl s
  · exact kept_spinupStep target ‹_›
  · exact kept_cuttingStep target ‹_›
  · split
    · exact kept_offAndJudge s
    · exact .refl s
  · unfold jammedStep
    split
    · exact kept_takeStop s
    · exact .refl s
  · exact .refl s

theorem kept_publishBlade (s : State) : Kept s (publishBlade s) := (kept_noteBladeOff _).after (kept_blade s id)

theorem kept_bladePeriod (t : Capture) (s : State) : Kept s (bladePeriod t s) := by
  obtain ⟨hs, hd, hb⟩ := measure_driving s.blade t
  exact (kept_publishBlade _).after ((kept_bladeAction _ _ _).after ((kept_runawayStep _).after
    (kept_bladeReading s hs hd hb)))

theorem kept_markBrakeSlow (s : State) : Kept s (markBrakeSlow s) := by
  unfold markBrakeSlow
  split
  · exact (kept_writeTripRecord _).after (kept_guard s rfl)
  · exact .refl s

theorem kept_slowBrake (s : State) : Kept s (slowBrake s) := by
  have hmarked := (kept_markBrakeSlow _).after ((kept_post (.brakeSlow s.blade.rpm) _).after (kept_setBlade (s := s)
    (b := { s.blade with brake := false, brakeTimer := none, lastFault := .brakeSlow }) (bladeLaw_unbraked rfl rfl rfl)))
  unfold slowBrake
  dsimp only
  split
  · exact (kept_noteBladeOff _).after ((kept_offAndJudge _).after hmarked)
  · exact (kept_takeStop _).after hmarked
  all_goals exact hmarked

/-! ### The Dock Unit (R173, R182, R183) -/

/-- The snapshot timer, after which the dock record is written. -/
theorem kept_dockNoted (s : State) (timer : Time) (d : Dock) :
    Kept s (writeDockRecord { s with port := { s.port with snapTimer := timer }, dock := d }) :=
  (kept_writeDockRecord _).after ((kept_port s (p := { s.port with snapTimer := timer }) rfl).trans (kept_dock _ d))

theorem kept_wakeUp (reason : WakeReason) {s : State} (hs : s.guard.machine = .parked) : Kept s (wakeUp reason s) :=
  (kept_post _ _).after ((kept_dockNoted _ _ _).after ((kept_loopsLeaveParked _).after
    (kept_setMachine (by decide) (by rw [hs]; decide) (by rw [hs]; decide))))

theorem kept_parkNow (s : State) : Kept s (parkNow s) := (kept_dockNoted _ _ _).after (kept_loopsEnterParked s)

theorem kept_takePark {s : State} (hs : s.guard.machine ≠ .tripped) : Kept s (takePark s) := by
  refine (kept_parkNow _).after ?_
  split
  · exact kept_leaveArmed (fun _ => rfl) (by decide) (by simpa [State.armed] using ‹s.armed = true›)
  · exact kept_setMachine (by decide) (by simpa [State.armed] using ‹¬ s.armed = true›) hs

theorem kept_contactArrived (s : State) : Kept s (contactArrived s) := by
  have hwritten := kept_writeDockRecord s
  unfold contactArrived
  dsimp only
  split
  · exact (kept_endSegment _ _ _).after hwritten
  all_goals exact hwritten

/-- UNDOCKED is posted of an UNDOCK in REVERSE (R180). -/
def reportUndocked (s : State) : State :=
  match s.dock.run with
  | .undock _ => if s.dock.phase = some .reverse then post (.undocked s.runMm) s else s
  | .dock _ => s
  | .none => s

/-- A lost contact is reported, and wakes a PARKED machine. -/
theorem contactLost_eq (s : State) :
    contactLost s = if (reportUndocked (writeDockRecord s)).parked
      then wakeUp .contactLost (reportUndocked (writeDockRecord s)) else reportUndocked (writeDockRecord s) := rfl

theorem kept_reportUndocked (s : State) : Kept s (reportUndocked s) := by
  unfold reportUndocked
  split
  · split
    · exact kept_post _ _
    · exact .refl s
  all_goals exact .refl s

theorem kept_contactLost (s : State) : Kept s (contactLost s) := by
  have hreported := (kept_reportUndocked _).after (kept_writeDockRecord s)
  rw [contactLost_eq]
  split
  · exact (kept_wakeUp _ (by simpa [State.parked] using ‹State.parked _ = true›)).after hreported
  · exact hreported

theorem kept_risingFell (s : State) : Kept s (risingFell s) := by
  unfold risingFell
  split
  · exact (kept_takeMiss _).after (kept_dock s _)
  · exact .refl s

theorem kept_setSense (c : Sense) (start : Option Time) (s : State) : Kept s (setSense c start s) := kept_dock s _

theorem kept_moveSense (v : Byte) (s : State) : Kept s (moveSense v s) := by
  unfold moveSense
  dsimp only
  split
  · split
    · exact kept_setSense _ _ s
    · exact .refl s
  · split
    · exact (kept_risingFell _).after (kept_setSense _ _ s)
    · split
      · exact (kept_contactArrived _).after (kept_setSense _ _ s)
      · exact .refl s
  · split
    · exact kept_setSense _ _ s
    · exact .refl s
  · split
    · exact kept_setSense _ _ s
    · split
      · exact (kept_contactLost _).after (kept_setSense _ _ s)
      · exact .refl s

theorem kept_contactSample (v : Byte) (s : State) : Kept s (contactSample v s) :=
  (kept_moveSense _ _).after (kept_dock s _)

end Sys2Proof.Proofs
end

section
/-! SUPPORT. The steps of a control period, the Wire Receiver, the requests and the port keep the laws. -/

namespace Sys2Proof.Proofs

open Sys2Proof.Machine Sys2Proof.Safety

/-! ### Steps 1 to 4 of a control period (R70, R76, R78, R148, R164, R175) -/

/-- Both wheels, with the targets they had. -/
theorem kept_wheels (s : State) (f : WheelState → WheelState) (h : ∀ w, (f w).target = w.target) :
    Kept s { s with drive := { s.drive with wheels := s.drive.wheels.map f } } :=
  kept_drive s fun i => .inl (by simp [h])

theorem measure_target (mmPer256 : Nat) (t : Capture) (w : WheelState) : (w.measure mmPer256 t).target = w.target := by
  unfold WheelState.measure
  (repeat' split) <;> rfl

theorem kept_measureWheels (t : Capture) (s : State) : Kept s (measureWheels t s) :=
  kept_wheels s _ (measure_target _ t)

theorem kept_odometryStep (v : Travel) (s : State) : Kept s (odometryStep v s) := by
  have htarget (i : LR) : (((s.drive.advance v).clearCounts).wheels.get i).target = (s.drive.wheels.get i).target := by
    simp [Drive.clearCounts, Drive.advance]
  unfold odometryStep
  dsimp only
  split
  · exact kept_drive s fun i => .inl (htarget i)
  · exact kept_drive s fun i => .inl (htarget i)

theorem kept_dockTravel (v : Travel) (s : State) : Kept s (dockTravel v s) := by
  unfold dockTravel
  split
  · exact kept_dock s _
  · split
    · exact kept_dock s _
    · exact .refl s
  · exact .refl s

theorem kept_reflexTravel (v : Travel) (s : State) : Kept s (reflexTravel v s) := by
  unfold reflexTravel
  split
  · exact kept_reflex s _ _
  · exact kept_reflex s _ _
  all_goals exact .refl s

theorem kept_escapeStep (v : Travel) (s : State) : Kept s (escapeStep v s) := by
  unfold escapeStep
  dsimp only
  split
  · split
    · exact (kept_find _ _).after (kept_guard s rfl)
    · exact kept_guard s rfl
  · exact .refl s

theorem kept_travelStep (v : Travel) (s : State) : Kept s (travelStep v s) :=
  (kept_escapeStep _ _).after ((kept_reflexTravel _ _).after ((kept_dockTravel _ _).after (kept_odometryStep v s)))

theorem kept_stepEnds (s : State) : Kept s (stepEnds s) := by
  unfold stepEnds
  split
  · exact .refl s
  · split
    · exact kept_endActive _ s
    · exact .refl s

theorem kept_judgeTilt (s : State) : Kept s (judgeTilt s) := by
  unfold judgeTilt
  split
  · exact kept_guard s rfl
  · split
    · exact kept_guard s rfl
    · split
      · exact kept_find _ s
      · exact .refl s

/-! ### Step 5: the kinds' requests (R91, R175, R180) -/

theorem kept_track (s : State) (track : Track) : Kept s { s with track := track } := kept_unread s _ _ _ track _ _

theorem kept_steer (fresh : Bool) (cap : Nat) (s : State) : Kept s (steer fresh cap s).1 := by
  unfold steer
  split
  · dsimp only
    split
    · exact kept_endActive _ s
    · exact kept_track s _
  · split
    · exact .refl s
    · exact kept_endActive _ s
  · exact kept_track s _

theorem kept_trackRequest (fresh : Bool) (cap : Nat) (seg : Segment) (s : State) :
    Kept s (trackRequest fresh cap seg s).1 := by
  unfold trackRequest
  split
  · exact kept_endActive _ s
  · split
    · exact .refl s
    · split
      · exact kept_endActive _ s
      · exact kept_steer _ _ s

theorem kept_leaveBackoff (s : State) : Kept s (leaveBackoff s) := by
  have hleft : Kept s (writeDockRecord { s with
      dock := { s.dock with phase := some .approach }
      track := { s.track with ePrev := 0 } }) :=
    (kept_writeDockRecord _).after (kept_unread s _ _ _ _ _ _)
  unfold leaveBackoff
  dsimp only
  split
  · exact (kept_enterNear _).after hleft
  · exact hleft

theorem kept_dockPhaseRequest (fresh : Bool) (cap : Nat) (s : State) : Kept s (dockPhaseRequest fresh cap s).1 := by
  unfold dockPhaseRequest
  split
  · exact .refl s
  · split
    · split
      · exact kept_takeMiss s
      · exact kept_steer _ _ s
    · split
      · exact (kept_steer _ _ _).after (kept_leaveBackoff s)
      · exact .refl s
    · exact kept_steer _ _ s

theorem kept_dockRequest (fresh : Bool) (cap : Nat) (seg : Segment) (s : State) :
    Kept s (dockRequest fresh cap seg s).1 := by
  unfold dockRequest
  split
  · exact kept_endActive _ s
  · split
    · exact .refl s
    · exact kept_dockPhaseRequest _ _ s

theorem kept_undockTurn (cap : Nat) (f : Fields) (s : State) : Kept s (undockTurn cap f s).1 := by
  unfold undockTurn
  split
  · exact kept_endActive _ s
  · exact .refl s

theorem kept_undockRequest (fresh : Bool) (cap : Nat) (seg : Segment) (s : State) :
    Kept s (undockRequest fresh cap seg s).1 := by
  unfold undockRequest
  split
  · exact kept_endActive _ s
  · split
    · exact .refl s
    · split
      · exact .refl s
      · split
        · exact kept_undockTurn _ _ s
        · split
          · exact kept_endActive _ s
          · split
            · exact (kept_undockTurn _ _ _).after ((kept_writeDockRecord _).after (kept_dock s _))
            · exact .refl s

theorem kept_kindRequest (fresh : Bool) (cap : Nat) (s : State) : Kept s (kindRequest fresh cap s).1 := by
  unfold kindRequest
  split
  · exact .refl s
  · split
    · exact .refl s
    · exact .refl s
    · exact .refl s
    · exact kept_trackRequest _ _ _ s
    · exact kept_dockRequest _ _ _ s
    · exact kept_undockRequest _ _ _ s
    · exact .refl s

theorem kept_requestStep (cap : Nat) (s : State) : Kept s (requestStep cap s).1 := by
  have hfirst := kept_kindRequest false cap s
  unfold requestStep
  split <;> rename_i heq <;> rw [heq] at hfirst
  · exact (kept_kindRequest _ _ _).after hfirst
  · exact hfirst
  · exact hfirst

/-! ### Step 5: the reflex (R148), and steps 6 and 7 (R75, R78, R141) -/

theorem kept_runStage (cap : Nat) (moved : Bool) (p : Pair) (s : State) : Kept s (runStage cap moved p s).state := by
  unfold runStage
  dsimp only
  split
  · exact (kept_takeTrap _ _).after (kept_reflex s _ _)
  · exact kept_reflex s _ _

theorem kept_reflexStep (cap : Nat) (v : Travel) (s : State) : Kept s (reflexStep cap v s).state := by
  unfold reflexStep
  split
  · exact .refl s
  · split
    · exact kept_reflex s _ _
    · exact .refl s
  · split
    · exact kept_reflex s _ _
    · exact kept_runStage _ _ _ s
  · split
    · exact .refl s
    · exact kept_runStage _ _ _ s

theorem drivenBy_target (kf ki : Nat) (w : WheelState) : (w.drivenBy kf ki).target = w.target := by
  unfold WheelState.drivenBy
  dsimp only
  split <;> rfl

theorem kept_dutyStep (s : State) : Kept s (dutyStep s) := kept_wheels s _ (drivenBy_target _ _)

theorem kept_motionStep (s : State) : Kept s (motionStep s) :=
  (kept_judgePinging _).after (kept_drive s fun _ => .inl rfl)

theorem kept_setStall (i : LR) (t : Option Time) (s : State) : Kept s (setStall i t s) := kept_contact s id

theorem stallSource_ranged (i : LR) : Ranged (stallSource i) none := by
  cases i <;> exact fun h => absurd (by decide) h

theorem kept_judgeStall (i : LR) (s : State) : Kept s (judgeStall i s) := by
  unfold judgeStall
  dsimp only
  split
  · split
    · exact kept_setStall _ _ s
    · split
      · exact (kept_formContact (stallSource_ranged i) _).after (kept_setStall _ _ s)
      · exact .refl s
  · exact kept_setStall _ _ s

theorem kept_latch (s : State) : Kept s (latch s) := { Kept.refl s with
  line := fun ⟨⟨hs, hl, hc, _, hd⟩, hline⟩ => ⟨⟨hs, hl, hc, rfl, hd⟩, hline⟩ }

/-! ### The Wire Receiver (R4..R23) -/

theorem kept_recv (s : State) (r : Receiver) : Kept s { s with recv := r } := kept_unread s _ _ r _ _ _

theorem kept_setChannel (i : Coil) (c : Channel) (s : State) : Kept s (setChannel i c s) := kept_recv s _

theorem kept_completeFrame (i : Coil) (f : Frame) (code : Nat) (s : State) : Kept s (completeFrame i f code s) := by
  unfold completeFrame checkFrame
  split
  · split
    · exact kept_recv s _
    · exact kept_setChannel _ _ s
  · split
    · exact kept_setChannel _ _ s
    · exact kept_frameReport _ s

theorem kept_takeDecoded (i : Coil) (d : Decoded) (s : State) : Kept s (takeDecoded i d s) := by
  unfold takeDecoded
  dsimp only
  split
  · exact kept_setChannel _ _ s
  · exact (kept_completeFrame _ _ _ _).after (kept_setChannel _ _ s)

theorem kept_closeInterval (finish : Capture) (s : State) : Kept s (closeInterval finish s) :=
  (kept_takeDecoded _ _ _).after ((kept_takeDecoded _ _ _).after ((kept_takeDecoded _ _ _).after (kept_recv s _)))

theorem kept_settleInterval (t : Capture) (s : State) : Kept s (settleInterval t s) := by
  unfold settleInterval
  split
  · exact .refl s
  · split
    · exact kept_closeInterval _ s
    · exact .refl s

theorem kept_leadingAt (i : Coil) (t : Capture) (s : State) : Kept s (leadingAt i t s) := by
  unfold leadingAt
  split
  · exact (kept_setChannel _ _ _).after (kept_settleInterval t s)
  · exact .refl s

theorem kept_trailingAt (i : Coil) (t : Capture) (peak : Byte) (s : State) : Kept s (trailingAt i t peak s) := by
  unfold trailingAt
  split
  · exact (kept_takeDecoded _ _ _).after (kept_settleInterval t s)
  · exact .refl s

theorem kept_overLengthAt (i : Coil) (t : Capture) (s : State) : Kept s (overLengthAt i t s) := by
  unfold overLengthAt
  split
  · exact kept_takeDecoded _ _ s
  · exact .refl s

theorem kept_switchingAt (o : PwmOutput) (t : Capture) (s : State) : Kept s (switchingAt o t s) := by
  have hsettled := kept_settleInterval t s
  unfold switchingAt
  dsimp only
  split
  · exact hsettled
  · exact (kept_recv _ _).after hsettled

theorem kept_beginInterval (s : State) : Kept s (beginInterval s) := by
  unfold beginInterval
  split
  · exact kept_recv s _
  · exact .refl s

/-- The receiver, and the Loop Table's flags of a check. -/
theorem kept_checkFlags (s : State) (r : Receiver) (checkFlag spoiled : Bool) :
    Kept s { s with recv := r, loops := { s.loops with checkFlag := checkFlag, spoiled := spoiled } } := { Kept.refl s with }

theorem kept_beginCheck (s : State) : Kept s (beginCheck s) :=
  (kept_writeCheckRecord _).after ((kept_checkFlags _ _ _ _).after (kept_recv s _))

theorem kept_finishCheck (s : State) : Kept s (finishCheck s) := by
  refine (kept_post _ _).after ((kept_writeCheckRecord _).after ?_)
  exact ((kept_recv s _).trans (kept_checkFlags _ _ false _)).trans (kept_port _ (p := { s.port with inHand := .none }) rfl)

theorem kept_checkEnd (s : State) : Kept s (checkEnd s) := by
  unfold checkEnd
  split
  · exact kept_finishCheck s
  · exact .refl s

/-! ### Window expiries (R29) -/

theorem kept_judgedWindow (s : State) : Kept s (judgedWindow s) := by
  have hpublished : Kept s (publishNear (publishClass (testWatch (recomputeLoops (judgeWindows s))))) :=
    (kept_publishNear _).after ((kept_publishClass _).after ((kept_testWatch _).after ((kept_recomputeLoops _).after
      (kept_judgeWindows s))))
  unfold judgedWindow
  refine (kept_noteWindow _).after ?_
  split
  · have hparked : s.guard.machine = .parked := by
      have := ‹stationSilent s _ = true›
      simp only [stationSilent, State.parked, Bool.and_eq_true, decide_eq_true_eq] at this
      exact this.1.1
    exact (kept_wakeUp _ (by simpa using hparked)).after hpublished
  · exact hpublished

theorem kept_windowExpiry (s : State) : Kept s (windowExpiry s) := by
  have htimer := kept_loops_of_coils s (l := { s.loops with windowTimer := s.loops.windowTimer + s.windowPeriod })
    fun _ => rfl
  unfold windowExpiry
  dsimp only
  split
  · exact (kept_clearWindows _).after htimer
  · split
    · exact (htimer.trans (kept_loops_of_coils _ (l := { s.loops with
        windowTimer := s.loops.windowTimer + s.windowPeriod, spoiled := false }) fun _ => rfl)).trans (kept_clearWindows _)
    · exact (kept_judgedWindow _).after htimer

theorem kept_windowEvent (s : State) : Kept s (windowEvent s) := by
  unfold windowEvent
  split
  · exact (kept_startMirrors _ _ _).after (kept_windowExpiry s)
  · exact .refl s

/-! ### Timers and inputs -/

theorem pulse_target (w : WheelState) (t : Capture) : (w.pulse t).target = w.target := by
  unfold WheelState.pulse
  split <;> rfl

theorem kept_encoderPulse (i : LR) (t : Capture) (s : State) : Kept s (encoderPulse i t s) :=
  kept_drive s fun j => .inl (by
    by_cases h : j = i
    · subst h; simp [pulse_target]
    · simp [Two.get_set_other _ _ h])

theorem kept_waitingCheck (s : State) : Kept s (waitingCheck s) := by
  unfold waitingCheck
  split
  · split
    · split
      · exact kept_activate _ s
      · exact kept_plan s rfl fun _ => id
    · exact .refl s
  · exact .refl s

theorem kept_holdExpiry (s : State) : Kept s (holdExpiry s) := by
  unfold holdExpiry
  split
  · exact (kept_handStanding _ _).after (kept_plan s rfl fun _ => id)
  · exact .refl s

theorem kept_bladeExpiry (t : Capture) (s : State) : Kept s (bladeExpiry t s) := by
  unfold bladeExpiry
  split
  · exact kept_bladePeriod t s
  · exact .refl s

theorem kept_hallPulse (t : Capture) (s : State) : Kept s (hallPulse t s) := by
  obtain ⟨hs, hd, hb⟩ := pulse_driving s.blade t
  exact kept_bladeReading s hs hd hb

theorem kept_brakeExpiry (s : State) : Kept s (brakeExpiry s) := by
  unfold brakeExpiry
  split
  · exact kept_slowBrake s
  · exact .refl s

theorem kept_waitExpiry (s : State) : Kept s (waitExpiry s) := by
  unfold waitExpiry
  split
  · exact kept_offAndJudge s
  · exact .refl s

theorem kept_setBump (i : LR) (d : Debounce) (t : Option Time) (s : State) : Kept s (setBump i d t s) := kept_contact s id

theorem kept_bumpEdge (i : LR) (e : Edge) (s : State) : Kept s (bumpEdge i e s) := by
  unfold bumpEdge
  split
  · exact kept_setBump _ _ _ s
  · exact kept_setBump _ _ _ s
  · exact kept_setBump _ _ _ s
  · exact .refl s

theorem bumpSource_ranged (i : LR) : Ranged (bumpSource i) none := by
  cases i <;> exact fun h => absurd (by decide) h

theorem kept_bumpExpiry (i : LR) (s : State) : Kept s (bumpExpiry i s) := by
  unfold bumpExpiry
  split
  · exact (kept_formArmed (bumpSource_ranged i) _).after (kept_setBump _ _ _ s)
  · exact .refl s

theorem kept_pingExpiry (s : State) : Kept s (pingExpiry s) := by
  unfold pingExpiry
  split
  · exact .refl s
  · split
    · exact (kept_triggerNext _).after (kept_contact s id)
    · exact .refl s

theorem kept_setSonar (i : LR) (c : Sonar) (s : State) : Kept s (setSonar i c s) := kept_contact s id

theorem kept_triggerEnd (i : LR) (t : Capture) (s : State) : Kept s (triggerEnd i t s) := by
  unfold triggerEnd
  split
  · exact kept_setSonar _ _ s
  · exact .refl s

/-- A ping forms a contact only with a range. -/
theorem kept_completePing (i : LR) (range : Option Nat) (s : State) : Kept s (completePing i range s) := by
  unfold completePing
  dsimp only
  split
  · have hrange : range.isSome = true := by
      cases range with
      | none => simp [State.isClose] at *
      | some r => rfl
    exact (kept_formArmed (fun _ => hrange) _).after (kept_setSonar _ _ s)
  · exact kept_setSonar _ _ s

theorem kept_echoEdge (i : LR) (t : Capture) (s : State) : Kept s (echoEdge i t s) := by
  unfold echoEdge
  split
  · exact .refl s
  · split
    · exact .refl s
    · split <;> exact kept_completePing _ _ s

theorem kept_listenTimeout (i : LR) (t : Capture) (s : State) : Kept s (listenTimeout i t s) := by
  unfold listenTimeout
  split
  · exact .refl s
  · split
    · exact kept_completePing _ _ s
    · exact .refl s

theorem kept_noSignalExpiry (s : State) : Kept s (noSignalExpiry s) := by
  unfold noSignalExpiry
  split
  · exact (kept_find _ _).after (kept_guard s rfl)
  · exact .refl s

theorem kept_silenceExpiry (s : State) : Kept s (silenceExpiry s) := by
  unfold silenceExpiry
  split
  · exact (kept_find _ _).after (kept_guard s rfl)
  · exact .refl s

theorem kept_sampleExpiry (v : Byte) (s : State) : Kept s (sampleExpiry v s) := by
  unfold sampleExpiry
  split
  · exact kept_contactSample v s
  · exact .refl s

/-! ### Requests (R158..R191) -/

theorem kept_takeArrival (code : Word) (s : State) : Kept s (takeArrival code s) :=
  (kept_cell s code (a := addrRequest) (by decide)).trans
    (kept_port _ (p := { s.port with requestCount := s.port.requestCount + 1, args := s.argWords }) rfl)

theorem kept_askDisarm (count : BitVec 8) (s : State) : Kept s (askDisarm count s) := by
  unfold askDisarm
  split
  · exact (kept_answerWith _ _ _ _).after (kept_leaveArmed (fun _ => rfl) (by decide) ‹_›)
  all_goals exact kept_answerWith _ _ _ s

theorem kept_takePlanStart (h : Slot) (s : State) : Kept s (takePlanStart h s) := by
  unfold takePlanStart
  split
  · exact kept_activate _ s
  · exact kept_activate _ s
  · exact kept_activate _ s
  · split
    · exact kept_plan s rfl fun _ => id
    · dsimp only
      split
      · exact (kept_activate _ _).after (kept_settleEnd _ s)
      · exact (kept_startHold _).after ((kept_settleEnd .preempted s).trans
          (kept_plan _ (p := { (settleEnd .preempted s).1.plan with deferred := some h }) rfl fun _ => id))

theorem kept_askPlanStart (count : BitVec 8) (s : State) : Kept s (askPlanStart count s) := by
  unfold askPlanStart
  split
  · exact kept_answerWith _ _ _ s
  · split
    · exact kept_answerWith _ _ _ s
    · split
      · exact kept_answerWith _ _ _ s
      · exact (kept_answerWith _ _ _ _).after (kept_takePlanStart _ s)

theorem kept_takePlanStop (s : State) : Kept s (takePlanStop s) := by
  unfold takePlanStop
  split
  · exact .refl s
  · exact kept_settleEnd _ s
  · exact kept_becomeIdle s

theorem kept_askSetPose (count : BitVec 8) (s : State) : Kept s (askSetPose count s) :=
  (kept_answerWith _ _ _ _).after (kept_drive s fun _ => .inl rfl)

theorem kept_askClearContacts (count : BitVec 8) (s : State) : Kept s (askClearContacts count s) :=
  (kept_answerWith _ _ _ _).after ((kept_noteContacts _).after
    (kept_setList fun _ => ⟨Nat.zero_le _, fun _ he => absurd he List.not_mem_nil⟩))

theorem kept_askBladeUnlock (count : BitVec 8) (s : State) : Kept s (askBladeUnlock count s) := by
  unfold askBladeUnlock
  split
  · exact (kept_answerWith _ _ _ _).after (kept_offAndJudge s)
  · exact kept_answerWith _ _ _ s

/-- A PARK is taken only from SAFE or ARMED (R182). -/
theorem kept_askPark (count : BitVec 8) (s : State) : Kept s (askPark count s) := by
  unfold askPark
  split
  · have hmachine : s.guard.machine = .safe ∨ s.guard.machine = .armed := by
      by_contra hm
      have hrefused : s.judgePark = .refusedState := if_pos ⟨fun h => hm (.inl h), fun h => hm (.inr h)⟩
      simp [hrefused] at *
    exact (kept_answerWith _ _ _ _).after (kept_takePark (by rcases hmachine with h | h <;> rw [h] <;> decide))
  · exact kept_answerWith _ _ _ s

theorem kept_askWake (count : BitVec 8) (s : State) : Kept s (askWake count s) := by
  unfold askWake
  split
  · exact (kept_answerWith _ _ _ _).after (kept_wakeUp _ (by simpa [State.parked] using ‹s.parked = true›))
  · exact kept_answerWith _ _ _ s

theorem kept_askSelfCheck (count : BitVec 8) (s : State) : Kept s (askSelfCheck count s) := by
  unfold askSelfCheck
  split
  · exact (kept_answerWith _ _ _ _).after ((kept_beginCheck s).trans (kept_port _ rfl))
  · exact kept_answerWith _ _ _ s

theorem kept_endForRestart (s : State) : Kept s (endForRestart s) := by
  unfold endForRestart
  split
  · exact kept_settleEnd _ s
  · exact .refl s

theorem kept_startAll (s : State) : Kept s (startAll s) :=
  (kept_startRefresh _ _).after ((kept_startRefresh _ _).after (kept_startRefresh _ s))

/-! ### The port (R186..R202) -/

theorem kept_tick (s : State) : Kept s (tick s) := by
  have hcells : ∀ c ∈ [(addrPartTime, loWord (s.partTime + 1)), (addrPartTime + 1, hiWord (s.partTime + 1))],
      c.1 ≠ addrNoticeEnable := by
    intro c hc
    fin_cases hc <;> simp [addrPartTime, addrNoticeEnable]
  exact (kept_cells s hcells).trans (kept_unread _ (timebaseOf (s.partTime + 1)) (s.partTime + 1) _ _ _ _)

theorem kept_microsecond (s : State) : Kept s (microsecond s) :=
  (kept_writeNext _ _).after ((kept_writeNext _ _).after ((kept_writeNext _ _).after
    (kept_unread s (s.timebase + 1) _ _ _ _ _)))

theorem kept_dropWrite (a : Nat) (s : State) : Kept s (dropWrite a s) :=
  (kept_post _ _).after ((kept_cell s _ (a := addrFaults) (by decide)).trans
    (kept_port _ (p := { s.port with faults := satAdd 65535 s.port.faults 1 }) rfl))

theorem kept_put (s : State) {a : Nat} (v : Word) (h : a ≠ addrNoticeEnable) : Kept s (s.put a v) := kept_cell s v h

theorem kept_heartbeat (v : Word) (s : State) : Kept s (heartbeat v s) := by
  have hput : Kept s (s.put addrHeartbeat v) := kept_put s v (by decide)
  unfold heartbeat
  dsimp only
  split
  · exact hput.trans (kept_guard _ rfl)
  · exact hput

theorem kept_writeLive (a : Nat) (v : Word) (s : State) : Kept s (writeLive a v s) := by
  unfold writeLive
  split
  · rename_i h
    rw [h]
    exact kept_enable v s
  · exact kept_put s v ‹_›

/-- A source changed but for its details. -/
theorem kept_sameDetails (src : Source) (s : State) {st : SourceState} (h : st.details = (s.notice.get src).details) :
    Kept s (setSource src st s) := kept_setSource _ _ s fun hd => h ▸ hd src

theorem kept_endService (s : State) : Kept s (endService s) := by
  unfold endService
  split
  · exact .refl s
  · exact kept_sameDetails _ s rfl

theorem kept_serviceNumber (v : Word) (s : State) : Kept s (serviceNumber v s) := by
  unfold serviceNumber
  split
  · exact .refl s
  · exact kept_sameDetails _ s rfl

theorem kept_readEffect (a : Nat) (s : State) : Kept s (readEffect a s) := by
  unfold readEffect
  split
  · exact .refl s
  · split
    · unfold readAttention
      split
      · exact .refl s
      · split
        · exact .refl s
        · exact kept_sameDetails _ s rfl
    · exact .refl s

theorem kept_attentionAccess (s : State) : Kept s (attentionAccess s) := (kept_readEffect _ s).trans (kept_port _ rfl)

theorem kept_writeRegister (a : Nat) (v : Word) (s : State) : Kept s (writeRegister a v s) := by
  unfold writeRegister writeService
  split
  · split
    · exact kept_endService s
    · exact kept_serviceNumber v s
  · split
    · exact kept_writePortctl v s
    · exact .refl s

/-- The area NOTICE_ENABLE lies in. -/
theorem ne_noticeEnable_of_area {a : Nat} (h : areaOf a ≠ .live) : a ≠ addrNoticeEnable := by
  rintro rfl
  exact h rfl

theorem kept_hostWrite (a : Nat) (v : Word) (s : State) : Kept s (hostWrite a v s) := by
  unfold hostWrite
  split <;> rename_i harea
  case h_2 =>
    split
    · exact kept_heartbeat v s
    · exact kept_put s v (ne_noticeEnable_of_area (by rw [harea]; decide))
  case h_3 => exact kept_writeLive a v s
  case h_4 => exact kept_put s v (ne_noticeEnable_of_area (by rw [harea]; decide))
  case h_10 =>
    split
    · exact kept_put s v (ne_noticeEnable_of_area (by rw [harea]; decide))
    · exact kept_dropWrite a s
  case h_11 => exact kept_put s v (ne_noticeEnable_of_area (by rw [harea]; decide))
  case h_12 => exact kept_writeRegister a v s
  all_goals exact kept_dropWrite a s

theorem kept_snapshotExpiry (s : State) : Kept s (snapshotExpiry s) := by
  unfold snapshotExpiry
  split
  · exact (kept_startRefresh _ _).after (kept_port s rfl)
  · exact .refl s

end Sys2Proof.Proofs
end

section
/-! SUPPORT. Every step keeps every law: the control period, the requests that change the machine state, the edges of the
lift inputs and the stop key, the resets, and the proofs of the laws' statements. -/

namespace Sys2Proof.Proofs

open Sys2Proof.Machine Sys2Proof.Safety

/-! ### The laws over a whole command -/

/-- What a command keeps, but for the law on the wheel targets. -/
structure Sound (s t : State) : Prop where
  memory : MemoryCanonical s → MemoryCanonical t
  lost : LostLaw s → LostLaw t
  plan : PlanLaw s → PlanLaw t
  cap : CapLaw s → CapLaw t
  blade : BladeLaw s → BladeLaw t
  contact : ContactLaw s → ContactLaw t
  settings : SettingsLaw s → SettingsLaw t
  hazard : HazardLaw s → HazardLaw t
  line : LineLaw s → LineLaw t

/-- What every command keeps. -/
structure Lawful (s t : State) : Prop extends Sound s t where
  target : TargetLaw s → TargetLaw t

theorem Sound.refl (s : State) : Sound s s where
  memory := id
  lost := id
  plan := id
  cap := id
  blade := id
  contact := id
  settings := id
  hazard := id
  line := id

theorem Sound.trans {s t u : State} (h : Sound s t) (k : Sound t u) : Sound s u where
  memory := k.memory ∘ h.memory
  lost := k.lost ∘ h.lost
  plan := k.plan ∘ h.plan
  cap := k.cap ∘ h.cap
  blade := k.blade ∘ h.blade
  contact := k.contact ∘ h.contact
  settings := k.settings ∘ h.settings
  hazard := k.hazard ∘ h.hazard
  line := k.line ∘ h.line

theorem Lawful.refl (s : State) : Lawful s s where
  toSound := .refl s
  target := id

theorem Lawful.trans {s t u : State} (h : Lawful s t) (k : Lawful t u) : Lawful s u where
  toSound := h.toSound.trans k.toSound
  target := k.target ∘ h.target

/-- The level the line has by R199. -/
theorem lineLevel_iff (n : Notices) (enable : Word) :
    n.lineLevel enable = true ↔ n.atnEnable = true ∧
      ∃ a : Source, (n.get a).pending = true ∧ (a = .trip ∨ enable.getLsbD a.rank = true) ∧
        ∀ b : Source, (n.get b).service = true → a.rank < b.rank := by
  have hall (p : Source → Bool) : (Source.all.all p = true) ↔ ∀ b, p b = true := by
    constructor
    · intro h b
      exact List.all_eq_true.1 h b (by cases b <;> decide)
    · exact fun h => List.all_eq_true.2 fun b _ => h b
  have hany (p : Source → Bool) : (Source.all.any p = true) ↔ ∃ b, p b = true := by
    constructor
    · intro h
      obtain ⟨b, _, hb⟩ := List.any_eq_true.1 h
      exact ⟨b, hb⟩
    · rintro ⟨b, hb⟩
      exact List.any_eq_true.2 ⟨b, by cases b <;> decide, hb⟩
  have houtranks (a : Source) : n.outranksService a = true ↔ ∀ b, (n.get b).service = true → a.rank < b.rank := by
    unfold Notices.outranksService
    rw [hall]
    refine forall_congr' fun b => ?_
    cases (n.get b).service <;> simp
  unfold Notices.lineLevel
  simp only [Bool.and_eq_true, hany, houtranks, Notices.signals, sourceEnabled, Bool.or_eq_true, decide_eq_true_eq,
    and_assoc]

/-- While the part runs the law on the line is that its level is the judged one. -/
theorem lineLaw_iff {s : State} (h : s.resetting = none) : LineLaw s ↔ LineJudged s := by
  unfold LineLaw LineJudged
  refine and_congr_right fun _ => ?_
  rw [show (s.notice.line = s.notice.lineLevel s.noticeEnable) ↔ _ from Bool.eq_iff_iff, lineLevel_iff]
  simp [h]

/-- A target within ±800. -/
def TargetsInRange (s : State) : Prop :=
  ∀ i : LR, -800 ≤ (s.drive.wheels.get i).target ∧ (s.drive.wheels.get i).target ≤ 800

/-- An operation of the running part is a lawful one. -/
theorem Kept.lawful {s t : State} (h : Kept s t) (hr : s.resetting = none) : Lawful s t where
  memory := h.memory
  lost := h.lost
  plan := h.plan
  cap := fun hs => by unfold CapLaw at hs ⊢; rwa [h.gov]
  blade := h.blade
  contact := h.contact
  settings := h.settings
  hazard := fun hs _ => by
    obtain ⟨hagree, harmed⟩ := hs hr
    rw [h.pins, h.lift.1, h.lift.2]
    exact ⟨hagree, fun ht => harmed (by by_contra hm; exact h.unarmed hm ht)⟩
  line := fun hs => (lineLaw_iff (h.resetting.trans hr)).2 (h.line ((lineLaw_iff hr).1 hs))
  target := fun ⟨hrange, hzero⟩ => by
    refine ⟨fun i => ?_, fun hstop => ?_⟩
    · rcases h.targets i with hi | hi
      · rw [hi]; exact hrange i
      · rw [hi]; decide
    · rcases hstop with hm | hcap
      · exact h.rest (fun hs => hzero (.inl hs)) hm
      · intro i
        rcases h.targets i with hi | hi
        · rw [hi]; exact hzero (.inr (h.gov ▸ hcap)) i
        · exact hi

/-! ### The cap (R106) -/

/-- The search for the least value goes on from a best so far: no present value, nor the best, is below what it finds. -/
theorem leastFrom_le (best : Contributor × Nat) (cs : List (Contributor × Option Nat)) :
    (leastFrom best cs).2 ≤ best.2 ∧ ∀ p ∈ cs, ∀ v, p.2 = some v → (leastFrom best cs).2 ≤ v := by
  induction cs generalizing best with
  | nil => exact ⟨Nat.le_refl _, fun p hp => absurd hp List.not_mem_nil⟩
  | cons c cs ih =>
    obtain ⟨n, value⟩ := c
    cases value with
    | none =>
      obtain ⟨hbest, hrest⟩ := ih best
      refine ⟨hbest, fun p hp v hv => ?_⟩
      rcases List.mem_cons.1 hp with rfl | hp
      · cases hv
      · exact hrest p hp v hv
    | some w =>
      obtain ⟨hbest, hrest⟩ := ih (if w < best.2 then (n, w) else best)
      have hle : (if w < best.2 then (n, w) else best).2 ≤ best.2 ∧ (if w < best.2 then (n, w) else best).2 ≤ w := by
        split
        · exact ⟨Nat.le_of_lt ‹_›, Nat.le_refl _⟩
        · exact ⟨Nat.le_refl _, Nat.le_of_not_lt ‹_›⟩
      refine ⟨hbest.trans hle.1, fun p hp v hv => ?_⟩
      rcases List.mem_cons.1 hp with rfl | hp
      · cases hv
        exact hbest.trans hle.2
      · exact hrest p hp v hv

/-- What the search finds is the best so far or a value of the list. -/
theorem leastFrom_mem (best : Contributor × Nat) (cs : List (Contributor × Option Nat)) :
    leastFrom best cs = best ∨ ((leastFrom best cs).1, some (leastFrom best cs).2) ∈ cs := by
  induction cs generalizing best with
  | nil => exact .inl rfl
  | cons c cs ih =>
    obtain ⟨n, value⟩ := c
    cases value with
    | none =>
      rcases ih best with h | h
      · exact .inl h
      · exact .inr (List.mem_cons_of_mem _ h)
    | some w =>
      rw [leastFrom]
      rcases ih (if w < best.2 then (n, w) else best) with h | h
      · rw [h]
        split
        · exact .inr (List.mem_cons_self ..)
        · exact .inl rfl
      · exact .inr (List.mem_cons_of_mem _ h)

/-- A best so far that comes before the list, in a list in table order: the value found is named by the first that holds it. -/
theorem leastFrom_first (best : Contributor × Nat) (cs : List (Contributor × Option Nat))
    (horder : (best.1 :: cs.map Prod.fst).Pairwise fun a b => a.code.toNat < b.code.toNat) :
    ∀ p ∈ (best.1, some best.2) :: cs, p.2 = some (leastFrom best cs).2 →
      (leastFrom best cs).1.code.toNat ≤ p.1.code.toNat := by
  induction cs generalizing best with
  | nil =>
    intro p hp _
    rw [List.mem_singleton.1 hp]
    exact Nat.le_refl _
  | cons c cs ih =>
    obtain ⟨n, value⟩ := c
    obtain ⟨hbefore, hrest⟩ := List.pairwise_cons.1 horder
    have hskip : (best.1 :: cs.map Prod.fst).Pairwise fun a b => a.code.toNat < b.code.toNat :=
      List.pairwise_cons.2 ⟨fun b hb => hbefore b (List.mem_cons_of_mem _ hb), (List.pairwise_cons.1 hrest).2⟩
    intro p hp hv
    cases value with
    | none =>
      rcases List.mem_cons.1 hp with rfl | hp
      · exact ih best hskip _ (List.mem_cons_self ..) hv
      · rcases List.mem_cons.1 hp with rfl | hp
        · cases hv
        · exact ih best hskip p (List.mem_cons_of_mem _ hp) hv
    | some w =>
      rw [leastFrom] at hv ⊢
      split at hv
      · rename_i hlt
        rw [if_pos hlt]
        rcases List.mem_cons.1 hp with rfl | hp
        · have hle := (leastFrom_le (n, w) cs).1
          simp only [Option.some.injEq] at hv
          simp only at hle hv
          omega
        · exact ih (n, w) hrest p hp hv
      · rename_i hge
        rw [if_neg hge]
        rcases List.mem_cons.1 hp with rfl | hp
        · exact ih best hskip _ (List.mem_cons_self ..) hv
        · rcases List.mem_cons.1 hp with rfl | hp
          · have hfirst := ih best hskip (best.1, some best.2) (List.mem_cons_self ..)
            have hle := (leastFrom_le best cs).1
            simp only [Option.some.injEq] at hv
            have heq : best.2 = (leastFrom best cs).2 := by omega
            have hcode := hbefore n (List.mem_cons_self ..)
            have hbound := hfirst (congrArg some heq)
            exact hbound.trans (Nat.le_of_lt hcode)
          · exact ih best hskip p (List.mem_cons_of_mem _ hp) hv

/-- A recomputed governor meets the law on the cap: GLOBAL_MAX is always present, and at most 800 (R106, R108). -/
theorem capLaw_governed {s t : State} {pitch roll : Byte} (h : t.gov = s.governed pitch roll) : CapLaw t := by
  obtain ⟨table, htable⟩ : ∃ c : Contributors, s.contributors (slopeOf (degrees pitch) (degrees roll)) = c := ⟨_, rfl⟩
  have hglobal : table.global = some s.globalMax := by rw [← htable]; rfl
  have hmax : s.globalMax ≤ 800 := (clampN_bounds (by decide) _).2
  obtain ⟨cs, hlist, hcs⟩ : ∃ cs, table.toList = (.global, some s.globalMax) :: cs ∧
      cs.map Prod.fst = [.slope, .blade, .sonar, .wire, .jam, .dock] := by
    refine ⟨[(.slope, table.slope), (.blade, table.blade), (.sonar, table.sonar), (.wire, table.wire), (.jam, table.jam),
      (.dock, table.dock)], ?_, rfl⟩
    unfold Contributors.toList
    rw [hglobal]
  have hleast : table.least = leastFrom (.global, s.globalMax) cs := by
    unfold Contributors.least
    rw [hlist, hglobal, leastFrom]
    simp
  obtain ⟨hbest, hrest⟩ := leastFrom_le (.global, s.globalMax) cs
  have hfirst := leastFrom_first (.global, s.globalMax) cs (by
    rw [hcs]
    show ([.global, .slope, .blade, .sonar, .wire, .jam, .dock] : List Contributor).Pairwise _
    decide)
  have hmem := leastFrom_mem (.global, s.globalMax) cs
  unfold CapLaw
  rw [h]
  simp only [State.governed, htable, hlist, hleast]
  refine ⟨hbest.trans hmax, ?_, ?_, hfirst⟩
  · rcases hmem with hmem | hmem
    · rw [hmem]
      exact List.mem_cons_self ..
    · exact List.mem_cons_of_mem _ hmem
  · intro p hp v hv
    rcases List.mem_cons.1 hp with rfl | hp
    · cases hv
      exact hbest
    · exact hrest p hp v hv

/-! ### The wheel targets (R72, R74) -/

theorem rateLimit_zero (accel : Nat) (target : Int) : rateLimit accel 0 target = 0 := rfl

/-- The rate limit goes no further than the request. -/
theorem rateLimit_bounds (accel : Nat) (request target : Int) :
    min request 0 ≤ rateLimit accel request target ∧ rateLimit accel request target ≤ max request 0 := by
  unfold rateLimit minI maxI
  (repeat' split) <;> omega

theorem clampSpeed_bounds (x : Int) : -800 ≤ clampSpeed x ∧ clampSpeed x ≤ 800 := by
  unfold clampSpeed clampI
  (repeat' split) <;> omega

theorem aim_target (accel : Nat) (request : Int) (w : WheelState) :
    (w.aim accel request).target = rateLimit accel (clampSpeed request) w.target := rfl

/-- With nothing to drive for, a pair of zeros is chosen (R72). -/
theorem choose_zero {s : State} {cap : Nat} (h : s.guard.machine ≠ .armed ∨ cap = 0) (reflex : Option Pair)
    (kind : Request) : s.choose cap reflex kind = (.zero, (0, 0)) := by
  unfold State.choose State.armed
  rcases h with h | h <;> simp [h]

/-- The targets that follow from the choice meet their law, whatever the targets before (R72). -/
theorem targetLaw_aimWheels {r w : State} (cap : Nat) (reflex : Option Pair) (kind : Request)
    (hm : w.guard.machine = r.guard.machine) (hcap : w.gov.cap = cap) :
    TargetLaw (aimWheels (r.choose cap reflex kind).1 (r.choose cap reflex kind).2 w) := by
  constructor
  · intro i
    have hrange (request target : Int) : -800 ≤ rateLimit w.accel (clampSpeed request) target ∧
        rateLimit w.accel (clampSpeed request) target ≤ 800 := by
      have hlimit := rateLimit_bounds w.accel (clampSpeed request) target
      have hclamp := clampSpeed_bounds request
      omega
    cases i <;> exact hrange _ _
  · intro hstop i
    have hzero := choose_zero (s := r) (cap := cap) (hm ▸ hcap ▸ hstop) reflex kind
    rw [hzero]
    cases i <;> rfl

/-! ### The control period (R71) -/

/-- Steps 1 to 3: the period up to the governor's recomputation. -/
def periodEnded (t : Capture) (s : State) : State :=
  let s1 := measureWheels t { s with drive := { s.drive with timer := s.drive.timer + 10 } }
  stepEnds (travelStep s1.travel s1)

/-- The travel the period counts. -/
def periodTravel (t : Capture) (s : State) : Travel :=
  (measureWheels t { s with drive := { s.drive with timer := s.drive.timer + 10 } }).travel

/-- Step 4 begins: the governor's recomputation, before TILT is judged. -/
def periodGoverned (t : Capture) (pitch roll : Byte) (s : State) : State :=
  { periodEnded t s with gov := (periodEnded t s).governed pitch roll }

/-- What step 5 chooses its targets from, and the state they are put in force in. -/
def periodChosen (v : Travel) (s : State) : ReflexOut × Request :=
  (reflexStep s.gov.cap v (requestStep s.gov.cap s).1, (requestStep s.gov.cap s).2)

/-- The state that the reflex, its end included, leaves to the choice. -/
def ReflexOut.settled (r : ReflexOut) : State := if r.ends then finishReflex r.state else r.state

theorem chooseStep_eq (v : Travel) (s : State) :
    chooseStep v s =
      let c := periodChosen v s
      aimWheels (c.1.state.choose s.gov.cap c.1.pair c.2).1 (c.1.state.choose s.gov.cap c.1.pair c.2).2 (ReflexOut.settled c.1) :=
  rfl

theorem controlPeriod_eq (t : Capture) (pitch roll : Byte) (s : State) :
    controlPeriod t pitch roll s =
      latch (judgeStall .right (judgeStall .left (motionStep (dutyStep
        (chooseStep (periodTravel t s) (judgeTilt (periodGoverned t pitch roll s))))))) := rfl

theorem kept_periodEnded (t : Capture) (s : State) : Kept s (periodEnded t s) :=
  (kept_stepEnds _).after ((kept_travelStep _ _).after ((kept_measureWheels t _).after
    (kept_drive s (d := { s.drive with timer := s.drive.timer + 10 }) fun _ => .inl rfl)))

theorem kept_settled (v : Travel) (s : State) : Kept s (ReflexOut.settled (periodChosen v s).1) := by
  have hreflex : Kept s (periodChosen v s).1.state := (kept_reflexStep _ _ _).after (kept_requestStep _ s)
  unfold ReflexOut.settled
  split
  · exact (kept_finishReflex _).after hreflex
  · exact hreflex

/-- The recomputation moves the governor alone. -/
theorem sound_periodGoverned (t : Capture) (pitch roll : Byte) (s : State) :
    Sound (periodEnded t s) (periodGoverned t pitch roll s) := { Sound.refl (periodEnded t s) with
  cap _ := capLaw_governed rfl }

/-- The choice moves the drive alone. -/
theorem sound_aimWheels (c : Choice) (p : Pair) (s : State) : Sound s (aimWheels c p s) := { Sound.refl s with }

/-- The reflex's end leaves the machine state. -/
theorem settled_machine (r : ReflexOut) : (ReflexOut.settled r).guard.machine = r.state.guard.machine := by
  unfold ReflexOut.settled
  split <;> simp

theorem kept_periodDriven (s : State) : Kept s (latch (judgeStall .right (judgeStall .left (motionStep (dutyStep s))))) :=
  (kept_latch _).after ((kept_judgeStall _ _).after ((kept_judgeStall _ _).after ((kept_motionStep _).after (kept_dutyStep s))))

theorem lawful_controlPeriod (t : Capture) (pitch roll : Byte) {s : State} (hr : s.resetting = none) :
    Lawful s (controlPeriod t pitch roll s) := by
  have hended := kept_periodEnded t s
  have htilt := kept_judgeTilt (periodGoverned t pitch roll s)
  have hsettled := kept_settled (periodTravel t s) (judgeTilt (periodGoverned t pitch roll s))
  have hended_running : (periodEnded t s).resetting = none := hended.resetting.trans hr
  have htilt_running : (judgeTilt (periodGoverned t pitch roll s)).resetting = none := htilt.resetting.trans hended_running
  rw [controlPeriod_eq, chooseStep_eq]
  refine Lawful.trans ?_ ((kept_periodDriven _).lawful (hsettled.resetting.trans htilt_running))
  refine ⟨?sound, fun _ => targetLaw_aimWheels _ _ _ (settled_machine _) (by rw [hsettled.gov])⟩
  case sound =>
    exact (hended.lawful hr).toSound.trans ((sound_periodGoverned t pitch roll s).trans
      ((htilt.lawful hended_running).toSound.trans ((hsettled.lawful htilt_running).toSound.trans (sound_aimWheels _ _ _))))

/-! ### ARM and CLEAR_TRIP (R158, R159, R168) -/

/-- An ARM is taken only from SAFE, with no lift input closed and the stop key released (R158). -/
theorem judgeArm_done {s : State} (h : s.judgeArm = .done) :
    s.guard.machine = .safe ∧ s.standsLift = false ∧ s.standsStopKey = false := by
  unfold State.judgeArm at h
  split at h
  · cases h
  · split at h
    · cases h
    · split at h
      · cases h
      · split at h
        · cases h
        · split at h
          · cases h
          · simp_all

theorem bladeLaw_setMachine_armed {s : State} (h : BladeLaw s) (hs : s.guard.machine ≠ .armed) :
    BladeLaw (setMachine .armed s) := by
  refine (kept_judgeBlade _).blade ⟨h.1, fun hd => absurd (h.2 hd).1 hs⟩

/-- ARMED is entered from SAFE with no hazard standing. -/
theorem lawful_setMachine_armed {s : State} (hr : s.resetting = none) (hm : s.guard.machine = .safe)
    (hl : s.standsLift = false) (hk : s.standsStopKey = false) : Lawful s (setMachine .armed s) where
  memory h := (kept_judgeBlade _).memory (Memory.wf_write _ _ h)
  lost h := by unfold LostLaw at h ⊢; simpa using h
  plan _ harmed := absurd (setMachine_machine .armed s) harmed
  cap h := by unfold CapLaw at h ⊢; simpa using h
  blade h := bladeLaw_setMachine_armed h (by rw [hm]; decide)
  contact h := by unfold ContactLaw at h ⊢; simpa using h
  settings h := by unfold SettingsLaw at h ⊢; simpa using h
  hazard h _ := by
    obtain ⟨hagree, _⟩ := h hr
    have hopen (i : LR) : s.guard.lift.get i = .opened := by
      refine (hagree i).1.2 ?_
      simp only [State.standsLift, Bool.or_eq_false_iff] at hl
      cases i
      · exact hl.1
      · exact hl.2
    simp only [setMachine_guard, setMachine_frame]
    exact ⟨hagree, fun _ => ⟨hk, fun i => by rw [hopen i]; decide⟩⟩
  line h := (lineLaw_iff (by simpa using hr)).2
    ((kept_judgeBlade _).line ((kept_cell s _ (by decide)).line ((lineLaw_iff hr).1 h)))
  target h := by
    obtain ⟨_, hzero⟩ := h
    have hrest := hzero (.inl (by rw [hm]; decide))
    unfold TargetLaw
    simp only [setMachine_frame]
    exact ⟨fun i => by rw [hrest i]; decide, fun _ => hrest⟩

theorem kept_armGuard (s : State) : Kept s (armGuard s) := kept_guard s rfl

theorem lawful_askArm (count : BitVec 8) {s : State} (hr : s.resetting = none) : Lawful s (askArm count s) := by
  unfold askArm
  split
  · obtain ⟨hm, hl, hk⟩ := judgeArm_done ‹_›
    have hguard := (kept_armGuard _).after (kept_applyIfStaged s)
    have harmed : Lawful s (setMachine .armed (armGuard (applyIfStaged s))) :=
      (hguard.lawful hr).trans (lawful_setMachine_armed (hguard.resetting.trans hr) (by simpa using hm)
        (by simpa [State.standsLift, hguard.pins] using hl) (by simpa [State.standsStopKey, hguard.pins] using hk))
    exact harmed.trans (((kept_answerWith _ _ _ _).after (kept_judgePinging _)).lawful (by simpa using hr))
  · exact (kept_answerWith _ _ _ s).lawful hr

/-- TRIPPED is left for SAFE with the plan IDLE and the targets 0 already. -/
theorem lawful_setMachine_safe {s : State} (hr : s.resetting = none) (hm : s.guard.machine = .tripped) :
    Lawful s (setMachine .safe s) where
  memory h := (kept_judgeBlade _).memory (Memory.wf_write _ _ h)
  lost h := by unfold LostLaw at h ⊢; simpa using h
  plan h _ := by
    rw [setMachine_plan (by decide)]
    exact h (by rw [hm]; decide)
  cap h := by unfold CapLaw at h ⊢; simpa using h
  blade h := bladeLaw_judgeBlade_off (effectiveDirective_off (.inr (show MachineState.safe ≠ .armed by decide))) h.1
  contact h := by unfold ContactLaw at h ⊢; simpa using h
  settings h := by unfold SettingsLaw at h ⊢; simpa using h
  hazard h _ := by
    obtain ⟨hagree, _⟩ := h hr
    simp only [setMachine_guard, setMachine_frame]
    exact ⟨hagree, fun hsafe => absurd hsafe (by decide)⟩
  line h := (lineLaw_iff (by simpa using hr)).2
    ((kept_judgeBlade _).line ((kept_cell s _ (by decide)).line ((lineLaw_iff hr).1 h)))
  target h := by
    obtain ⟨hrange, hzero⟩ := h
    unfold TargetLaw
    simp only [setMachine_frame]
    exact ⟨hrange, fun _ => hzero (.inl (by rw [hm]; decide))⟩

theorem lawful_askClearTrip (count : BitVec 8) {s : State} (hr : s.resetting = none) :
    Lawful s (askClearTrip count s) := by
  unfold askClearTrip
  split
  · exact (kept_answerWith _ _ _ s).lawful hr
  · split
    · exact (kept_answerWith _ _ _ s).lawful hr
    · have hm : s.guard.machine = .tripped := not_not.1 ‹_›
      have hcleared : Kept s (writeTripRecord { s with guard := { s.guard with
          trip := { s.guard.trip with cleared := true, clearTime := some s.partTime } } }) :=
        (kept_writeTripRecord _).after (kept_guard s rfl)
      exact ((hcleared.lawful hr).trans (lawful_setMachine_safe (hcleared.resetting.trans hr) (by simpa using hm))).trans
        ((kept_answerWith _ _ _ _).lawful (by simpa using hr))

/-! ### Resets and RESTART (R169, R170, R207) -/

/-- After a reset no source is pending and the line is deasserted. -/
theorem initNotices_line (atnEnable ackMode : Bool) (enable : Word) :
    (initNotices atnEnable ackMode).line = (initNotices atnEnable ackMode).lineLevel enable := by
  have hlevel : ¬ (initNotices atnEnable ackMode).lineLevel enable = true := by
    rw [lineLevel_iff]
    rintro ⟨-, a, hpending, -⟩
    cases a <;> cases hpending
  exact (Bool.not_eq_true _ ▸ hlevel).symm

theorem initNotices_details (atnEnable ackMode : Bool) (a : Source) :
    ((initNotices atnEnable ackMode).get a).details.length = if a = .plan then 3 else 1 := by cases a <;> rfl

theorem initLoops_lost {s : State} {loopMap : Four Nat} {now : Time} (h : s.loops = initLoops loopMap now) :
    LostLaw s := fun n c => by
  rw [h]
  show LostSubRecord (((loopMap.map initLoopRec).get n).coils.get c)
  rw [Four.get_map]
  exact lostSubs_lawful c

/-- The lift inputs as a reset finds them. -/
theorem initGuard_hazard {s : State} {now : Time} {bladeOff : Bool} {trip : TripRecord} {record : ResetRecord}
    (h : s.guard = initGuard s.pins now bladeOff trip record) : HazardLaw s := fun _ => by
  rw [h]
  refine ⟨fun i => ?_, fun harmed => by cases harmed⟩
  simp only [initGuard, Two.get_map]
  cases s.pins.lift.get i <;> simp [initDebounce, initDebounceTimer]

/-- What the blocks are after RESTART. -/
theorem lawful_blocksAfterRestart (count : BitVec 8) {s : State} (hr : s.resetting = none) :
    Lawful s (blocksAfterRestart count s) := { Lawful.refl s with
  lost _ := initLoops_lost rfl
  plan _ _ := ⟨rfl, rfl⟩
  blade _ := bladeLaw_of_undriven (by simp [blocksAfterRestart, Blade.afterRestart, Driven]) rfl
  contact _ := ⟨Nat.zero_le _, fun _ he => absurd he List.not_mem_nil⟩
  hazard _ := initGuard_hazard rfl
  line h := by
    obtain ⟨⟨_, _, _, hlatched, _⟩, _⟩ := h
    exact (lineLaw_iff (s := blocksAfterRestart count s) hr).2
      ⟨⟨copyInside_none _ _ _, copyInside_none _ _ _, copyInside_none _ _ _, hlatched, initNotices_details _ _⟩,
        initNotices_line _ _ _⟩
  target _ := by
    have hzero (i : LR) : ((blocksAfterRestart count s).drive.wheels.get i).target = 0 := by
      simp [blocksAfterRestart, Drive.afterRestart, WheelState.zeroed]
    exact ⟨fun i => by rw [hzero i]; decide, fun _ => hzero⟩ }

/-- Which words a RESTART rewrites: the header and the records. -/
theorem restartCells_noticeEnable (s : State)
    (hd : ∀ a, (s.notice.get a).details.length = if a = .plan then 3 else 1) :
    ∀ c ∈ restartCells s, c.1 ≠ addrNoticeEnable := by
  intro c hc
  simp only [restartCells, List.mem_append] at hc
  have hrecord {a : Nat} {ws : List Word} (ha : 0x280 ≤ a) (hc : c ∈ cellsFrom a ws) : c.1 ≠ addrNoticeEnable :=
    outside_noticeEnable (fun _ h => ha.trans (cellsFrom_bounds h).1) c hc
  rcases hc with ((((((hc | hc) | hc) | hc) | hc) | hc) | hc)
  · fin_cases hc <;> simp [addrMachineState, addrFaults, addrNoticeEnable]
  · have := cellsFrom_bounds hc
    simp only [addrResetRecord, List.length_cons, List.length_nil] at this
    simp only [addrNoticeEnable]
    omega
  · obtain ⟨a, _, hc⟩ := List.mem_flatMap.1 hc
    exact sourceCells_noticeEnable (hd a) c hc
  · exact hrecord (by decide) hc
  · exact hrecord (by decide) hc
  · exact hrecord (by decide) hc
  · exact hrecord (by decide) hc

theorem lawful_takeRestart (count : BitVec 8) {s : State} (hr : s.resetting = none) :
    Lawful s (takeRestart count s) := by
  have hended := kept_endForRestart s
  have hended_running := hended.resetting.trans hr
  have hcells : Kept (blocksAfterRestart count (endForRestart s))
      ((blocksAfterRestart count (endForRestart s)).putAll (restartCells (blocksAfterRestart count (endForRestart s)))) :=
    kept_cells _ (restartCells_noticeEnable _ (initNotices_details _ _))
  exact ((hended.lawful hr).trans (lawful_blocksAfterRestart count hended_running)).trans
    (((kept_startAll _).after hcells).lawful hended_running)

end Sys2Proof.Proofs
end

section
/-! SUPPORT. Every step keeps every law: an event of the running part, the requests, the edges of the lift inputs and the
stop key, the resets, and the proofs of the laws' statements. -/

namespace Sys2Proof.Proofs

open Sys2Proof.Machine Sys2Proof.Safety

/-! ### The laws over a whole step -/

/-- What every step keeps. -/
structure Stepped (s t : State) : Prop extends Lawful s t where
  trip : TripLaw s t

theorem Stepped.refl (s : State) : Stepped s s where
  toLawful := .refl s
  trip _ _ := ⟨rfl, BitVec.and_self⟩

theorem Kept.stepped {s t : State} (h : Kept s t) (hr : s.resetting = none) : Stepped s t where
  toLawful := h.lawful hr
  trip hs _ := (h.trip hs).2

/-- Operations of the running part before and after, which leave the Guard, change nothing of the laws. -/
theorem Stepped.between {s a b t : State} (hr : s.resetting = none) (hb : b.resetting = none) (hsa : Kept s a)
    (h : Stepped a b) (hbt : Kept b t) (hga : a.guard = s.guard) (hgt : t.guard = b.guard) : Stepped s t where
  toLawful := (hsa.lawful hr).trans (h.toLawful.trans (hbt.lawful hb))
  trip := by
    have := h.trip
    unfold TripLaw at this ⊢
    rwa [hgt, ← hga]

theorem stepped_whenRunning {s : State} {f : State → State} (h : ∀ a, a.resetting = none → Stepped a (f a)) :
    Stepped s (s.whenRunning f) := by
  unfold State.whenRunning
  split
  · exact h s ‹_›
  · exact .refl s

theorem kept_causes (s : State) (causes : Causes) : Kept s { s with causes := causes } := kept_unread s _ _ _ _ _ causes

theorem stepped_noting {s : State} {f : State → State} (hr : s.resetting = none)
    (h : ∀ a, a.resetting = none → Stepped a (f a)) (hf : ∀ a, (f a).resetting = a.resetting) : Stepped s (s.noting f) :=
  Stepped.between (b := f { s with causes := Causes.none }) hr ((hf _).trans hr) (kept_causes s Causes.none) (h _ hr)
    (kept_causes _ s.causes) rfl rfl

theorem Stepped.mirrored {s t : State} (h : Stepped s t) (hr : s.resetting = none) (ht : t.resetting = none) (window : Bool)
    (a : State) : Stepped s (startMirrors window a t) :=
  Stepped.between hr ht (.refl s) h (kept_startMirrors window a t) rfl (by simp)

theorem stepped_event {s : State} {f : State → State} (h : ∀ a, a.resetting = none → Stepped a (f a))
    (hf : ∀ a, (f a).resetting = a.resetting) : Stepped s (s.event f) :=
  stepped_whenRunning fun _ hr =>
    stepped_noting hr (fun _ hb => (h _ hb).mirrored hb ((hf _).trans hb) false _) fun _ => by simp [hf]

theorem Kept.steppedEvent {s : State} {f : State → State} (h : ∀ a, Kept a (f a)) : Stepped s (s.event f) :=
  stepped_whenRunning fun _ hr => Kept.stepped (kept_noting fun b => (h b).trans (kept_startMirrors _ _ _)) hr

/-! ### The control period -/

theorem tripGrows_driven (c : Choice) (p : Pair) {s : State} (h : s.guard.machine = .tripped) :
    TripGrows s.guard (latch (judgeStall .right (judgeStall .left (motionStep (dutyStep (aimWheels c p s)))))).guard :=
  ((kept_periodDriven (aimWheels c p s)).trip h).2

theorem stepped_controlPeriod (t : Capture) (pitch roll : Byte) {s : State} (hr : s.resetting = none) :
    Stepped s (controlPeriod t pitch roll s) where
  toLawful := lawful_controlPeriod t pitch roll hr
  trip hs _ := by
    have hended := (kept_periodEnded t s).trip hs
    have htilt := (kept_judgeTilt (periodGoverned t pitch roll s)).trip hended.1
    have hsettled := (kept_settled (periodTravel t s) (judgeTilt (periodGoverned t pitch roll s))).trip htilt.1
    rw [controlPeriod_eq, chooseStep_eq]
    exact hended.2.trans (htilt.2.trans (hsettled.2.trans (tripGrows_driven _ _ hsettled.1)))

theorem stepped_controlExpiry (t : Capture) (pitch roll : Byte) {s : State} (hr : s.resetting = none) :
    Stepped s (controlExpiry t pitch roll s) := by
  unfold controlExpiry
  split
  · exact stepped_controlPeriod t pitch roll hr
  · exact .refl s

/-! ### Requests -/

/-- Which causes a machine found TRIPPED afterwards has is told by an operation that leaves TRIPPED alone. -/
theorem Lawful.stepped_of_left {s t : State} (h : Lawful s t)
    (ht : s.guard.machine = .tripped → t.guard.machine ≠ .tripped) : Stepped s t where
  toLawful := h
  trip hs hm := absurd hm (ht hs)

theorem stepped_askArm (count : BitVec 8) {s : State} (hr : s.resetting = none) : Stepped s (askArm count s) where
  toLawful := lawful_askArm count hr
  trip hs := by
    have hrefused : s.judgeArm ≠ .done := fun h => by
      have := (judgeArm_done h).1
      rw [hs] at this
      cases this
    rw [askArm, if_neg hrefused]
    exact (kept_answerWith _ _ _ s).stepped hr |>.trip hs

theorem stepped_askClearTrip (count : BitVec 8) {s : State} (hr : s.resetting = none) :
    Stepped s (askClearTrip count s) where
  toLawful := lawful_askClearTrip count hr
  trip hs ht := by
    unfold askClearTrip at ht ⊢
    split
    · exact absurd hs ‹_›
    · split
      · exact ((kept_answerWith _ _ _ s).stepped hr).trip hs (by simpa using hs)
      · rename_i hleft hclear
        rw [if_neg hleft, if_neg hclear] at ht
        simp [takeClearTrip] at ht

theorem stepped_takeRestart (count : BitVec 8) {s : State} (hr : s.resetting = none) : Stepped s (takeRestart count s) :=
  (lawful_takeRestart count hr).stepped_of_left fun _ => by
    simp [takeRestart, blocksAfterRestart, initGuard, State.putAll]

theorem stepped_askOwner (code : Word) (count : BitVec 8) {s : State} (hr : s.resetting = none) :
    Stepped s (askOwner code count s) := by
  unfold askOwner
  split
  · exact stepped_askArm count hr
  · exact (kept_askDisarm count s).stepped hr
  · exact stepped_askClearTrip count hr
  · exact (kept_askPlanStart count s).stepped hr
  · exact ((kept_answerWith _ _ _ _).after (kept_takePlanStop s)).stepped hr
  · exact (kept_askSetPose count s).stepped hr
  · exact (kept_askClearContacts count s).stepped hr
  · exact (kept_askBladeUnlock count s).stepped hr
  · exact (kept_askPark count s).stepped hr
  · exact (kept_askWake count s).stepped hr
  · exact (kept_askSelfCheck count s).stepped hr
  · exact stepped_takeRestart count hr
  · exact (kept_answerWith _ _ _ s).stepped hr

theorem stepped_arrival (code : Word) {s : State} (hr : s.resetting = none) : Stepped s (arrival code s) := by
  have hjudged : Stepped (takeArrival code s) (arrival code s) := by
    unfold arrival judgeRequest
    dsimp only
    split
    · exact (kept_answerWith _ _ _ _).stepped hr
    · split
      · exact (kept_answerWith _ _ _ _).stepped hr
      · exact stepped_askOwner code _ hr
  exact Stepped.between hr (by simpa using hr) (kept_takeArrival code s) hjudged (.refl _) rfl rfl

theorem stepped_requestEvent (s : State) (code : Word) : Stepped s (s.requestEvent code) := by
  refine stepped_whenRunning fun a hr => stepped_noting hr (fun b hb => ?_) fun b => ?_
  · split
    · exact stepped_arrival code hb
    · exact (stepped_arrival code hb).mirrored hb (by simpa using hb) false _
  · split <;> simp

theorem stepped_hostWriteEvent (s : State) (a : Nat) (v : Word) : Stepped s (s.hostWriteEvent a v) := by
  unfold State.hostWriteEvent
  split
  · exact stepped_requestEvent s v
  · exact Kept.steppedEvent (kept_hostWrite a v)

/-! ### The edges of the inputs (R137, R162) -/

/-- A hazard found does not leave the machine ARMED. -/
theorem find_unarmed (c : TripCause) (s : State) : (find c s).guard.machine ≠ .armed := by
  unfold find
  split
  · simp [trip, leaveArmed_guard, writeTripRecord]
  · rename_i h
    simp [addFurther, writeTripRecord, h, apply_ite State.guard, apply_ite Guard.machine]
  all_goals (rename_i h; rw [h]; decide)

/-- During a reset the law on hazards asks nothing. -/
theorem stepped_pins_resetting {s : State} {r : Resetting} (h : s.resetting = some r) (pins : Pins) :
    Stepped s { s with pins := pins } := { Stepped.refl s with
  hazard _ hnone := absurd (h.symm.trans hnone) (by simp) }

/-- The level of a bump input is no law's concern. -/
theorem stepped_bumpPin (i : LR) (e : Edge) (s : State) : Stepped s (setBumpPin i e s) := { Stepped.refl s with }

theorem stepped_bumpEdge (i : LR) (e : Edge) (s : State) : Stepped s ((setBumpPin i e s).event (bumpEdge i e)) := by
  have hevent : Stepped (setBumpPin i e s) ((setBumpPin i e s).event (bumpEdge i e)) :=
    Kept.steppedEvent (kept_bumpEdge i e)
  exact { toLawful := (stepped_bumpPin i e s).toLawful.trans hevent.toLawful, trip := hevent.trip }

/-- A lift input in accord with its level (R162). -/
def LiftAgrees (d : Debounce) (timer : Option Time) (level : Bool) : Prop :=
  (d = .opened ↔ level = false) ∧ (timer.isSome = true → d = .closing)

/-- An operation that moves one lift input at most, into accord with its level, and leaves an ARMED machine only an input
that does not stand, keeps the law on hazards. -/
theorem hazardLaw_of_input {s t : State} (hr : s.resetting = none) (i : LR)
    (hother : ∀ j, j ≠ i → t.guard.lift.get j = s.guard.lift.get j ∧ t.guard.liftTimer.get j = s.guard.liftTimer.get j ∧
      t.pins.lift.get j = s.pins.lift.get j)
    (h : HazardLaw s → LiftAgrees (t.guard.lift.get i) (t.guard.liftTimer.get i) (t.pins.lift.get i))
    (harmed : t.guard.machine = .armed → s.guard.machine = .armed ∧ t.pins.stopKey = s.pins.stopKey ∧
      (t.guard.lift.get i = s.guard.lift.get i ∨ t.guard.lift.get i ≠ .closed)) : HazardLaw s → HazardLaw t := by
  intro hs _
  obtain ⟨hagree, hstand⟩ := hs hr
  refine ⟨fun j => ?_, fun ht => ?_⟩
  · by_cases hj : j = i
    · exact hj ▸ h hs
    · obtain ⟨hlift, htimer, hpin⟩ := hother j hj
      rw [hlift, htimer, hpin]
      exact hagree j
  · obtain ⟨hm, hkey, hclosed⟩ := harmed ht
    obtain ⟨hreleased, hopen⟩ := hstand hm
    refine ⟨hkey.trans hreleased, fun j => ?_⟩
    by_cases hj : j = i
    · rcases hclosed with hclosed | hclosed
      · rw [hj, hclosed]; exact hopen i
      · rw [hj]; exact hclosed
    · rw [(hother j hj).1]
      exact hopen j

/-- The accord of one input, where the part runs. -/
theorem hazardLaw_agrees {s : State} (h : HazardLaw s) (hr : s.resetting = none) (i : LR) :
    LiftAgrees (s.guard.lift.get i) (s.guard.liftTimer.get i) (s.pins.lift.get i) := (h hr).1 i

/-- What an edge of a lift input leaves at it. -/
theorem liftEdge_agrees (i : LR) (e : Edge) {s : State}
    (h : LiftAgrees (s.guard.lift.get i) (s.guard.liftTimer.get i) (s.pins.lift.get i)) :
    LiftAgrees ((liftEdge i e (setLiftPin i e s)).guard.lift.get i) ((liftEdge i e (setLiftPin i e s)).guard.liftTimer.get i)
      ((liftEdge i e (setLiftPin i e s)).pins.lift.get i) := by
  obtain ⟨-, htimer⟩ := h
  cases e <;> cases hd : s.guard.lift.get i <;>
    simp_all [liftEdge, setLiftPin, setLift, LiftAgrees, edgeLevel]

/-- An edge never finds the input CLOSED. -/
theorem liftEdge_lift (i : LR) (e : Edge) (s : State) :
    (liftEdge i e (setLiftPin i e s)).guard.lift.get i = s.guard.lift.get i ∨
      (liftEdge i e (setLiftPin i e s)).guard.lift.get i ≠ .closed := by
  cases e <;> cases hd : s.guard.lift.get i <;> simp [liftEdge, setLiftPin, setLift, hd]

theorem liftEdge_other (i : LR) (e : Edge) (s : State) (j : LR) (hj : j ≠ i) :
    (liftEdge i e (setLiftPin i e s)).guard.lift.get j = s.guard.lift.get j ∧
      (liftEdge i e (setLiftPin i e s)).guard.liftTimer.get j = s.guard.liftTimer.get j ∧
      (liftEdge i e (setLiftPin i e s)).pins.lift.get j = s.pins.lift.get j := by
  cases e <;> cases hd : s.guard.lift.get i <;>
    simp [liftEdge, setLiftPin, setLift, hd, Two.get_set_other _ _ hj]

/-- An edge of a lift input moves the input alone. -/
theorem liftEdge_eq (i : LR) (e : Edge) (s : State) : ∃ lift timer, liftEdge i e (setLiftPin i e s) =
    { s with
      guard := { s.guard with lift := lift, liftTimer := timer }
      pins := { s.pins with lift := s.pins.lift.set i (edgeLevel e) } } := by
  unfold liftEdge
  split <;> exact ⟨_, _, rfl⟩

/-- An event after a change of the input levels, which are no concern of the mirrors. -/
theorem stepped_pinEvent {s : State} {pins : Pins} {f : State → State}
    (h : s.resetting = none → Stepped { s with causes := Causes.none } (f { s with pins := pins, causes := Causes.none }))
    (hf : ∀ a, (f a).resetting = a.resetting) : Stepped s ({ s with pins := pins }.event f) := by
  obtain hr | ⟨r, hr⟩ := Option.eq_none_or_eq_some s.resetting
  case inr =>
    rw [event_resetting (s := { s with pins := pins }) hr]
    exact stepped_pins_resetting hr pins
  case inl =>
    rw [event_running (s := { s with pins := pins }) hr]
    have hmirrored := (h hr).mirrored hr ((hf _).trans hr) false { s with pins := pins, causes := Causes.none }
    exact Stepped.between hr ((by simp [hf, hr])) (kept_causes s Causes.none) hmirrored (kept_causes _ s.causes) rfl rfl

theorem stepped_liftEdge (i : LR) (e : Edge) (s : State) : Stepped s ((setLiftPin i e s).event (liftEdge i e)) := by
  refine stepped_pinEvent (fun hr => ?_) fun a => by unfold liftEdge; split <;> rfl
  have hagrees := fun h : HazardLaw { s with causes := Causes.none } => liftEdge_agrees i e (hazardLaw_agrees h hr i)
  obtain ⟨lift, timer, heq⟩ := liftEdge_eq i e { s with causes := Causes.none }
  have hhazard := hazardLaw_of_input (s := { s with causes := Causes.none })
    (t := liftEdge i e (setLiftPin i e { s with causes := Causes.none })) hr i (liftEdge_other i e _) hagrees
    (fun h => ⟨by rw [heq] at h; exact h, by rw [heq], liftEdge_lift i e _⟩)
  show Stepped _ (liftEdge i e (setLiftPin i e { s with causes := Causes.none }))
  rw [heq] at hhazard ⊢
  exact { Stepped.refl { s with causes := Causes.none } with hazard := hhazard }

theorem stepped_liftExpiry (i : LR) {s : State} (hr : s.resetting = none) : Stepped s (liftExpiry i s) := by
  unfold liftExpiry
  split
  · have hfound := (kept_find .lift (setLift i .closed none s))
    have hhazard : HazardLaw s → HazardLaw (find .lift (setLift i .closed none s)) := by
      refine hazardLaw_of_input hr i (fun j hj => ?_) (fun hs => ?_) fun h => absurd h (find_unarmed _ _)
      · rw [hfound.lift.1, hfound.lift.2, hfound.pins]
        simp [setLift, Two.get_set_other _ _ hj]
      · obtain ⟨hopened, htimer⟩ := hazardLaw_agrees hs hr i
        rw [hfound.lift.1, hfound.lift.2, hfound.pins]
        have hclosing : s.guard.lift.get i = .closing := by
          refine htimer ?_
          cases ht : s.guard.liftTimer.get i with
          | none => simp_all [dueOpt]
          | some e => rfl
        simpa [setLift, LiftAgrees, hclosing] using hopened
    have hlawful := hfound.stepped (s := setLift i .closed none s) hr
    exact { hlawful with hazard := hhazard }
  · exact .refl s

theorem stepped_stopEdge (e : Edge) (s : State) : Stepped s ((setStopPin e s).event (stopEdge e)) := by
  refine stepped_pinEvent (fun hr => ?_) fun a => by cases e <;> simp [stopEdge]
  cases e with
  | closing =>
    have hfound := kept_find .stopKey (setStopPin .closing { s with causes := Causes.none })
    have hstepped := hfound.stepped hr
    refine { hstepped with hazard := fun hs _ => ⟨fun i => ?_, fun h => absurd h (find_unarmed _ _)⟩ }
    exact hfound.lift.1 ▸ hfound.lift.2 ▸ hfound.pins ▸ (hazardLaw_agrees hs hr i)
  | opening => exact { Stepped.refl { s with causes := Causes.none } with
      hazard := fun hs _ => ⟨fun i => hazardLaw_agrees hs hr i, fun h => ⟨rfl, ((hs hr).2 h).2⟩⟩ }

end Sys2Proof.Proofs
end

section
/-! SUPPORT. Every step keeps every law: the resets, the assembly over all commands, and the proofs of the laws' statements. -/

namespace Sys2Proof.Proofs

open Sys2Proof.Machine Sys2Proof.Safety

/-! ### A reset begins (R169) -/

theorem stepped_beginReset (cause : ResetCause) (s : State) : Stepped s (beginReset cause s) := { Stepped.refl s with
  hazard _ hnone := absurd hnone (by simp [beginReset])
  line := fun ⟨⟨hs, hl, hc, hk, hd⟩, _⟩ =>
    ⟨⟨hs, hl, hc, hk, fun a => by have := hd a; cases a <;> exact this⟩, by simp [beginReset]⟩ }

theorem stepped_beginUnlessResetting (cause : ResetCause) (s : State) : Stepped s (beginUnlessResetting cause s) := by
  unfold beginUnlessResetting
  split
  · exact stepped_beginReset cause s
  · exact .refl s

/-! ### The memory at a reset's end (R207) -/

/-- Cells in rising address order, the zero ones left out, are a memory in its canonical form. -/
theorem wf_filter_of_rising {cells : List (Nat × Word)} (h : cells.Pairwise (fun c d => c.1 < d.1)) :
    Memory.wf (cells.filter (fun c => decide (c.2 ≠ 0))) = true := by
  induction cells with
  | nil => rfl
  | cons c cells ih =>
    obtain ⟨hfirst, hrest⟩ := List.pairwise_cons.1 h
    rw [List.filter_cons]
    split
    · exact Memory.wf_cons (of_decide_eq_true ‹_›) (fun d hd => hfirst d (List.mem_filter.1 hd).1) (ih hrest)
    · exact ih hrest

theorem initSnapshotCells_spread (blade : Blade) (contact : Contact) (guard : Guard) :
    Spread 0x101 0x12E (initSnapshotCells blade contact guard) := snapshotCells_spread rfl _ _ _ _ _ _

theorem initLoopCells_spread (check : Check) : Spread 0x181 0x1F4 (initLoopCells check) := loopCells_spread _ _

/-- The initialisation's cells rise, below the slots. -/
theorem initCells_spread (check : Check) (blade : Blade) (contact : Contact) (guard : Guard) :
    Spread 0 0x2EE (initCells check blade contact guard) := by
  have hheader : Spread 0 0x005 [(0x000, Config.identWord), (0x001, Config.layoutVersion),
      (addrMachineState, guard.machine.code)] := by
    simp [Spread, addrMachineState]
  have hreset : Spread 0x005 0x009 (resetRecordCells guard.resetRecord) := spread_of_length (n := 4) rfl
  have hdetails : Spread 0x020 0x029 (cellsFrom addrDetails (List.replicate 9 absentWord)) := spread_of_length (n := 9) rfl
  have hlive : Spread 0x060 0x065 initLiveCells := spread_of_length (n := 5) rfl
  have hstaged : Spread 0x080 0x0A2 (cellsFrom addrStaged (settingDefaults.map wordN)) := spread_of_length (n := 34) rfl
  have happlied : Spread 0x0C0 0x0E2 (cellsFrom addrApplied (settingDefaults.map wordN)) := spread_of_length (n := 34) rfl
  have htrip : Spread 0x280 0x28E (tripCells guard.trip) :=
    spread_of_length (n := 14) (by simp [words32, words32I])
  have hblade : Spread 0x2A0 0x2A8 (bladeCells blade) := spread_of_length (n := 8) (by simp)
  have hdock : Spread 0x2C0 0x2CD (dockCells (initDock 0 initDockRecord)) := spread_of_length (n := 13) (by simp)
  have hcheck : Spread 0x2E0 0x2EE (checkCells check) :=
    spread_of_length (n := 14) (by simp [words32, checkCoilWords])
  have hopen (m : Mirror) : Spread (mirrorOpen m) (mirrorOpen m + 1) [(mirrorOpen m, (1 : Word))] := spread_singleton _ _
  have hsettings : Spread 0 0x0E2 _ := ((((hheader.append hreset).append hdetails).append hlive).append hstaged).append happlied
  have hmirrors : Spread 0 0x260 _ :=
    (((((hsettings.append (hopen .snapshot)).append (initSnapshotCells_spread blade contact guard)).append
      (hopen .loopTable)).append (initLoopCells_spread check)).append (hopen .contactList)).append (contactCells_spread [])
  exact (((hmirrors.append htrip).append hblade).append hdock).append hcheck

/-- The memory at a reset's end is canonical where the host scratch area it keeps is. -/
theorem initMemory_wf (check : Check) (blade : Blade) (contact : Contact) (guard : Guard) {scratch : Memory}
    (h : Memory.wf scratch = true) (hs : ∀ c ∈ scratch, addrScratch ≤ c.1) :
    Memory.wf (initMemory check blade contact guard scratch) = true := by
  obtain ⟨hrising, hbounds⟩ := initCells_spread check blade contact guard
  refine Memory.wf_append (wf_filter_of_rising hrising) h fun c hc d hd => ?_
  have hc := (hbounds c (List.mem_filter.1 hc).1).2
  have hd := hs d hd
  simp only [addrScratch] at hd
  omega

theorem areaOf_scratch {a : Nat} (h : areaOf a = .scratch) : addrScratch ≤ a := by
  unfold areaOf at h
  grind [addrScratch]

theorem scratchOf_ge (m : Memory) : ∀ c ∈ scratchOf m, addrScratch ≤ c.1 := fun _ hc =>
  areaOf_scratch (of_decide_eq_true (List.mem_filter.1 hc).2)

/-! ### The state at a reset's end (R169, R207) -/

section Initial

variable (cause : ResetCause) (record : ResetRecord) (pins : Pins) (check : Check) (scratch : Memory)
  (pending : List Instr)

theorem initial_lost : LostLaw (State.initial cause record pins check scratch pending) := initLoops_lost rfl

theorem initial_plan : PlanLaw (State.initial cause record pins check scratch pending) := fun _ => ⟨rfl, rfl⟩

theorem initial_target : TargetLaw (State.initial cause record pins check scratch pending) := by
  have hzero (i : LR) :
      ((State.initial cause record pins check scratch pending).drive.wheels.get i).target = 0 := by cases i <;> rfl
  exact ⟨fun i => by rw [hzero i]; decide, fun _ => hzero⟩

theorem initial_cap : CapLaw (State.initial cause record pins check scratch pending) := by
  have hgov : (State.initial cause record pins check scratch pending).gov = initGovernor := rfl
  unfold CapLaw
  rw [hgov]
  decide

theorem initial_blade : BladeLaw (State.initial cause record pins check scratch pending) :=
  bladeLaw_of_undriven (show ¬ Driven (initBlade cause).state by
    cases cause <;> simp [Driven, initBlade, initBladePower, initBladeBraking]) (by cases cause <;> rfl)

theorem initial_contact : ContactLaw (State.initial cause record pins check scratch pending) :=
  ⟨Nat.zero_le _, fun _ he => absurd he List.not_mem_nil⟩

theorem initial_settings : SettingsLaw (State.initial cause record pins check scratch pending) := by
  have happlied : (State.initial cause record pins check scratch pending).plan.applied = Settings.default := rfl
  unfold SettingsLaw
  rw [happlied]
  decide

theorem initial_hazard : HazardLaw (State.initial cause record pins check scratch pending) := initGuard_hazard rfl

theorem initial_line : LineLaw (State.initial cause record pins check scratch pending) := by
  refine (lineLaw_iff rfl).2 ⟨⟨?_, ?_, ?_, rfl, initNotices_details _ _⟩, initNotices_line _ _ _⟩
  · refine copyInside_of_writing rfl fun c hc => ?_
    have := (initSnapshotCells_spread _ _ _).2 c hc
    omega
  · refine copyInside_of_writing rfl fun c hc => ?_
    have := (loopCells_spread _ _).2 c hc
    omega
  · refine copyInside_of_writing rfl fun c hc => ?_
    have := (contactCells_spread []).2 c hc
    omega

end Initial

/-- A reset's end begins the laws anew; the memory stays canonical because the scratch area it keeps was. -/
theorem stepped_endReset (s : State) : Stepped s (endReset s) := by
  unfold endReset
  split
  · exact .refl s
  · exact {
      memory := fun h => by
        refine initMemory_wf _ _ _ _ ?_ ?_
        · unfold State.scratchAtEnd
          split
          · rfl
          · exact Memory.wf_filter _ h
        · unfold State.scratchAtEnd
          split
          · exact fun _ hc => absurd hc List.not_mem_nil
          · exact scratchOf_ge _
      lost := fun _ => initial_lost _ _ _ _ _ _
      plan := fun _ => initial_plan _ _ _ _ _ _
      cap := fun _ => initial_cap _ _ _ _ _ _
      blade := fun _ => initial_blade _ _ _ _ _ _
      contact := fun _ => initial_contact _ _ _ _ _ _
      settings := fun _ => initial_settings _ _ _ _ _ _
      hazard := fun _ => initial_hazard _ _ _ _ _ _
      line := fun _ => initial_line _ _ _ _ _ _
      target := fun _ => initial_target _ _ _ _ _ _
      trip := fun _ h => by cases h }

/-! ### Every command -/

theorem kept_atTime (s : State) (t : Capture) : Kept s (s.atTime t) := kept_unread s t _ _ _ _ _

/-- An event of a command that brings its capture time. -/
theorem Kept.steppedTimed {s : State} {t : Capture} {f : State → State → State} (h : ∀ a b, Kept b (f a b)) :
    Stepped s (s.event fun a => f a (a.atTime t)) :=
  Kept.steppedEvent fun a => (h a _).after (kept_atTime a t)

/-- A read of ATTENTION during a reset drives the data lines alone (R186). -/
theorem stepped_attentionAccess (s : State) : Stepped s (attentionAccess s) := by
  obtain hr | ⟨r, hr⟩ := Option.eq_none_or_eq_some s.resetting
  · exact (kept_attentionAccess s).stepped hr
  · have hdeaf : readEffect 0xFFC s = s := by rw [readEffect, hr]
    rw [attentionAccess, hostReadEvent, hdeaf]
    exact { Stepped.refl s with }

theorem exec_stepped {i : Instr} {s t : State} (h : exec i s = .next t) : Stepped s t := by
  cases i <;> cases h
  case power => exact stepped_beginReset _ s
  case pin => exact stepped_beginUnlessResetting _ s
  case strobe => exact stepped_beginUnlessResetting _ s
  case resetEnd => exact stepped_endReset s
  case comparatorLeadingEdge coil t => exact Kept.steppedTimed fun _ => kept_leadingAt coil t
  case comparatorTrailingEdge coil t peak => exact Kept.steppedTimed fun _ => kept_trailingAt coil t peak
  case polaritySample coil t level =>
    exact Kept.steppedTimed (f := fun a => setChannel coil ((a.recv.channels.get coil).samplePoint t (a.heardLevel t level)))
      fun _ => kept_setChannel coil _
  case overLengthExpiry coil t => exact Kept.steppedTimed fun _ => kept_overLengthAt coil t
  case switchingEdge output t => exact Kept.steppedTimed fun _ => kept_switchingAt output t
  case blankingEnd t => exact Kept.steppedTimed fun _ => kept_settleInterval t
  case gapTimerExpiry coil t =>
    exact Kept.steppedTimed (f := fun a => setChannel coil ((a.recv.channels.get coil).gapEnd t)) fun _ => kept_setChannel coil _
  case checkInterval => exact Kept.steppedEvent kept_beginInterval
  case checkEnd => exact Kept.steppedEvent kept_checkEnd
  case windowExpiry => exact stepped_whenRunning fun _ hr => (kept_noting kept_windowEvent).stepped hr
  case controlPeriod t pitch roll =>
    refine stepped_event (fun a hr => ?_) fun a => by unfold controlExpiry; split <;> simp [State.atTime]
    exact Stepped.between hr (by unfold controlExpiry; split <;> simpa using hr) (kept_atTime a t)
      (stepped_controlExpiry t pitch roll hr) (.refl _) rfl rfl
  case encoderPulse wheel t => exact Kept.steppedTimed fun _ => kept_encoderPulse wheel t
  case waitingCheck => exact Kept.steppedEvent kept_waitingCheck
  case holdTimerExpiry => exact Kept.steppedEvent kept_holdExpiry
  case bladePeriod t => exact Kept.steppedTimed fun _ => kept_bladeExpiry t
  case hallPulse t => exact Kept.steppedTimed fun _ => kept_hallPulse t
  case brakeSlow => exact Kept.steppedEvent kept_brakeExpiry
  case waitTimerExpiry => exact Kept.steppedEvent kept_waitExpiry
  case bumpEdge side edge => exact stepped_bumpEdge side edge s
  case bumpDebounceExpiry side => exact Kept.steppedEvent (kept_bumpExpiry side)
  case pingTimerExpiry => exact Kept.steppedEvent kept_pingExpiry
  case echoEdge sensor t => exact Kept.steppedTimed fun _ => kept_echoEdge sensor t
  case listenTimeout sensor t => exact Kept.steppedTimed fun _ => kept_listenTimeout sensor t
  case liftEdge input edge => exact stepped_liftEdge input edge s
  case liftDebounceExpiry input =>
    exact stepped_event (fun _ => stepped_liftExpiry input) fun a => by unfold liftExpiry; split <;> simp [setLift]
  case stopKeyEdge edge => exact stepped_stopEdge edge s
  case noSignalTimerExpiry => exact Kept.steppedEvent kept_noSignalExpiry
  case silenceTimerExpiry => exact Kept.steppedEvent kept_silenceExpiry
  case contactSample voltage => exact Kept.steppedEvent (kept_sampleExpiry voltage)
  case unknownRequest code => exact stepped_hostWriteEvent s _ code
  case heartbeatWrite value => exact Kept.steppedEvent (kept_heartbeat value)
  case hostWrite addr value => exact stepped_hostWriteEvent s _ value
  case attentionAck => exact stepped_attentionAccess s
  case attentionPeek => exact stepped_attentionAccess s
  case serviceEnd => exact Kept.steppedEvent kept_endService
  case serviceClear source => exact Kept.steppedEvent (kept_serviceNumber source)
  case portctlWrite value => exact Kept.steppedEvent (kept_writePortctl value)
  case snapshotTimerExpiry => exact stepped_whenRunning fun a hr => (kept_snapshotExpiry a).stepped hr
  case refreshEnd mirror => exact stepped_whenRunning fun a hr => (kept_endRefresh mirror a).stepped hr
  case partTimeTick => exact stepped_whenRunning fun a hr => (kept_tick a).stepped hr
  case triggerPulseEnd sensor t => exact Kept.steppedTimed fun _ => kept_triggerEnd sensor t
  all_goals exact stepped_requestEvent s _

/-- The queue is no law's concern. -/
theorem stepped_pending (s : State) (pending : List Instr) : Stepped s { s with pending := pending } := { Stepped.refl s with }

theorem step_stepped {s t : State} (h : step s = .next t) : Stepped s t := by
  unfold step at h
  split at h
  · cases h
    exact stepped_whenRunning fun a hr => (kept_microsecond a).stepped hr
  · rename_i rest _
    have hexec := exec_stepped h
    exact { toLawful := (stepped_pending s rest).toLawful.trans hexec.toLawful, trip := hexec.trip }

/-! ### The statements -/

/-- Settles O49, from the laws every step keeps. -/
theorem stepKeepsMemoryCanonical : Obligations.StepKeepsMemoryCanonical := fun _ _ h => (step_stepped h).memory

/-- Settles O50, from the laws every step keeps. -/
theorem stepKeepsLostLaw : Obligations.StepKeepsLostLaw := fun _ _ h => (step_stepped h).lost

/-- Settles O51, from the laws every step keeps. -/
theorem stepKeepsPlanLaw : Obligations.StepKeepsPlanLaw := fun _ _ h => (step_stepped h).plan

/-- Settles O52, from the laws every step keeps; the control period chooses its targets afresh. -/
theorem stepKeepsTargetLaw : Obligations.StepKeepsTargetLaw := fun _ _ h => (step_stepped h).target

/-- Settles O53, from the laws every step keeps; the control period recomputes the cap. -/
theorem stepKeepsCapLaw : Obligations.StepKeepsCapLaw := fun _ _ h => (step_stepped h).cap

/-- Settles O54, from the laws every step keeps. -/
theorem stepKeepsBladeLaw : Obligations.StepKeepsBladeLaw := fun _ _ h => (step_stepped h).blade

/-- Settles O55, from the laws every step keeps. -/
theorem stepKeepsContactLaw : Obligations.StepKeepsContactLaw := fun _ _ h => (step_stepped h).contact

/-- Settles O56, from the laws every step keeps. -/
theorem stepKeepsSettingsLaw : Obligations.StepKeepsSettingsLaw := fun _ _ h => (step_stepped h).settings

/-- Settles O57, from the laws every step keeps. -/
theorem stepKeepsHazardLaw : Obligations.StepKeepsHazardLaw := fun _ _ h => (step_stepped h).hazard

/-- Settles O58, from the laws every step keeps. -/
theorem stepKeepsLineLaw : Obligations.StepKeepsLineLaw := fun _ _ h => (step_stepped h).line

/-- Settles O59, from the laws every step keeps. -/
theorem stepKeepsTripCauses : Obligations.StepKeepsTripCauses := fun _ _ h => (step_stepped h).trip

/-- Settles O60: the state after reset is the state at the end of a POWER reset. -/
theorem resetMeetsLaws : Obligations.ResetMeetsLaws :=
  ⟨initMemory_wf _ _ _ _ rfl fun _ hc => absurd hc List.not_mem_nil, initial_lost _ _ _ _ _ _, initial_plan _ _ _ _ _ _, initial_target _ _ _ _ _ _,
    initial_cap _ _ _ _ _ _, initial_blade _ _ _ _ _ _, initial_contact _ _ _ _ _ _, initial_settings _ _ _ _ _ _, initial_hazard _ _ _ _ _ _, initial_line _ _ _ _ _ _⟩

end Sys2Proof.Proofs
end

section
/-! SUPPORT. The queue, the idle microsecond, what lasts through a reset, the part time, and rows that are host writes. -/

namespace Sys2Proof.Proofs

open Sys2Proof.Machine Sys2Proof.Safety

/-! ### The idle microsecond (R195) -/

/-- What a refresh writes in a microsecond: the first word still to be written, if any. -/
def nextCells (r : Refresh) : List (Nat × Word) := (r.writing.getD []).take 1

/-- What it leaves to be written. -/
def restRefresh (r : Refresh) : Refresh := { r with writing := r.writing.map (List.drop 1) }

theorem setRefresh_self (p : Port) (m : Mirror) : p.setRefresh m (p.refresh m) = p := by cases m <;> rfl

theorem writeNext_eq (m : Mirror) (s : State) :
    writeNext m s = { s with
      port := s.port.setRefresh m (restRefresh (s.port.refresh m))
      mem := s.mem.writeAll (nextCells (s.port.refresh m)) } := by
  cases hw : (s.port.refresh m).writing with
  | none =>
    have hrest : restRefresh (s.port.refresh m) = s.port.refresh m := by rw [restRefresh, hw, Option.map_none, ← hw]
    rw [writeNext_idle hw, hrest, setRefresh_self, nextCells, hw]
    rfl
  | some copy =>
    cases copy with
    | nil =>
      have hrest : restRefresh (s.port.refresh m) = s.port.refresh m := by
        rw [restRefresh, hw, Option.map_some, List.drop_nil, ← hw]
      rw [writeNext_done hw, hrest, setRefresh_self, nextCells, hw]
      rfl
    | cons c copy =>
      rw [writeNext_word hw, nextCells, restRefresh, hw]
      rfl

theorem microsecond_eq (s : State) : microsecond s = { s with
    timebase := s.timebase + 1
    port := { s.port with
      snapshot := restRefresh s.port.snapshot
      loopTable := restRefresh s.port.loopTable
      contactList := restRefresh s.port.contactList }
    mem := s.mem.writeAll (nextCells s.port.snapshot ++ nextCells s.port.loopTable ++ nextCells s.port.contactList) } := by
  rw [writeAll_append, writeAll_append]
  unfold microsecond
  rw [writeNext_eq, writeNext_eq, writeNext_eq]
  rfl

/-- Settles O1: the queue's head by definition, the idle microsecond by its three writes. -/
theorem stepRunsFrontCommand : Obligations.StepRunsFrontCommand := by
  unfold Obligations.StepRunsFrontCommand
  refine ⟨fun c rest s hp => by rw [step, hp], fun s hp => ?_⟩
  have hidle : step s = .next (idle s) := by rw [step, hp]
  refine ⟨fun hr => ?running, fun hr => ?resetting⟩
  case running => exact hidle.trans (congrArg Host.Outcome.next ((whenRunning_running hr _).trans (microsecond_eq s)))
  case resetting =>
    obtain ⟨r, hr⟩ := Option.isSome_iff_exists.1 hr
    exact hidle.trans (congrArg Host.Outcome.next (whenRunning_resetting hr _))

/-! ### The queue -/

theorem whenRunning_pending {s : State} {f : State → State} (h : ∀ a, (f a).pending = a.pending) :
    (s.whenRunning f).pending = s.pending := by
  unfold State.whenRunning
  split
  · exact h s
  · rfl

theorem event_pending {s : State} {f : State → State} (h : ∀ a, (f a).pending = a.pending) :
    (s.event f).pending = s.pending := by
  refine whenRunning_pending fun a => ?_
  simp [h]

theorem requestEvent_pending (s : State) (code : Word) : (s.requestEvent code).pending = s.pending := by
  refine whenRunning_pending fun a => ?_
  simp only [State.noting_frame]
  split <;> simp

theorem completePing_pending (i : LR) (range : Option Nat) (s : State) :
    (completePing i range s).pending = s.pending := by
  unfold completePing
  dsimp only
  split <;> simp [setSonar]

theorem judgedWindow_pending (s : State) : (judgedWindow s).pending = s.pending := by
  unfold judgedWindow
  dsimp only
  split <;> simp

theorem windowExpiry_pending (s : State) : (windowExpiry s).pending = s.pending := by
  unfold windowExpiry
  dsimp only
  (repeat' split) <;> simp [judgedWindow_pending]

theorem windowEvent_pending (s : State) : (windowEvent s).pending = s.pending := by
  unfold windowEvent
  split <;> simp [windowExpiry_pending]

/-- Settles O2, command by command: each is an operation of the running part that leaves the queue. -/
theorem execKeepsQueue : Obligations.ExecKeepsQueue := by
  unfold Obligations.ExecKeepsQueue
  intro c s
  cases c
  case power => exact ⟨_, rfl, by simp⟩
  case pin => exact ⟨_, rfl, by simp⟩
  case strobe => exact ⟨_, rfl, by simp⟩
  case resetEnd => exact ⟨_, rfl, by simp⟩
  case comparatorLeadingEdge coil t => exact ⟨_, rfl, event_pending fun a => by simp⟩
  case comparatorTrailingEdge coil t peak => exact ⟨_, rfl, event_pending fun a => by simp⟩
  case polaritySample coil t level => exact ⟨_, rfl, event_pending fun a => by simp⟩
  case overLengthExpiry coil t => exact ⟨_, rfl, event_pending fun a => by unfold overLengthAt; split <;> simp⟩
  case switchingEdge output t => exact ⟨_, rfl, event_pending fun a => by simp⟩
  case blankingEnd t => exact ⟨_, rfl, event_pending fun a => by simp⟩
  case gapTimerExpiry coil t => exact ⟨_, rfl, event_pending fun a => by simp⟩
  case checkInterval => exact ⟨_, rfl, event_pending fun a => by unfold beginInterval; split <;> rfl⟩
  case checkEnd => exact ⟨_, rfl, event_pending fun a => by unfold checkEnd; split <;> simp⟩
  case controlPeriod t pitch roll => exact ⟨_, rfl, event_pending fun a => by unfold controlExpiry; split <;> simp⟩
  case encoderPulse wheel t => exact ⟨_, rfl, event_pending fun a => rfl⟩
  case waitingCheck => exact ⟨_, rfl, event_pending fun a => by unfold waitingCheck; (repeat' split) <;> simp⟩
  case holdTimerExpiry => exact ⟨_, rfl, event_pending fun a => by unfold holdExpiry; split <;> simp⟩
  case bladePeriod t => exact ⟨_, rfl, event_pending fun a => by unfold bladeExpiry; split <;> simp⟩
  case hallPulse t => exact ⟨_, rfl, event_pending fun a => rfl⟩
  case brakeSlow => exact ⟨_, rfl, event_pending fun a => by unfold brakeExpiry; split <;> simp⟩
  case waitTimerExpiry => exact ⟨_, rfl, event_pending fun a => by unfold waitExpiry; split <;> simp⟩
  case bumpEdge side edge => exact ⟨_, rfl, event_pending fun a => by unfold bumpEdge; split <;> rfl⟩
  case bumpDebounceExpiry side => exact ⟨_, rfl, event_pending fun a => by unfold bumpExpiry; split <;> simp [setBump]⟩
  case pingTimerExpiry => exact ⟨_, rfl, event_pending fun a => by unfold pingExpiry; (repeat' split) <;> simp⟩
  case echoEdge sensor t => exact ⟨_, rfl, event_pending fun a => by unfold echoEdge; (repeat' split) <;> simp [completePing_pending]⟩
  case listenTimeout sensor t => exact ⟨_, rfl, event_pending fun a => by unfold listenTimeout; (repeat' split) <;> simp [completePing_pending]⟩
  case liftEdge input edge => exact ⟨_, rfl, event_pending fun a => by unfold liftEdge; split <;> rfl⟩
  case liftDebounceExpiry input => exact ⟨_, rfl, event_pending fun a => by unfold liftExpiry; split <;> simp [setLift]⟩
  case stopKeyEdge edge => exact ⟨_, rfl, event_pending fun a => by unfold stopEdge; split <;> simp⟩
  case noSignalTimerExpiry => exact ⟨_, rfl, event_pending fun a => by unfold noSignalExpiry; split <;> simp⟩
  case silenceTimerExpiry => exact ⟨_, rfl, event_pending fun a => by unfold silenceExpiry; split <;> simp⟩
  case contactSample voltage => exact ⟨_, rfl, event_pending fun a => by unfold sampleExpiry; split <;> simp⟩
  case heartbeatWrite value => exact ⟨_, rfl, event_pending fun a => by simp⟩
  case serviceEnd => exact ⟨_, rfl, event_pending fun a => by simp⟩
  case serviceClear source => exact ⟨_, rfl, event_pending fun a => by simp⟩
  case portctlWrite value => exact ⟨_, rfl, event_pending fun a => by simp⟩
  case triggerPulseEnd sensor t => exact ⟨_, rfl, event_pending fun a => by unfold triggerEnd; split <;> simp [setSonar]⟩
  case windowExpiry =>
    exact ⟨_, rfl, whenRunning_pending fun a => by simp [windowEvent_pending]⟩
  case snapshotTimerExpiry => exact ⟨_, rfl, whenRunning_pending fun a => by simp⟩
  case refreshEnd mirror => exact ⟨_, rfl, whenRunning_pending fun a => by simp⟩
  case partTimeTick => exact ⟨_, rfl, whenRunning_pending fun a => by simp⟩
  case unknownRequest code => exact ⟨_, rfl, by simp⟩
  case hostWrite addr value => exact ⟨_, rfl, by simp⟩
  case attentionAck => exact ⟨_, rfl, by simp⟩
  case attentionPeek => exact ⟨_, rfl, by simp⟩
  all_goals exact ⟨_, rfl, requestEvent_pending s _⟩

/-! ### A reset that lasts (R169, R186, R187) -/

theorem edgeLevel_eq (e : Edge) : edgeLevel e = decide (e = .closing) := by cases e <;> rfl

theorem beginReset_eq (cause : ResetCause) (s : State) : beginReset cause s = { s with
    resetting := some ⟨cause, decide (s.recv.check.result = .running)⟩
    notice := { s.notice with line := false } } := rfl

/-- During a reset a read of ATTENTION drives 0 and acknowledges nothing. -/
theorem attentionAccess_resetting {s : State} {r : Resetting} (h : s.resetting = some r) :
    attentionAccess s = { s with port := { s.port with dataLines := 0 } } := by
  rw [attentionAccess, hostReadEvent, hostRead_resetting h, readEffect_resetting h]
  rfl

theorem requestEvent_resetting {s : State} {r : Resetting} (h : s.resetting = some r) (code : Word) :
    s.requestEvent code = s := whenRunning_resetting h _

theorem hostWriteEvent_resetting {s : State} {r : Resetting} (h : s.resetting = some r) (a : Nat) (v : Word) :
    s.hostWriteEvent a v = s := by
  unfold State.hostWriteEvent
  split
  · exact requestEvent_resetting h v
  · exact event_resetting h _

/-- Settles O3: a reset's begin by definition; while it lasts every command's event is left out. -/
theorem resetsBeginAndLast : Obligations.ResetsBeginAndLast := by
  unfold Obligations.ResetsBeginAndLast
  intro c s
  have hbegin (cause : ResetCause) (h : s.resetting = none) : beginUnlessResetting cause s = beginReset cause s := by
    rw [beginUnlessResetting, h]
  refine ⟨rfl, fun h => ⟨congrArg Host.Outcome.next (hbegin _ h), congrArg Host.Outcome.next (hbegin _ h)⟩, fun h => ?_⟩
  obtain ⟨r, hr⟩ := Option.isSome_iff_exists.1 h
  have hlast (cause : ResetCause) : beginUnlessResetting cause s = s := by rw [beginUnlessResetting, hr]
  cases c
  case power => trivial
  case resetEnd => trivial
  case pin => exact congrArg Host.Outcome.next (hlast _)
  case strobe => exact congrArg Host.Outcome.next (hlast _)
  case bumpEdge i e =>
    show Host.Outcome.next _ = _
    rw [event_resetting (s := setBumpPin i e s) hr, setBumpPin, edgeLevel_eq]
  case liftEdge i e =>
    show Host.Outcome.next _ = _
    rw [event_resetting (s := setLiftPin i e s) hr, setLiftPin, edgeLevel_eq]
  case stopKeyEdge e =>
    show Host.Outcome.next _ = _
    rw [event_resetting (s := setStopPin e s) hr, setStopPin, edgeLevel_eq]
  case attentionAck => exact congrArg Host.Outcome.next (attentionAccess_resetting hr)
  case attentionPeek => exact congrArg Host.Outcome.next (attentionAccess_resetting hr)
  case hostWrite a v => exact congrArg Host.Outcome.next (hostWriteEvent_resetting hr _ v)
  case unknownRequest code => exact congrArg Host.Outcome.next (hostWriteEvent_resetting hr _ code)
  all_goals exact congrArg Host.Outcome.next (whenRunning_resetting hr _)

/-! ### The part time (R2, R194) -/

theorem tick_words (s : State) (h : MemoryCanonical s) :
    (tick s).word 0x003 = loWord (s.partTime + 1) ∧ (tick s).word 0x004 = hiWord (s.partTime + 1) ∧
      ∀ a, a ≠ 0x003 → a ≠ 0x004 → (tick s).word a = s.word a := by
  refine ⟨?_, Memory.read_write_same (Memory.wf_write _ _ h) _ _, fun a ha hb => ?_⟩
  · exact (Memory.read_write_other _ _ (show 3 ≠ addrPartTime + 1 by decide)).trans (Memory.read_write_same h _ _)
  · exact (Memory.read_write_other _ _ hb).trans (Memory.read_write_other _ _ ha)

/-- The two words of a 32-bit value are its value again. -/
theorem words_value (x : BitVec 32) : (loWord x).toNat + 65536 * (hiWord x).toNat = x.toNat := by
  unfold loWord hiWord
  simp only [BitVec.toNat_setWidth, BitVec.toNat_ushiftRight, Nat.shiftRight_eq_div_pow]
  omega

/-- Settles O6: the tick's two words, and the difference of two times. -/
theorem partTimeTick : Obligations.PartTimeTick := by
  unfold Obligations.PartTimeTick
  refine ⟨fun s hr hmem => ⟨tick s, congrArg Host.Outcome.next (whenRunning_running hr _), rfl, ?time, ?words, ?others⟩, ?since⟩
  case time =>
    show (s.partTime + 1).toNat = _
    simp
  case words =>
    obtain ⟨hlow, hhigh, -⟩ := tick_words s hmem
    rw [hlow, hhigh]
    exact words_value _
  case others => exact (tick_words s hmem).2.2
  case since =>
    intro now start
    unfold since
    rw [BitVec.toNat_sub]
    omega

/-! ### Rows that are host writes (R188, R189, R192, R201, R202) -/

theorem hostWriteEvent_request (s : State) {v : Word} (h : v ≠ 0) :
    s.hostWriteEvent addrRequest v = s.requestEvent v := if_pos ⟨rfl, h⟩

theorem hostWriteEvent_other (s : State) {a : Nat} (v : Word) (h : a ≠ addrRequest) :
    s.hostWriteEvent a v = s.event (hostWrite a v) := if_neg fun hreq => h hreq.1

theorem hostWrite_register {a : Nat} (h : 0xFFC ≤ a) (v : Word) (s : State) : hostWrite a v s = writeRegister a v s := by
  rw [hostWrite, areaOf_registers h]

theorem hostWrite_heartbeat (v : Word) : hostWrite addrHeartbeat v = heartbeat v := rfl

theorem hostWrite_serviceEnd : hostWrite 0xFFD 0x0080 = endService := by
  funext s
  rw [hostWrite_register (by decide)]
  rfl

theorem hostWrite_serviceNumber {v : Word} (h : v ≠ 0x0080) : hostWrite 0xFFD v = serviceNumber v := by
  funext s
  rw [hostWrite_register (by decide), writeRegister, if_pos rfl, writeService, if_neg h]

theorem hostWrite_portctl (v : Word) : hostWrite 0xFFE v = writePortctl v := by
  funext s
  rw [hostWrite_register (by decide), writeRegister, if_neg (by decide), if_pos rfl]

/-- Settles O48: the rows read back one by one; each acts as the write to its address. -/
theorem hostWriteRowsReadBack : Obligations.HostWriteRowsReadBack := by
  unfold Obligations.HostWriteRowsReadBack
  open Laws in
  refine ⟨fun i => ?readBack, fun i a v s hrow hw => ?acts⟩
  case readBack =>
    cases i with
    | power => exact HostWriteRow.power
    | pin => exact HostWriteRow.pin
    | strobe => exact HostWriteRow.strobe
    | resetEnd => exact HostWriteRow.resetEnd
    | comparatorLeadingEdge a b => exact HostWriteRow.comparatorLeadingEdge a b
    | comparatorTrailingEdge a b c => exact HostWriteRow.comparatorTrailingEdge a b c
    | polaritySample a b c => exact HostWriteRow.polaritySample a b c
    | overLengthExpiry a b => exact HostWriteRow.overLengthExpiry a b
    | switchingEdge a b => exact HostWriteRow.switchingEdge a b
    | blankingEnd a => exact HostWriteRow.blankingEnd a
    | gapTimerExpiry a b => exact HostWriteRow.gapTimerExpiry a b
    | checkInterval => exact HostWriteRow.checkInterval
    | checkEnd => exact HostWriteRow.checkEnd
    | windowExpiry => exact HostWriteRow.windowExpiry
    | controlPeriod a b c => exact HostWriteRow.controlPeriod a b c
    | encoderPulse a b => exact HostWriteRow.encoderPulse a b
    | waitingCheck => exact HostWriteRow.waitingCheck
    | holdTimerExpiry => exact HostWriteRow.holdTimerExpiry
    | bladePeriod a => exact HostWriteRow.bladePeriod a
    | hallPulse a => exact HostWriteRow.hallPulse a
    | brakeSlow => exact HostWriteRow.brakeSlow
    | waitTimerExpiry => exact HostWriteRow.waitTimerExpiry
    | bumpEdge a b => exact HostWriteRow.bumpEdge a b
    | bumpDebounceExpiry a => exact HostWriteRow.bumpDebounceExpiry a
    | pingTimerExpiry => exact HostWriteRow.pingTimerExpiry
    | echoEdge a b => exact HostWriteRow.echoEdge a b
    | listenTimeout a b => exact HostWriteRow.listenTimeout a b
    | liftEdge a b => exact HostWriteRow.liftEdge a b
    | liftDebounceExpiry a => exact HostWriteRow.liftDebounceExpiry a
    | stopKeyEdge a => exact HostWriteRow.stopKeyEdge a
    | noSignalTimerExpiry => exact HostWriteRow.noSignalTimerExpiry
    | silenceTimerExpiry => exact HostWriteRow.silenceTimerExpiry
    | contactSample a => exact HostWriteRow.contactSample a
    | arm => exact HostWriteRow.arm
    | disarm => exact HostWriteRow.disarm
    | clearTrip => exact HostWriteRow.clearTrip
    | planStart => exact HostWriteRow.planStart
    | planStop => exact HostWriteRow.planStop
    | setPose => exact HostWriteRow.setPose
    | clearContacts => exact HostWriteRow.clearContacts
    | bladeUnlock => exact HostWriteRow.bladeUnlock
    | park => exact HostWriteRow.park
    | wake => exact HostWriteRow.wake
    | selfCheck => exact HostWriteRow.selfCheck
    | restart => exact HostWriteRow.restart
    | unknownRequest a => exact HostWriteRow.unknownRequest a
    | heartbeatWrite a => exact HostWriteRow.heartbeatWrite a
    | hostWrite a b => exact HostWriteRow.hostWrite a b
    | attentionAck => exact HostWriteRow.attentionAck
    | attentionPeek => exact HostWriteRow.attentionPeek
    | serviceEnd => exact HostWriteRow.serviceEnd
    | serviceClear a => exact HostWriteRow.serviceClear a
    | portctlWrite a => exact HostWriteRow.portctlWrite a
    | snapshotTimerExpiry => exact HostWriteRow.snapshotTimerExpiry
    | refreshEnd a => exact HostWriteRow.refreshEnd a
    | partTimeTick => exact HostWriteRow.partTimeTick
    | triggerPulseEnd a b => exact HostWriteRow.triggerPulseEnd a b
  case acts =>
    have hrequest {code : Word} (h : code ≠ 0) :
        (Host.Outcome.next (s.requestEvent code) : Host.Outcome State Fault Refusal) = exec (.hostWrite 0x041 code) s :=
      congrArg Host.Outcome.next (hostWriteEvent_request s h).symm
    have hother {n : BitVec 12} {code : Word} {f : State → State} (hn : n.toNat ≠ addrRequest)
        (h : hostWrite n.toNat code = f) :
        (Host.Outcome.next (s.event f) : Host.Outcome State Fault Refusal) = exec (.hostWrite n code) s :=
      congrArg Host.Outcome.next (h ▸ (hostWriteEvent_other s code hn).symm)
    cases i
    case heartbeatWrite value => cases hrow; exact hother (by decide) (hostWrite_heartbeat _)
    case unknownRequest code => cases hrow; rfl
    case hostWrite addr value => cases hrow; rfl
    case serviceEnd => cases hrow; exact hother (by decide) hostWrite_serviceEnd
    case serviceClear source =>
      cases hrow
      have hsource : v ≠ 0x0080 := by
        rintro rfl
        exact absurd hw (by decide)
      exact hother (by decide) (hostWrite_serviceNumber hsource)
    case portctlWrite value => cases hrow; exact hother (by decide) (hostWrite_portctl _)
    all_goals cases hrow
    all_goals exact hrequest (by decide)

end Sys2Proof.Proofs
end

section
/-! SUPPORT. The arithmetic of R1 in the library's terms, an event that starts no refresh, and the inputs' own commands:
pulses, edges, pings and the heartbeat. -/

namespace Sys2Proof.Proofs

open Sys2Proof.Machine Sys2Proof.Safety

/-! ### Arithmetic (R1) -/

theorem clampI_eq {lo hi : Int} (h : lo ≤ hi) (x : Int) : clampI lo hi x = max lo (min hi x) := by
  unfold clampI
  split
  · omega
  · split <;> omega

theorem clampN_eq {lo hi : Nat} (h : lo ≤ hi) (x : Nat) : clampN lo hi x = max lo (min hi x) := by
  unfold clampN
  split
  · omega
  · split <;> omega

theorem minI_eq (a b : Int) : minI a b = min a b := by
  unfold minI
  split <;> omega

theorem minN_eq (a b : Nat) : minN a b = min a b := by
  unfold minN
  split <;> omega

theorem satAdd_eq (top a b : Nat) : satAdd top a b = min top (a + b) := by
  unfold satAdd
  split <;> omega

theorem satAdd_one (top a : Nat) : satAdd top a 1 = if a < top then a + 1 else top := by
  unfold satAdd
  split <;> split <;> omega

theorem dueOpt_false {now : Time} {timer : Option Time} (h : ∀ e, timer = some e → due now e = false) :
    dueOpt now timer = false := by
  cases timer with
  | none => rfl
  | some e => exact h e rfl

theorem dueOpt_true {now e : Time} {timer : Option Time} (h : timer = some e) (hd : due now e = true) :
    dueOpt now timer = true := by
  rw [h]
  exact hd

@[simp] theorem Two.set_get_self {α : Type} (p : Two α) (i : LR) : p.set i (p.get i) = p := by cases i <;> rfl

@[simp] theorem Three.set_get_self {α : Type} (p : Three α) (i : Coil) : p.set i (p.get i) = p := by cases i <;> rfl

/-! ### An event that starts no refresh (R38, R145, R196) -/

/-- All that a mirror shows at once is in one state as in the other. -/
structure Unshown (a b : State) : Prop where
  recs : b.loops.recs = a.loops.recs
  posClass : b.loops.posClass = a.loops.posClass
  near : b.loops.stationNear = a.loops.stationNear
  channels : ∀ i, channelView (b.recv.channels.get i) = channelView (a.recv.channels.get i)
  list : b.contact.list = a.contact.list
  parked : b.parked = a.parked

theorem Unshown.refl (s : State) : Unshown s s := ⟨rfl, rfl, rfl, fun _ => rfl, rfl, rfl⟩

theorem startMirrors_unshown {a b : State} (h : Unshown a b) (hc : b.causes = Causes.none) : startMirrors false a b = b := by
  have hloops : loopMirrorChanged a b = false :=
    loopMirrorChanged_false h.recs.symm h.posClass.symm h.near.symm fun i => (h.channels i).symm
  simp [startMirrors, hloops, h.list, h.parked, hc, Causes.none]

/-- An event whose rules leave `b`, with nothing that a mirror shows changed, leaves `b`. -/
theorem event_unshown {s b : State} {f : State → State} (hr : s.resetting = none)
    (hb : f { s with causes := Causes.none } = b) (h : Unshown s b) (hc : b.causes = Causes.none) :
    s.event f = { b with causes := s.causes } := by
  have hquiet : startMirrors false { s with causes := Causes.none } b = b := startMirrors_unshown { h with } hc
  rw [event_running hr, State.noting, hb, hquiet]

/-- The same of a command that brings its capture time. -/
theorem event_timed {s b : State} (f : State → State) {t : Capture} (hr : s.resetting = none)
    (hb : f { s with timebase := t, causes := Causes.none } = b) (h : Unshown s b) (hc : b.causes = Causes.none) :
    s.event (fun a => f (a.atTime t)) = { b with causes := s.causes } := event_unshown hr hb h hc

/-- Rules that do nothing are no event. -/
theorem event_still {s : State} {f : State → State} (hr : s.resetting = none)
    (h : f { s with causes := Causes.none } = { s with causes := Causes.none }) : s.event f = s :=
  event_unshown (b := { s with causes := Causes.none }) hr h { Unshown.refl s with } rfl

/-! ### Encoder and Hall pulses (R69, R118) -/

/-- The count after an accepted encoder pulse. -/
def countedPulse (w : WheelState) : Int := max (-255) (min 255 (if w.forward then w.count + 1 else w.count - 1))

theorem wheelPulse_first {w : WheelState} (h : w.lastPulse = none) (t : Capture) :
    w.pulse t = { w with lastPulse := some t, period := none, count := countedPulse w } := by
  simp [WheelState.pulse, WheelState.accepts, WheelState.nextPeriod, h, countedPulse, clampI_eq]

theorem wheelPulse_next {w : WheelState} {last t : Capture} (h : w.lastPulse = some last) (hs : 200 ≤ since t last) :
    w.pulse t = { w with lastPulse := some t, period := some (since t last), count := countedPulse w } := by
  simp [WheelState.pulse, WheelState.accepts, WheelState.nextPeriod, h, hs, countedPulse, clampI_eq]

theorem wheelPulse_ignored {w : WheelState} {last t : Capture} (h : w.lastPulse = some last) (hs : since t last < 200) :
    w.pulse t = w := by
  simp [WheelState.pulse, WheelState.accepts, h, hs]

theorem bladePulse_first {b : Blade} (h : b.lastPulse = none) (t : Capture) :
    b.pulse t = { b with lastPulse := some t } := by simp [Blade.pulse, Blade.accepts, h]

theorem bladePulse_next {b : Blade} {last t : Capture} (h : b.lastPulse = some last) (hs : 1000 ≤ since t last) :
    b.pulse t = { b with lastPulse := some t, period := some (since t last) } := by
  simp [Blade.pulse, Blade.accepts, h, hs]

theorem bladePulse_ignored {b : Blade} {last t : Capture} (h : b.lastPulse = some last) (hs : since t last < 1000) :
    b.pulse t = b := by
  simp [Blade.pulse, Blade.accepts, h, hs]

theorem exec_encoderPulse {s : State} (hr : s.resetting = none) (i : LR) (t : Capture) :
    exec (.encoderPulse i t) s = .next { s with
      timebase := t, drive := { s.drive with wheels := s.drive.wheels.set i ((s.drive.wheels.get i).pulse t) } } :=
  congrArg Host.Outcome.next (event_unshown hr rfl { Unshown.refl s with } rfl)

theorem exec_hallPulse {s : State} (hr : s.resetting = none) (t : Capture) :
    exec (.hallPulse t) s = .next { s with timebase := t, blade := s.blade.pulse t } :=
  congrArg Host.Outcome.next (event_unshown hr rfl { Unshown.refl s with } rfl)

/-- Settles O20, by the ways a wheel's and the blade's pulse can go. -/
theorem pulseInputs : Obligations.PulseInputs := by
  unfold Obligations.PulseInputs
  intro t s hr
  refine ⟨fun i => ⟨fun h => ?_, fun last h hs => ?_, fun last h hs => ?_⟩, fun h => ?_, fun last h hs => ?_,
    fun last h hs => ?_⟩
  · rw [exec_encoderPulse hr, wheelPulse_first h]
    rfl
  · rw [exec_encoderPulse hr, wheelPulse_next h hs]
    rfl
  · rw [exec_encoderPulse hr, wheelPulse_ignored h hs]
  · rw [exec_hallPulse hr, bladePulse_first h]
  · rw [exec_hallPulse hr, bladePulse_next h hs]
  · rw [exec_hallPulse hr, bladePulse_ignored h hs]

/-! ### Edges of the bump and lift inputs (R137, R162) -/

theorem bumpEdge_eq (i : LR) (e : Edge) (s : State) : bumpEdge i e s =
    if e = .closing then (if s.contact.bump.get i = .opened then setBump i .closing (some (s.partTime + 20)) s else s)
    else (if s.contact.bump.get i = .opened then s else setBump i .opened none s) := by
  unfold bumpEdge
  cases e <;> cases s.contact.bump.get i <;> simp

theorem liftEdge_eq_ite (i : LR) (e : Edge) (s : State) : liftEdge i e s =
    if e = .closing then (if s.guard.lift.get i = .opened then setLift i .closing (some (s.partTime + 100)) s else s)
    else (if s.guard.lift.get i = .opened then s else setLift i .opened none s) := by
  unfold liftEdge
  cases e <;> cases s.guard.lift.get i <;> simp

theorem exec_bumpEdge {s : State} (hr : s.resetting = none) (i : LR) (e : Edge) :
    exec (.bumpEdge i e) s = .next (bumpEdge i e (setBumpPin i e s)) := by
  have hevent := event_unshown (s := setBumpPin i e s) (f := bumpEdge i e) hr rfl
    (by rw [bumpEdge_eq]; (repeat' split) <;> exact { Unshown.refl (setBumpPin i e s) with })
    (by rw [bumpEdge_eq]; (repeat' split) <;> rfl)
  refine congrArg Host.Outcome.next (hevent.trans ?_)
  rw [bumpEdge_eq, bumpEdge_eq]
  (repeat' split) <;> rfl

theorem exec_liftEdge {s : State} (hr : s.resetting = none) (i : LR) (e : Edge) :
    exec (.liftEdge i e) s = .next (liftEdge i e (setLiftPin i e s)) := by
  have hevent := event_unshown (s := setLiftPin i e s) (f := liftEdge i e) hr rfl
    (by rw [liftEdge_eq_ite]; (repeat' split) <;> exact { Unshown.refl (setLiftPin i e s) with })
    (by rw [liftEdge_eq_ite]; (repeat' split) <;> rfl)
  refine congrArg Host.Outcome.next (hevent.trans ?_)
  rw [liftEdge_eq_ite, liftEdge_eq_ite]
  (repeat' split) <;> rfl

/-- Settles O25: an edge moves its input's level, and its debounce as the edge and the state before it say. -/
theorem inputEdges : Obligations.InputEdges := by
  unfold Obligations.InputEdges
  intro i e s hr
  rw [exec_bumpEdge hr, exec_liftEdge hr, bumpEdge_eq, liftEdge_eq_ite, setBumpPin, setLiftPin, edgeLevel_eq]
  exact ⟨rfl, rfl⟩

/-! ### Pings and triggers (R138, R139) -/

theorem pingExpiry_due {s : State} {e : Time} (h : s.contact.pingTimer = some e) (hd : due s.partTime e = true) :
    pingExpiry s = triggerNext { s with contact := { s.contact with pingTimer := some (e + 40) } } := by
  simp [pingExpiry, h, hd]

theorem pingExpiry_waits {s : State} (h : ∀ e, s.contact.pingTimer = some e → due s.partTime e = false) :
    pingExpiry s = s := by
  unfold pingExpiry
  split
  · rfl
  · rw [if_neg (by rw [h _ ‹_›]; decide)]

theorem triggerNext_eq (s : State) : triggerNext s = { s with contact := { s.contact with
    nextSensor := if s.contact.nextSensor = .left then .right else .left
    sonar := s.contact.sonar.set s.contact.nextSensor
      { s.contact.sonar.get s.contact.nextSensor with trigger := true } } } := by
  unfold triggerNext
  cases h : s.contact.nextSensor <;> rfl

theorem triggerEnd_eq (i : LR) (t : Capture) (s : State) : triggerEnd i t s = { s with contact := { s.contact with
    sonar := s.contact.sonar.set i (if (s.contact.sonar.get i).trigger then
      { s.contact.sonar.get i with trigger := false, window := .listen t } else s.contact.sonar.get i) } } := by
  unfold triggerEnd
  split
  · rfl
  · rw [Two.set_get_self]

/-- Settles O27, by the ways of the ping timer and the end of a trigger pulse. -/
theorem pingAndTrigger : Obligations.PingAndTrigger := by
  unfold Obligations.PingAndTrigger
  intro s hr
  refine ⟨fun h => ?waits, fun e h hd => ?pings, fun i t => ?ends⟩
  case waits => exact congrArg Host.Outcome.next (event_still hr (pingExpiry_waits h))
  case pings =>
    exact congrArg Host.Outcome.next (event_unshown hr
      ((pingExpiry_due (s := { s with causes := Causes.none }) h hd).trans (triggerNext_eq _))
      { Unshown.refl s with } rfl)
  case ends =>
    exact congrArg Host.Outcome.next
      (event_timed (triggerEnd i t) hr (triggerEnd_eq i t _) { Unshown.refl s with } rfl)

/-! ### The heartbeat (R165, R192) -/

theorem heartbeat_eq (v : Word) (s : State) : heartbeat v s =
    if s.guard.machine = .armed ∧ v ≠ s.word 0x040 then
      { s with
        mem := s.mem.write 0x040 v
        guard := { s.guard with silence := some (s.partTime + BitVec.ofNat 32 (max 100 (min 5000 (s.word 0x063).toNat))) } }
    else { s with mem := s.mem.write 0x040 v } := by
  have hsilence : s.hostSilence = max 100 (min 5000 (s.word 0x063).toNat) := clampN_eq (by decide) _
  unfold heartbeat State.armed
  rw [hsilence]
  by_cases ha : s.guard.machine = .armed <;> by_cases hv : v = s.word 0x040 <;>
    simp [ha, hv, State.put, addrHeartbeat]

theorem exec_heartbeatWrite {s : State} (hr : s.resetting = none) (v : Word) :
    exec (.heartbeatWrite v) s = .next (heartbeat v s) := by
  rw [heartbeat_eq]
  by_cases h : s.guard.machine = .armed ∧ v ≠ s.word 0x040
  · rw [if_pos h]
    exact congrArg Host.Outcome.next (event_unshown hr ((heartbeat_eq v _).trans (if_pos h)) { Unshown.refl s with } rfl)
  · rw [if_neg h]
    exact congrArg Host.Outcome.next (event_unshown hr ((heartbeat_eq v _).trans (if_neg h)) { Unshown.refl s with } rfl)

/-- Settles O42: the word is stored, and the timer restarts on a changed value while ARMED. -/
theorem heartbeatWrite : Obligations.HeartbeatWrite := by
  unfold Obligations.HeartbeatWrite
  intro v s hr
  refine ⟨fun ha hv => ?_, fun h => ?_, fun hm => Memory.read_write_same hm _ _, fun a ha => Memory.read_write_other _ _ ha⟩
  · rw [exec_heartbeatWrite hr, heartbeat_eq, if_pos ⟨ha, hv⟩]
  · rw [exec_heartbeatWrite hr, heartbeat_eq, if_neg (by tauto)]

end Sys2Proof.Proofs
end

section
/-! SUPPORT. The mirrors' refreshes, the host's writes, and the Notice Unit's registers. -/

namespace Sys2Proof.Proofs

open Sys2Proof.Machine Sys2Proof.Safety

/-! ### The snapshot timer and the end of a refresh (R195, R196) -/

theorem snapshotExpiry_waits {s : State} (h : due s.partTime s.port.snapTimer = false) : snapshotExpiry s = s := by
  simp [snapshotExpiry, h]

theorem snapshotExpiry_due {s : State} (h : due s.partTime s.port.snapTimer = true) :
    snapshotExpiry s = startRefresh .snapshot { s with port := { s.port with
      snapTimer := s.port.snapTimer + (if s.guard.machine = .parked then 1000 else 50) } } := by
  rw [snapshotExpiry, if_pos h]
  simp [State.snapshotPeriod, State.parked]

theorem mirrorOpen_ne_close (m : Mirror) : mirrorOpen m ≠ mirrorClose m := by cases m <;> decide

/-- A copy reads the blocks and what the port keeps of the last control period. -/
theorem mirrorCopy_refresh (s : State) (m : Mirror) (r : Refresh) (mem : Memory) :
    { s with port := s.port.setRefresh m r, mem := mem }.mirrorCopy m = s.mirrorCopy m := by
  cases m <;> rfl

/-- What the end of a refresh leaves of it, before a next one starts. -/
def closedRefresh (m : Mirror) (copy : List (Nat × Word)) (s : State) : State :=
  { s with
    port := s.port.setRefresh m ⟨none, false⟩
    mem := (s.mem.writeAll copy).write (mirrorClose m) (s.word (mirrorOpen m)) }

theorem endRefresh_idle {m : Mirror} {s : State} (h : (s.port.refresh m).writing = none) : endRefresh m s = s := by
  simp [endRefresh, h]

theorem endRefresh_writing {m : Mirror} {s : State} {copy : List (Nat × Word)}
    (h : (s.port.refresh m).writing = some copy) : endRefresh m s =
      if (s.port.refresh m).again then startRefresh m (closedRefresh m copy s) else closedRefresh m copy s := by
  simp [endRefresh, h, closedRefresh]

section
variable {m : Mirror} {s : State} {copy : List (Nat × Word)}

/-- OPEN stands over the end of a refresh. -/
theorem closedRefresh_open (hopen : ∀ c ∈ copy, c.1 ≠ mirrorOpen m) :
    (closedRefresh m copy s).word (mirrorOpen m) = s.word (mirrorOpen m) :=
  (Memory.read_write_other _ _ (mirrorOpen_ne_close m)).trans (Memory.read_writeAll_outside _ hopen)

theorem closedRefresh_close (hmem : MemoryCanonical s) :
    (closedRefresh m copy s).word (mirrorClose m) = s.word (mirrorOpen m) :=
  Memory.read_write_same (Memory.wf_writeAll _ hmem) _ _

theorem closedRefresh_word {a : Nat} (hclose : a ≠ mirrorClose m) (hcopy : ∀ c ∈ copy, c.1 ≠ a) :
    (closedRefresh m copy s).word a = s.word a :=
  (Memory.read_write_other _ _ hclose).trans (Memory.read_writeAll_outside _ hcopy)

/-- The next refresh starts with a copy of the state as it stands. -/
theorem startRefresh_closed (hopen : ∀ c ∈ copy, c.1 ≠ mirrorOpen m) :
    startRefresh m (closedRefresh m copy s) = { s with
      port := s.port.setRefresh m ⟨some (s.mirrorCopy m), false⟩
      mem := (closedRefresh m copy s).mem.write (mirrorOpen m) (s.word (mirrorOpen m) + 1) } := by
  rw [startRefresh_idle (by simp [closedRefresh]), closedRefresh_open hopen]
  simp [closedRefresh, mirrorCopy_refresh]

end

/-- Settles O44, by the ways of the snapshot timer and of the end of a refresh. -/
theorem snapshotAndRefresh : Obligations.SnapshotAndRefresh := by
  unfold Obligations.SnapshotAndRefresh
  intro s hr
  have hexpiry : exec .snapshotTimerExpiry s = .next (snapshotExpiry s) :=
    congrArg Host.Outcome.next (whenRunning_running hr _)
  refine ⟨fun h => ?waits, fun h => ⟨fun hw => ?again, fun hw => ?starts⟩, fun m => ?ends⟩
  case waits => rw [hexpiry, snapshotExpiry_waits h]
  case again =>
    obtain ⟨copy, hcopy⟩ := Option.isSome_iff_exists.1 hw
    rw [hexpiry, snapshotExpiry_due h]
    refine congrArg Host.Outcome.next ((startRefresh_writing (m := .snapshot) (copy := copy) ?writing).trans ?state)
    case writing => exact hcopy
    case state =>
      rw [← hcopy]
      rfl
  case starts =>
    rw [hexpiry, snapshotExpiry_due h]
    exact congrArg Host.Outcome.next (startRefresh_idle (m := .snapshot) (by exact hw))
  case ends =>
    have hend : exec (.refreshEnd m) s = .next (endRefresh m s) := congrArg Host.Outcome.next (whenRunning_running hr _)
    refine ⟨fun h => by rw [hend, endRefresh_idle h], fun copy hcopy hopen hmem => ⟨_, hend, ?_⟩⟩
    rw [endRefresh_writing hcopy]
    cases hagain : (s.port.refresh m).again
    case false =>
      refine ⟨by simp [closedRefresh], fun _ => ⟨by simp [closedRefresh], rfl, ?_, closedRefresh_open hopen⟩,
        fun h => absurd h (by decide), fun a _ hclose ha => closedRefresh_word hclose ha⟩
      exact (closedRefresh_close hmem).trans (closedRefresh_open hopen).symm
    case true =>
      simp only [if_true, startRefresh_closed hopen]
      refine ⟨by simp, fun h => absurd h (by decide), fun _ => ⟨by simp, rfl, ?_, ?_⟩, fun a ha hclose hc => ?_⟩
      · exact (Memory.read_write_other _ _ (mirrorOpen_ne_close m).symm).trans (closedRefresh_close hmem)
      · exact Memory.read_write_same (Memory.wf_write _ _ (Memory.wf_writeAll _ hmem)) _ _
      · exact (Memory.read_write_other _ _ ha).trans (closedRefresh_word hclose hc)

/-! ### A source put in force, and a post (R198, R199) -/

/-- What a source's new state writes lies in the header. -/
theorem setSource_word_outside (src : Source) {st : SourceState} (s : State) (hd : st.details.length ≤ 3) {a : Nat}
    (ha : 0x040 ≤ a) : (setSource src st s).word a = s.word a :=
  Memory.read_writeAll_outside _ fun c hc => by
    have := sourceCells_header hd hc
    omega

/-- The line is judged on NOTICE_ENABLE as it stood. -/
theorem setSource_line (src : Source) {st : SourceState} (s : State) (hd : st.details.length ≤ 3) :
    (setSource src st s).notice.line = (setSource src st s).notice.lineLevel (s.word 0x062) := by
  have henable : (setSource src st s).word 0x062 = s.word 0x062 := setSource_word_outside src s hd (by decide)
  rw [← henable]
  rfl

theorem setSource_notice (src : Source) (st : SourceState) (s : State) :
    (setSource src st s).notice = { s.notice.set src st with line := (setSource src st s).notice.line } := rfl

/-- What a post makes of its source (R198). -/
theorem posted_eq (r : Report) (s : State) :
    (s.notice.get r.source).posted r (sourceEnabled s.noticeEnable r.source) = postedTo s r.source r.status r.details := by
  have hpending (x y z : Bool) : (x || (y || z)) = (x || y || z) := (Bool.or_assoc x y z).symm
  simp only [SourceState.posted, postedTo, satAdd_eq, sourceEnabled, hpending]
  rfl

/-- A post to notices that stand as in another state is a post of that state. -/
theorem post_posts (r : Report) {s t : State} (h : t.noticesHeld = false) (hn : t.notice = s.notice)
    (hw : t.word 0x062 = s.word 0x062) : Posts s (post r t) r.source r.status r.details := by
  have hposted : postedTo t r.source r.status r.details = postedTo s r.source r.status r.details := by
    rw [postedTo, postedTo, hn, hw]
  have hlength : (postedTo s r.source r.status r.details).details.length ≤ 3 := r.details_length
  rw [post_open h, posted_eq, hposted]
  constructor
  · rw [setSource_notice, hn]
  · rw [← hw]
    exact setSource_line _ t hlength

/-! ### Host writes (R41, R188, R199) -/

theorem areaOf_command_iff {a : Nat} : areaOf a = .command ↔ 0x040 ≤ a ∧ a < 0x060 := by grind (splits := 12) [areaOf]

theorem areaOf_live_iff {a : Nat} : areaOf a = .live ↔ 0x060 ≤ a ∧ a < 0x080 := by grind (splits := 12) [areaOf]

theorem areaOf_staged_iff {a : Nat} : areaOf a = .staged ↔ 0x080 ≤ a ∧ a < 0x0C0 := by grind (splits := 12) [areaOf]

theorem areaOf_slots_iff {a : Nat} : areaOf a = .slots ↔ 0x400 ≤ a ∧ a < 0xA00 := by grind (splits := 12) [areaOf]

theorem areaOf_scratch_iff {a : Nat} : areaOf a = .scratch ↔ 0xA00 ≤ a ∧ a < 0xFFC := by grind (splits := 12) [areaOf]

theorem areaOf_registers_iff {a : Nat} : areaOf a = .registers ↔ 0xFFC ≤ a := by grind (splits := 12) [areaOf]

/-- A write into a slot is taken where the slot is not ACTIVE, its state word only with FREE or QUEUED. -/
theorem slotWriteTaken_iff (s : State) (a : Nat) (v : Word) :
    s.slotWriteTaken a v = true ↔ s.word (a - a % 32) ≠ 2 ∧ (a % 32 = 0 → v.toNat ≤ 1) := by
  have hstate : (decide (s.word (slotBaseOf a) ≠ slotActive) = true) ↔ s.word (a - a % 32) ≠ 2 := decide_eq_true_iff
  rw [State.slotWriteTaken, Bool.and_eq_true, hstate, Bool.or_eq_true, decide_eq_true_eq, decide_eq_true_eq,
    ← imp_iff_or_not.trans or_comm]

/-- The areas the host's words are stored in (R188). -/
def Taken (s : State) (n : Nat) (v : Word) : Prop :=
  (0x040 ≤ n ∧ n < 0x0C0) ∨ (0xA00 ≤ n ∧ n < 0xFFC) ∨
    ((0x400 ≤ n ∧ n < 0xA00) ∧ s.word (n - n % 32) ≠ 2 ∧ (n % 32 = 0 → v.toNat ≤ 1))

theorem hostWrite_taken {s : State} {n : Nat} {v : Word} (h : Taken s n v) (hheart : n ≠ 0x040) (henable : n ≠ 0x062) :
    hostWrite n v s = s.put n v := by
  have hlive : writeLive n v s = s.put n v := if_neg henable
  rcases h with ⟨hlow, hhigh⟩ | hscratch | ⟨hslots, hslot⟩
  · by_cases hcommand : n < 0x060
    · rw [hostWrite, areaOf_command_iff.2 ⟨hlow, hcommand⟩]
      exact if_neg hheart
    · by_cases hstaged : n < 0x080
      · rw [hostWrite, areaOf_live_iff.2 ⟨by omega, hstaged⟩]
        exact hlive
      · rw [hostWrite, areaOf_staged_iff.2 ⟨by omega, hhigh⟩]
  · rw [hostWrite, areaOf_scratch_iff.2 hscratch]
  · rw [hostWrite, areaOf_slots_iff.2 hslots]
    exact if_pos ((slotWriteTaken_iff s n v).2 hslot)

theorem hostWrite_enable (v : Word) (s : State) : hostWrite 0x062 v s = judgeLine (s.put 0x062 v) := rfl

theorem hostWrite_dropped {s : State} {n : Nat} {v : Word} (h : ¬ Taken s n v) (hn : n < 0xFFC) :
    hostWrite n v s = dropWrite n s := by
  have hout : ¬ (0x040 ≤ n ∧ n < 0x0C0) := fun hin => h (.inl hin)
  unfold hostWrite
  cases harea : areaOf n
  case command =>
    have := areaOf_command_iff.1 harea
    omega
  case live =>
    have := areaOf_live_iff.1 harea
    omega
  case staged =>
    have := areaOf_staged_iff.1 harea
    omega
  case scratch => exact absurd (areaOf_scratch_iff.1 harea) fun hin => h (.inr (.inl hin))
  case registers =>
    have := areaOf_registers_iff.1 harea
    omega
  case slots =>
    exact if_neg fun htaken =>
      h (.inr (.inr ⟨areaOf_slots_iff.1 harea, (slotWriteTaken_iff s n v).1 htaken⟩))
  all_goals rfl

/-- What a dropped write leaves (R188). -/
theorem dropWrite_leaves (n : Nat) (s : State) : dropWrite n s = { s with
    port := { s.port with faults := satAdd 65535 s.port.faults 1 }
    notice := (dropWrite n s).notice
    mem := (dropWrite n s).mem } := by
  unfold dropWrite
  rw [post_eq_update]

theorem post_noted (r : Report) (s : State) (c : Causes) : post r { s with causes := c } = { post r s with causes := c } := by
  cases h : s.noticesHeld
  case true => rw [post_held h, post_held (by exact h)]
  case false =>
    rw [post_open h, post_open (by exact h)]
    rfl

theorem dropWrite_noted (n : Nat) (s : State) (c : Causes) :
    dropWrite n { s with causes := c } = { dropWrite n s with causes := c } :=
  post_noted _ { s with
    port := { s.port with faults := satAdd 65535 s.port.faults 1 }
    mem := s.mem.write addrFaults (wordN (satAdd 65535 s.port.faults 1)) } c

theorem dropWrite_faults (n : Nat) (s : State) : (dropWrite n s).word 0x00D = wordN (satAdd 65535 s.port.faults 1) := by
  refine (post_word _ _ (.inl (by decide))).trans (read_write_of_wf_or_ne_zero _ (.inr ?_))
  have hbound : satAdd 65535 s.port.faults 1 ≤ 65535 := by
    rw [satAdd_eq]
    exact min_le_left _ _
  have hpos : 0 < satAdd 65535 s.port.faults 1 := by
    rw [satAdd_eq]
    omega
  exact fun hzero => hpos.ne' (by simpa [wordN, Nat.mod_eq_of_lt (Nat.lt_succ_of_le hbound)] using congrArg BitVec.toNat hzero)

theorem dropWrite_word (n : Nat) (s : State) {a : Nat} (ha : 0x040 ≤ a) : (dropWrite n s).word a = s.word a :=
  (post_word _ _ (.inr ha)).trans (Memory.read_write_other _ _ (by simp only [addrFaults]; omega))

theorem Source.ofWord_none {v : Word} (h : 6 < v.toNat) : Source.ofWord v = none := by
  unfold Source.ofWord
  split
  case h_8 => rfl
  all_goals omega

/-- ATTENTION and IDENT ignore a write, and SERVICE one of a word that is no command (R200, R201). -/
theorem writeRegister_ignored {n : Nat} {v : Word} {s : State} (hportctl : n ≠ 0xFFE)
    (hservice : n = 0xFFD → v ≠ 0x0080 ∧ 6 < v.toNat) : writeRegister n v s = s := by
  unfold writeRegister
  split
  · obtain ⟨hend, hnumber⟩ := hservice ‹_›
    rw [writeService, if_neg hend, serviceNumber, Source.ofWord_none hnumber]
  · rfl

/-- A well-formed row of a host write is none of the rows with a row of their own. -/
theorem hostWrite_wellFormed {a : BitVec 12} {v : Word} (h : (Instr.hostWrite a v).wellFormed = true) :
    a.toNat ≠ 0x040 ∧ ¬ (a.toNat = 0x041 ∧ v ≠ 0) ∧ a.toNat ≠ 0xFFE ∧
      (a.toNat = 0xFFD → v ≠ 0x0080 ∧ 6 < v.toNat) := by
  simp only [Instr.wellFormed, hostWriteOk, Bool.and_eq_true, bne_iff_ne, ne_eq, Bool.not_eq_true',
    Bool.and_eq_false_imp, beq_iff_eq, Bool.or_eq_false_iff, decide_eq_false_iff_not, bne_eq_false_iff_eq,
    beq_eq_false_iff_ne] at h
  obtain ⟨⟨⟨hheart, hrequest⟩, hportctl⟩, hservice⟩ := h
  have haddr (n : Nat) (hn : n < 2 ^ 12) : a.toNat = n → a = BitVec.ofNat 12 n := fun h => by
    rw [← h, BitVec.ofNat_toNat, BitVec.setWidth_eq]
  refine ⟨fun h => hheart (haddr _ (by decide) h), fun ⟨h, hv⟩ => hv (hrequest (haddr _ (by decide) h)),
    fun h => hportctl (haddr _ (by decide) h), fun h => ?_⟩
  obtain ⟨hend, hnumber⟩ := hservice (haddr _ (by decide) h)
  exact ⟨hend, by omega⟩

/-- Settles O43, by where the address falls. -/
theorem hostWriteTakenOrDropped : Obligations.HostWriteTakenOrDropped := by
  unfold Obligations.HostWriteTakenOrDropped
  intro a v s hr hwf
  obtain ⟨hheart, hrequest, hportctl, hservice⟩ := hostWrite_wellFormed hwf
  have hexec : exec (.hostWrite a v) s = .next (s.event (hostWrite a.toNat v)) :=
    congrArg Host.Outcome.next (if_neg hrequest)
  rw [hexec]
  refine ⟨fun ht hn => ?taken, fun hn => ?enable, fun ht hn => ?dropped, fun hn => ?register⟩
  case taken =>
    exact congrArg Host.Outcome.next (event_unshown hr (hostWrite_taken ht hheart hn) { Unshown.refl s with } rfl)
  case enable =>
    refine ⟨_, congrArg Host.Outcome.next
      (event_unshown hr ((congrArg (hostWrite · v _) hn).trans (hostWrite_enable v _)) { Unshown.refl s with } rfl), ?_⟩
    rw [hn]
    rfl
  case dropped =>
    have hevent : s.event (hostWrite a.toNat v) = dropWrite a.toNat s := by
      have hrules := (hostWrite_dropped (s := { s with causes := Causes.none }) ht hn).trans (dropWrite_leaves _ _)
      refine (event_unshown hr hrules { Unshown.refl s with } rfl).trans (.trans ?_ (dropWrite_leaves a.toNat s).symm)
      rw [dropWrite_noted]
    refine ⟨_, congrArg Host.Outcome.next hevent, ?_, ?_, fun h => post_posts _ h rfl ?_, fun h => ?_,
      fun b hb => dropWrite_word _ _ hb⟩
    · rw [dropWrite_leaves, satAdd_one]
    · rw [dropWrite_faults, dropWrite_leaves]
    · exact Memory.read_write_other _ _ (by decide)
    · rw [dropWrite, post_held (by exact h)]
  case register =>
    refine congrArg Host.Outcome.next (event_still hr ?_)
    rw [hostWrite, areaOf_registers_iff.2 hn]
    exact writeRegister_ignored hportctl hservice

/-! ### The Notice Unit's registers (R199..R201) -/

theorem all_split (a : Source) :
    Source.all = Source.all.take a.rank ++ a :: Source.all.drop (a.rank + 1) ∧
      ∀ b ∈ Source.all.take a.rank, b.rank < a.rank := by
  cases a <;> decide

/-- A search by rank finds the highest-ranked source that qualifies. -/
theorem find_highest {p : Source → Bool} {a : Source} (ha : p a = true) (hmin : ∀ b, p b = true → a.rank ≤ b.rank) :
    Source.all.find? p = some a := by
  obtain ⟨hsplit, hbefore⟩ := all_split a
  refine List.find?_eq_some_iff_append.2 ⟨ha, _, _, hsplit, fun b hb => ?_⟩
  have hlower := hbefore b hb
  have hfails : p b ≠ true := fun hp => absurd (hmin b hp) (by omega)
  simpa using hfails

theorem find_no_source {p : Source → Bool} (h : ∀ a, ¬ p a = true) : Source.all.find? p = none :=
  List.find?_eq_none.2 fun a _ => h a

theorem signals_iff (n : Notices) (enable : Word) (a : Source) :
    n.signals enable a = true ↔ (n.get a).pending = true ∧ (a = .trip ∨ enable.getLsbD a.rank = true) := by
  simp [Notices.signals, sourceEnabled]

theorem outranksService_iff (n : Notices) (a : Source) :
    n.outranksService a = true ↔ ∀ b, (n.get b).service = true → a.rank < b.rank := by
  have hall (b : Source) : b ∈ Source.all := by cases b <;> decide
  simp [Notices.outranksService, hall, imp_iff_not_or]

theorem attentionWord_none (n : Notices) : attentionWord n none = 0 := rfl

/-- What a source put in force leaves. -/
theorem setSource_leaves (src : Source) (st : SourceState) (s : State) : setSource src st s = { s with
    notice := { s.notice.set src st with line := (setSource src st s).notice.line }
    mem := (setSource src st s).mem } := rfl

theorem wordB_getLsbD (b : Bool) (i : Nat) : (wordB b).getLsbD i = (b && decide (i = 0)) := by
  cases b
  · simp [wordB]
  · rcases i with _ | i <;> simp [wordB]

theorem wordB_getElem (b : Bool) {i : Nat} (h : i < 16) : (wordB b)[i] = (b && decide (i = 0)) :=
  (BitVec.getLsbD_eq_getElem h).symm.trans (wordB_getLsbD b i)

theorem serviceWord_pending (n : Notices) (a : Source) : n.serviceWord.getLsbD a.rank = (n.get a).pending := by
  cases a <;> simp [Notices.serviceWord, Source.all, Source.rank, wordB_getElem]

theorem serviceWord_service (n : Notices) (a : Source) : n.serviceWord.getLsbD (8 + a.rank) = (n.get a).service := by
  cases a <;> simp [Notices.serviceWord, Source.all, Source.rank, wordB_getElem]

theorem serviceWord_unused (n : Notices) : n.serviceWord.getLsbD 7 = false ∧ n.serviceWord.getLsbD 15 = false := by
  constructor <;> simp [Notices.serviceWord, Source.all, Source.rank, wordB_getElem]

/-- A command of SERVICE puts a source in force, whose refresh-showing part stands. -/
theorem event_setSource {s : State} {f : State → State} (hr : s.resetting = none) {a : Source} {st : SourceState}
    (hf : f { s with causes := Causes.none } = setSource a st { s with causes := Causes.none }) :
    s.event f = setSource a st s := event_unshown hr (hf.trans (setSource_leaves _ _ _)) { Unshown.refl s with } rfl

theorem Source.ofWord_rank (a : Source) : Source.ofWord (BitVec.ofNat 16 a.rank) = some a := by cases a <;> rfl

/-- A read of ATTENTION that takes or shows nothing drives 0, and one that shows a source its word. -/
theorem attentionAccess_shows {s : State} (hr : s.resetting = none) (h : s.notice.ackMode = true ∨ s.attentionSource = none) :
    attentionAccess s = { s with port := { s.port with dataLines := attentionWord s.notice s.attentionSource } } := by
  have hread : s.hostRead 0xFFC = attentionWord s.notice s.attentionSource := by simp [State.hostRead, hr]
  have heffect : readEffect 0xFFC s = s := by
    rcases h with h | h <;> simp [readEffect, hr, readAttention, h]
  rw [attentionAccess, hostReadEvent, hread, heffect]
  rfl

theorem attentionAccess_takes {s : State} {a : Source} (hr : s.resetting = none) (hmode : s.notice.ackMode = false)
    (h : s.attentionSource = some a) : attentionAccess s = driveLines (attentionWord s.notice (some a)) (acknowledge a s) := by
  have hread : s.hostRead 0xFFC = attentionWord s.notice (some a) := by simp [State.hostRead, hr, h]
  rw [attentionAccess, hostReadEvent, hread]
  simp [readEffect, hr, readAttention, hmode, h]

/-- The word of a source that signals (R200). -/
theorem attentionWord_some (n : Notices) (a : Source) : attentionWord n (some a) =
    0x8000 ||| (BitVec.ofNat 16 a.rank <<< 8) ||| ((n.get a).status &&& 0x00FF) := rfl

section
variable {s : State} {a : Source}

theorem ackSource_none (h : ∀ a, ¬ (((s.notice.get a).pending = true ∧ (a = .trip ∨ (s.word 0x062).getLsbD a.rank = true)) ∧
    ∀ b, (s.notice.get b).service = true → a.rank < b.rank)) : s.notice.ackSource s.noticeEnable = none :=
  find_no_source fun a ha => h a (by
    rw [Bool.and_eq_true, signals_iff, outranksService_iff] at ha
    exact ha)

theorem ackSource_some
    (ha : (s.notice.get a).pending = true ∧ (a = .trip ∨ (s.word 0x062).getLsbD a.rank = true))
    (hs : ∀ b, (s.notice.get b).service = true → a.rank < b.rank)
    (hmin : ∀ b, ((s.notice.get b).pending = true ∧ (b = .trip ∨ (s.word 0x062).getLsbD b.rank = true)) →
      (∀ c, (s.notice.get c).service = true → b.rank < c.rank) → a.rank ≤ b.rank) :
    s.notice.ackSource s.noticeEnable = some a := by
  refine find_highest ?_ fun b hb => ?_
  · rw [Bool.and_eq_true, signals_iff, outranksService_iff]
    exact ⟨ha, hs⟩
  · rw [Bool.and_eq_true, signals_iff, outranksService_iff] at hb
    exact hmin b hb.1 hb.2

end

theorem details_length_le {s : State} {a : Source} (h : DetailsLaw s) : (s.notice.get a).details.length ≤ 3 := by
  rw [h a]
  split <;> decide

/-- What the claims of SERVICE say of a source put in force. -/
theorem setSource_written (s : State) (a : Source) {st : SourceState} (h : st.details.length ≤ 3) :
    setSource a st s = { s with
        notice := { s.notice.set a st with line := (setSource a st s).notice.line }
        mem := (setSource a st s).mem } ∧
      (setSource a st s).notice.line = (setSource a st s).notice.lineLevel (s.word 0x062) ∧
      ∀ b, 0x040 ≤ b → (setSource a st s).word b = s.word b :=
  ⟨rfl, setSource_line a s h, fun _ hb => setSource_word_outside a s h hb⟩

/-- Settles O45: a read of ATTENTION by its mode and the source that qualifies, and the commands of SERVICE. -/
theorem attentionAndService : Obligations.AttentionAndService := by
  unfold Obligations.AttentionAndService
  refine ⟨fun c s hr hdetails hc => ?attention, fun s hr hdetails => ?service⟩
  case attention =>
    have hexec : exec c s = .next (attentionAccess s) := by rcases hc with rfl | rfl <;> rfl
    have hwrite (v : Word) : exec (.hostWrite 0xFFC v) s = .next s :=
      (exec_hostWrite_register (a := 0xFFC) (by decide) v s).trans (congrArg Host.Outcome.next (event_still hr rfl))
    rw [hexec]
    refine ⟨fun hmode => ⟨fun h => ?_, fun a ha hs hmin => ?_⟩, fun hmode => ⟨fun h => ?_, fun a ha hmin => ?_⟩, hwrite⟩
    · have hsource : s.attentionSource = none := (if_neg (by simp [hmode])).trans (ackSource_none h)
      rw [attentionAccess_shows hr (.inr hsource), hsource, attentionWord_none]
    · have hsource : s.attentionSource = some a := (if_neg (by simp [hmode])).trans (ackSource_some ha hs hmin)
      refine ⟨_, congrArg Host.Outcome.next (attentionAccess_takes hr hmode hsource), ?_⟩
      obtain ⟨-, hline, hword⟩ := setSource_written s a (st := { s.notice.get a with
        pending := false, service := true, count := 0 }) (details_length_le hdetails)
      exact ⟨rfl, hline, hword⟩
    · have hsource : s.attentionSource = none := (if_pos hmode).trans (find_no_source fun a ha => h a ((signals_iff _ _ a).1 ha))
      rw [attentionAccess_shows hr (.inl hmode), hsource, attentionWord_none]
    · have hsource : s.attentionSource = some a := (if_pos hmode).trans
        (find_highest ((signals_iff _ _ a).2 ha) fun b hb => hmin b ((signals_iff _ _ b).1 hb))
      rw [attentionAccess_shows hr (.inl hmode), hsource, attentionWord_some]
  case service =>
    refine ⟨fun h => ?_, fun a ha hmin => ?_, fun a => ?_, fun v hv hend => ?_,
      fun a => ⟨serviceWord_pending _ a, serviceWord_service _ a⟩, (serviceWord_unused _).1, (serviceWord_unused _).2, ?_⟩
    · refine congrArg Host.Outcome.next (event_still hr ?_)
      have hsource : s.notice.serviceSource = none := find_no_source fun a ha => by simp [h a] at ha
      simp [endService, hsource]
    · have hsource : s.notice.serviceSource = some a := find_highest ha hmin
      refine ⟨_, congrArg Host.Outcome.next (event_setSource hr (a := a) ?_), setSource_written s a (details_length_le hdetails)⟩
      simp [endService, hsource]
    · refine ⟨_, congrArg Host.Outcome.next (event_setSource hr (a := a) ?_), setSource_written s a (details_length_le hdetails)⟩
      simp [serviceNumber, Source.ofWord_rank, clearSource]
    · have hnumber : hostWrite 0xFFD v { s with causes := Causes.none } = { s with causes := Causes.none } := by
        rw [hostWrite_serviceNumber hend, serviceNumber, Source.ofWord_none hv]
      exact congrArg Host.Outcome.next ((hostWriteEvent_other s v (by decide)).trans (event_still hr hnumber))
    · simp [State.hostRead, hr]

end Sys2Proof.Proofs
end

section
/-! SUPPORT. Requests: what an arrival and its answer leave, and the requests that do not touch the plan's chain. -/

namespace Sys2Proof.Proofs

open Sys2Proof.Machine Sys2Proof.Safety

/-! ### The arrival (R189, R190) -/

/-- A request as the port hands it on: counted, its word and arguments taken, with nothing noted yet. -/
def arrived (code : Word) (s : State) : State := takeArrival code { s with causes := Causes.none }

/-- What the judgement of a request leaves, before its refreshes. -/
def judgedRequest (code : Word) (s : State) : State := judgeRequest code (s.port.requestCount + 1) (arrived code s)

@[simp] theorem arrived_frame (code : Word) (s : State) :
    (arrived code s).timebase = s.timebase ∧ (arrived code s).partTime = s.partTime ∧ (arrived code s).pins = s.pins ∧
    (arrived code s).recv = s.recv ∧ (arrived code s).loops = s.loops ∧ (arrived code s).plan = s.plan ∧
    (arrived code s).drive = s.drive ∧ (arrived code s).track = s.track ∧ (arrived code s).gov = s.gov ∧
    (arrived code s).blade = s.blade ∧ (arrived code s).contact = s.contact ∧ (arrived code s).guard = s.guard ∧
    (arrived code s).dock = s.dock ∧ (arrived code s).notice = s.notice ∧ (arrived code s).causes = Causes.none ∧
    (arrived code s).pending = s.pending ∧ (arrived code s).resetting = s.resetting := by and_intros <;> rfl

theorem exec_request {c : Instr} {code : Word} (h : writeOfRow c = some (0x041, code)) (h0 : code ≠ 0) (s : State) :
    exec c s = .next (s.requestEvent code) := by
  cases c
  case heartbeatWrite | serviceEnd | serviceClear | portctlWrite => simp [writeOfRow] at h
  case hostWrite a v =>
    obtain ⟨rfl, rfl⟩ := Prod.mk.inj (Option.some.inj h)
    exact congrArg Host.Outcome.next (hostWriteEvent_request s h0)
  case unknownRequest v =>
    obtain ⟨-, rfl⟩ := Prod.mk.inj (Option.some.inj h)
    exact congrArg Host.Outcome.next (hostWriteEvent_request s h0)
  all_goals cases h
  all_goals rfl

theorem restarts_false {code : Word} {s : State} (h : code = 12 → s.guard.machine = .start) : s.restarts code = false := by
  by_cases hcode : code = 12
  · simp [State.restarts, h hcode]
  · exact Bool.and_eq_false_imp.2 fun h12 => absurd (of_decide_eq_true h12) hcode

theorem requestEvent_judged {s : State} {code : Word} (hr : s.resetting = none) (hnot : s.restarts code = false) :
    s.requestEvent code =
      { startMirrors false { s with causes := Causes.none } (judgedRequest code s) with causes := s.causes } := by
  have hrestarts : { s with causes := Causes.none }.restarts code = false := hnot
  rw [State.requestEvent, whenRunning_running hr, State.noting, hrestarts]
  rfl

/-- A request whose effect no mirror shows at once starts no refresh. -/
theorem requestEvent_unshown {s b : State} {code : Word} (hr : s.resetting = none) (hnot : s.restarts code = false)
    (hb : judgedRequest code s = b) (h : Unshown s b) (hc : b.causes = Causes.none) :
    s.requestEvent code = { b with causes := s.causes } := by
  have hquiet : startMirrors false { s with causes := Causes.none } b = b := startMirrors_unshown { h with } hc
  rw [requestEvent_judged hr hnot, hb, hquiet]

theorem arrived_word (code : Word) (s : State) {a : Nat} (h : a ≠ 0x041) : (arrived code s).word a = s.word a :=
  Memory.read_write_other _ _ h

theorem arrived_request {code : Word} (s : State) (h : code ≠ 0) : (arrived code s).word 0x041 = code :=
  read_write_of_wf_or_ne_zero _ (.inr h)

theorem arrived_canonical (code : Word) {s : State} (h : MemoryCanonical s) : MemoryCanonical (arrived code s) :=
  Memory.wf_write _ _ h

/-! ### The answer (R191) -/

theorem answerWith_echo {code : Word} (r : Result) (count : BitVec 8) (b : State) (h : code ≠ 0) :
    (answerWith code r count b).word 0x009 = code ∧ (answerWith code r count b).word 0x00A = r.code := by
  have hr : r.code ≠ 0 := by
    unfold Result.code
    split <;> decide
  have hword {a : Nat} (ha : a < 0x010) : (answerWith code r count b).word a =
      (b.mem.writeAll (answerCells ⟨code, r.code, r.reason, count⟩)).read a := post_word _ _ (.inl ha)
  rw [hword (by decide), hword (by decide)]
  exact ⟨read_writeAll_last _ [] h (by simp [cellsFrom, addrAnswer]),
    read_writeAll_last _ [(addrAnswer, code)] hr (by simp [cellsFrom, addrAnswer])⟩

/-- What an answered request leaves of the state `b` that its owner made. -/
structure Answered (s b u : State) (code : Word) (r : Result) : Prop where
  leaves : u = { b with
    port := { b.port with answer := ⟨code, r.code, r.reason, s.port.requestCount + 1⟩ }
    notice := u.notice
    mem := u.mem
    causes := s.causes }
  notice : u.notice = (answerWith code r (s.port.requestCount + 1) b).notice
  mem : u.mem = (answerWith code r (s.port.requestCount + 1) b).mem

theorem Answered.word {s b u : State} {code : Word} {r : Result} (h : Answered s b u code r) {a : Nat}
    (ha : a < 0x009 ∨ 0x040 ≤ a) : u.word a = b.word a :=
  (congrArg (Memory.read · a) h.mem).trans (answerWith_word _ _ _ _ ha)

/-- A request that is answered and whose effect no mirror shows at once. -/
theorem requestEvent_answered {s b : State} {code : Word} {r : Result} (hr : s.resetting = none)
    (hnot : s.restarts code = false) (hb : judgedRequest code s = answerWith code r (s.port.requestCount + 1) b)
    (h : Unshown s b) (hc : b.causes = Causes.none) : Answered s b (s.requestEvent code) code r := by
  rw [requestEvent_unshown hr hnot (hb.trans (answerWith_eq_update _ _ _ _)) { h with } hc]
  exact ⟨rfl, rfl, rfl⟩

theorem answerWith_posts {s : State} {code : Word} {r : Result} {count : BitVec 8} (h : s.noticesHeld = false) :
    Posts s (answerWith code r count (arrived code s)) .port 1 [wordN count.toNat] := by
  refine post_posts (.answered count) h rfl ?_
  refine (Memory.read_writeAll_outside _ fun c hc => ?_).trans (arrived_word code s (by decide))
  have hbounds := cellsFrom_bounds hc
  simp only [addrAnswer, List.length_cons, List.length_nil] at hbounds
  omega

theorem answerWith_held {s : State} {code : Word} {r : Result} {count : BitVec 8} (h : s.noticesHeld = true) :
    (answerWith code r count (arrived code s)).notice = s.notice := by
  rw [answerWith, post_held (by exact h)]
  rfl

/-- What a request leaves that is answered and does nothing besides. -/
abbrev TurnedAway (s u : State) (code result : Word) : Prop :=
  u = { s with
    port := { s.port with
      requestCount := s.port.requestCount + 1
      args := s.argWords
      answer := ⟨code, result, 0, s.port.requestCount + 1⟩ }
    notice := u.notice
    mem := u.mem } ∧
  (s.noticesHeld = false → Posts s u .port 1 [wordN (s.port.requestCount + 1).toNat]) ∧
  (s.noticesHeld = true → u.notice = s.notice) ∧
  u.word 0x041 = code ∧ u.word 0x009 = code ∧ u.word 0x00A = result ∧
  ∀ a, 0x040 ≤ a → a ≠ 0x041 → u.word a = s.word a

theorem exec_turnedAway {c : Instr} {s : State} {code : Word} {r : Result} (hr : s.resetting = none)
    (hrow : writeOfRow c = some (0x041, code)) (h0 : code ≠ 0) (hreason : r.reason = 0) (hnot : s.restarts code = false)
    (h : judgedRequest code s = answerWith code r (s.port.requestCount + 1) (arrived code s)) :
    ∃ u, exec c s = .next u ∧ TurnedAway s u code r.code := by
  have hanswered : Answered s (arrived code s) (s.requestEvent code) code r :=
    requestEvent_answered hr hnot h { Unshown.refl s with } rfl
  obtain ⟨hecho, hresult⟩ := answerWith_echo r (s.port.requestCount + 1) (arrived code s) h0
  refine ⟨_, exec_request hrow h0 s, hreason ▸ hanswered.leaves, fun hopen => ?posts,
    fun hheld => hanswered.notice.trans (answerWith_held hheld), (hanswered.word (.inr (by decide))).trans (arrived_request s h0),
    (congrArg (Memory.read · 0x009) hanswered.mem).trans hecho, (congrArg (Memory.read · 0x00A) hanswered.mem).trans hresult,
    fun a ha hne => (hanswered.word (.inr ha)).trans (arrived_word code s hne)⟩
  case posts =>
    rw [Posts, hanswered.notice]
    exact answerWith_posts hopen

/-- Settles O33: the three ways a request reaches no owner, which all answer and do nothing besides. -/
theorem requestsTurnedAway : Obligations.RequestsTurnedAway := by
  unfold Obligations.RequestsTurnedAway
  intro c code s hr hrow h0
  refine ⟨fun hm => ?start, fun hm hcheck hcode => ?checking, fun hm hcheck hcode => ?unknown⟩
  case start => exact exec_turnedAway (r := .notReady) hr hrow h0 rfl (restarts_false fun _ => hm) (if_pos hm)
  case checking =>
    refine exec_turnedAway (r := .busy) hr hrow h0 rfl (restarts_false fun h => absurd h hcode) ?_
    obtain ⟨n, hcheck⟩ := hcheck
    have hin : (arrived code s).port.inHand.isCheck = true := by simp [arrived, takeArrival, hcheck, InHand.isCheck]
    rw [judgedRequest, judgeRequest, if_neg (by exact hm), hin]
    exact if_pos (decide_eq_true hcode)
  case unknown =>
    have hcode12 : code ≠ 12 := by
      rintro rfl
      exact absurd hcode (by decide)
    refine exec_turnedAway (r := .unknown) hr hrow h0 rfl (restarts_false fun h => absurd h hcode12) ?_
    refine (judgeRequest_owner (s := arrived code s) hm (fun n hn => hcheck ⟨n, hn⟩) _ _).trans ?_
    unfold askOwner
    split
    case h_13 => rfl
    all_goals omega

/-! ### CLEAR_TRIP (R168) -/

/-- An OFF directive, at a blade that is not driven, is only noted. -/
theorem judgeBlade_idle {s : State} (h : s.plan.standing = .off ∨ s.guard.machine ≠ .armed)
    (hd : ¬ Driven s.blade.state) : judgeBlade s = { s with blade := { s.blade with effective := .off } } := by
  have he : s.effectiveDirective = .off := effectiveDirective_off h
  have hact : actOnDirective { s with blade := { s.blade with effective := .off } } =
      { s with blade := { s.blade with effective := .off } } := by
    cases hs : s.blade.state with
    | spinup => exact absurd (.inl hs) hd
    | cutting => exact absurd (.inr hs) hd
    | off => simp [actOnDirective, hs]
    | braking => simp [actOnDirective, hs]
    | jammed => simp [actOnDirective, hs]
    | lockedOut => simp [actOnDirective, hs]
  rw [judgeBlade, he, hact]
  rcases h with h | h <;> simp [reportUncut, State.armed, h]

theorem setMachine_idle {dest : MachineState} (hdest : dest ≠ .armed) {s : State} (hd : ¬ Driven s.blade.state) :
    setMachine dest s = { s with
      guard := { s.guard with machine := dest }
      mem := s.mem.write addrMachineState dest.code
      blade := { s.blade with effective := .off } } := judgeBlade_idle (.inr hdest) hd

theorem not_driven_of_unarmed {s : State} (h : BladeLaw s) (hm : s.guard.machine ≠ .armed) : ¬ Driven s.blade.state :=
  fun hd => hm (h.2 hd).1

theorem silent_iff (l : LoopState) : l.silent = true ↔ l = .lost ∨ l = .unused := by cases l <;> decide

theorem stands_iff (s : State) : s.stands = true ↔
    s.pins.lift.left = true ∨ s.pins.lift.right = true ∨ s.plan.applied.slopeTrip ≤ s.gov.slope ∨
      s.pins.stopKey = true ∨ s.loops.recs.l0.state = .lost ∨ s.loops.recs.l0.state = .unused := by
  simp only [State.stands, State.standsLift, State.standsTilt, State.standsStopKey, State.standsNoSignal,
    Bool.or_eq_true, decide_eq_true_eq, silent_iff, or_assoc]

/-- The record's eleventh word after its first says that it is cleared. -/
theorem tripCells_eq_append (r : TripRecord) : ∃ before, tripCells r =
    before ++ (0x28B, wordB r.cleared) :: cellsFrom 0x28C (timeWords r.clearTime) := ⟨(tripCells r).take 11, rfl⟩

theorem tripCells_cleared (m : Memory) {r : TripRecord} (h : r.cleared = true) :
    (m.writeAll (tripCells r)).read 0x28B = 1 := by
  obtain ⟨before, hcells⟩ := tripCells_eq_append r
  rw [hcells, h]
  refine read_writeAll_last m before (by decide) fun c hc => ?_
  have hbounds := cellsFrom_bounds hc
  omega

theorem tripCells_outside (r : TripRecord) {a : Nat} (ha : a < 0x280 ∨ 0x2A0 ≤ a) : ∀ c ∈ tripCells r, c.1 ≠ a := by
  intro c hc
  have hbounds := cellsFrom_bounds hc
  simp only [addrTripRecord, words32I, words32, List.length_append, List.length_cons, List.length_nil,
    timeWords_length] at hbounds
  omega

/-- The Guard after a taken CLEAR_TRIP. -/
def clearedGuard (s : State) : Guard :=
  { s.guard with machine := .safe, trip := { s.guard.trip with cleared := true, clearTime := some s.partTime } }

theorem takeClearTrip_eq {s : State} (hd : ¬ Driven s.blade.state) : takeClearTrip s = { s with
    guard := clearedGuard s
    mem := (s.mem.writeAll (tripCells (clearedGuard s).trip)).write addrMachineState 1
    blade := { s.blade with effective := .off } } := setMachine_idle (by decide) hd

theorem takeClearTrip_words {s : State} (hd : ¬ Driven s.blade.state) :
    (takeClearTrip s).word 0x002 = 1 ∧ (takeClearTrip s).word 0x28B = 1 ∧
      ∀ a, 0x040 ≤ a → (a < 0x280 ∨ 0x2A0 ≤ a) → (takeClearTrip s).word a = s.word a := by
  rw [takeClearTrip_eq hd]
  refine ⟨read_write_of_wf_or_ne_zero _ (.inr (by decide)), ?_, fun a ha hrecord => ?_⟩
  · exact (Memory.read_write_other _ _ (by decide)).trans (tripCells_cleared _ rfl)
  · have hstate : a ≠ addrMachineState := by
      simp only [addrMachineState]
      omega
    exact (Memory.read_write_other _ _ hstate).trans (Memory.read_writeAll_outside _ (tripCells_outside _ hrecord))

/-- Settles O36, by the rows of CLEAR_TRIP. -/
theorem clearTrip : Obligations.ClearTrip := by
  unfold Obligations.ClearTrip
  intro s hr hm hc
  have hnot : s.restarts 3 = false := restarts_false fun h => absurd h (by decide)
  have hasked : judgedRequest 3 s = askClearTrip (s.port.requestCount + 1) (arrived 3 s) :=
    judgeRequest_owner (s := arrived 3 s) hm hc _ _
  have hexec : exec .clearTrip s = .next (s.requestEvent 3) := rfl
  rw [← stands_iff]
  by_cases hrefused : s.guard.machine ≠ .tripped ∨ s.stands = true
  · obtain ⟨r, hr', hcode⟩ : ∃ r, askClearTrip (s.port.requestCount + 1) (arrived 3 s) =
        answerWith 3 r (s.port.requestCount + 1) (arrived 3 s) ∧ (⟨3, r.code, r.reason, s.port.requestCount + 1⟩ : Answer) =
          if s.guard.machine ≠ .tripped then ⟨3, 2, 0, s.port.requestCount + 1⟩ else ⟨3, 3, 8, s.port.requestCount + 1⟩ := by
      by_cases htripped : s.guard.machine ≠ .tripped
      · exact ⟨.refusedState, if_pos htripped, (if_pos htripped).symm⟩
      · have hstands := hrefused.resolve_left htripped
        exact ⟨.refusedCondition reasonStillPresent, (if_neg htripped).trans (if_pos hstands), (if_neg htripped).symm⟩
    have hanswered : Answered s (arrived 3 s) (s.requestEvent 3) 3 r :=
      requestEvent_answered hr hnot (hasked.trans hr') { Unshown.refl s with } rfl
    exact ⟨_, hexec, fun _ => ⟨hcode ▸ hanswered.leaves,
        fun a ha hne => (hanswered.word (.inr ha)).trans (arrived_word 3 s hne)⟩,
      fun htripped hstands => absurd hrefused (by tauto)⟩
  · obtain ⟨htripped, hstands⟩ : s.guard.machine = .tripped ∧ ¬ s.stands = true := by tauto
    refine ⟨_, hexec, fun hrefused' => absurd hrefused' hrefused, fun _ _ hblade => ?_⟩
    have hdriven : ¬ Driven s.blade.state := not_driven_of_unarmed hblade (by rw [htripped]; decide)
    have htaken : askClearTrip (s.port.requestCount + 1) (arrived 3 s) =
        answerWith 3 .done (s.port.requestCount + 1) (takeClearTrip (arrived 3 s)) :=
      (if_neg (not_not.2 htripped)).trans (if_neg hstands)
    obtain ⟨hmachine, hcleared, hother⟩ := takeClearTrip_words (s := arrived 3 s) hdriven
    have heq := takeClearTrip_eq (s := arrived 3 s) hdriven
    have hparked : MachineState.safe ≠ .parked ∧ s.guard.machine ≠ .parked := by rw [htripped]; decide
    have hanswered := requestEvent_answered hr hnot (hasked.trans htaken)
      (by rw [heq]; exact { Unshown.refl s with
            parked := (decide_eq_false hparked.1).trans (decide_eq_false hparked.2).symm })
      (by rw [heq]; rfl)
    refine ⟨hanswered.leaves.trans ?_, (hanswered.word (.inl (by decide))).trans hmachine,
      (hanswered.word (.inr (by decide))).trans hcleared,
      fun a ha hne hrecord => (hanswered.word (.inr ha)).trans ((hother a ha hrecord).trans (arrived_word 3 s hne))⟩
    rw [heq]
    rfl

end Sys2Proof.Proofs
end

section
/-! SUPPORT. The plan that ends in IDLE, PLAN_STOP, SET_POSE and CLEAR_CONTACTS. -/

namespace Sys2Proof.Proofs

open Sys2Proof.Machine Sys2Proof.Safety

/-! ### A segment's end (R52, R53) -/

/-- The end takes the segment off the plan, and with it its watch. -/
theorem closeSegment_plan (seg : Segment) (cause : EndCause) (s : State) :
    (closeSegment seg cause s).plan = { s.plan with active := none, watch := none } := by simp [closeSegment]

theorem endDock_run (cause : EndCause) (s : State) : (endDock cause s).dock.run = .none := by
  unfold endDock
  split
  · assumption
  · rfl

/-- The end stops the owner's run and the suspension (R52, R79, R93). -/
theorem closeSegment_owner (seg : Segment) (cause : EndCause) (s : State) :
    (closeSegment seg cause s).track = idleTrack ∧ (closeSegment seg cause s).drive = { s.drive with suspended := false } ∧
      (closeSegment seg cause s).dock.run = .none := by
  refine ⟨by simp [closeSegment], by simp [closeSegment], ?_⟩
  have hreport (t : State) : (reportDocked cause t).dock = t.dock := by simp
  exact (congrArg Dock.run (hreport _)).trans (endDock_run _ _)

/-- The slots of a segment's results: its own alone. -/
theorem resultCells_other {seg : Segment} {cause : EndCause} {mm : Nat} {duration : BitVec 32} {n : Slot} (hn : n ≠ seg.slot)
    {k : Nat} (hk : k < 32) : ∀ c ∈ resultCells seg cause mm duration, c.1 ≠ slotBase n + k := by
  intro c hc
  have hne : n.val ≠ seg.slot.val := fun h => hn (Fin.ext h)
  have hbase (m : Slot) : slotBase m = 0x400 + 32 * m.val := rfl
  simp only [resultCells, List.mem_append, List.mem_singleton, words32] at hc
  rcases hc with (hc | hc) | rfl
  · have hbounds := cellsFrom_bounds hc
    simp only [List.length_append, List.length_cons, List.length_nil] at hbounds
    have := hbase n
    have := hbase seg.slot
    omega
  · have hbounds := cellsFrom_bounds hc
    simp only [List.length_cons, List.length_nil] at hbounds
    have := hbase n
    have := hbase seg.slot
    omega
  · have := hbase n
    have := hbase seg.slot
    omega

/-- What a plan that a cause leads to IDLE leaves of an active segment: it is over, and no other slot is touched. -/
theorem abortPlan_over {s : State} {seg : Segment} {cause : EndCause} (ha : s.plan.active = some seg)
    (hc : ∀ o, cause.continuation o = .toIdle) :
    (abortPlan cause s).track.running = none ∧ (abortPlan cause s).drive.suspended = false ∧
      (abortPlan cause s).dock.run = .none ∧
      ∀ (n : Slot) (k : Nat), n ≠ seg.slot → k < 32 → (abortPlan cause s).word (slotBase n + k) = s.word (slotBase n + k) := by
  obtain ⟨htrack, hdrive, hdock⟩ := closeSegment_owner seg cause s
  rw [abortPlan_active ha hc]
  refine ⟨by simp [htrack, idleTrack], by simp [hdrive], by simp [hdock], fun n k hn hk => ?_⟩
  have hslot := slotBase_ge n
  rw [becomeIdle_word _ (by omega), postEnd_word _ _ _ (by omega), closeSegment_word _ _ _ (by omega)]
  exact Memory.read_writeAll_outside _ (resultCells_other hn hk)

/-! ### The plan becomes IDLE (R53, R60, R62) -/

/-- A plan at rest: nothing active, waiting, deferred or held, and an OFF directive. -/
def idled (p : Plan) : Plan :=
  { p with
    state := .idle
    active := none
    waiting := none
    deferred := none
    heldSlot := none
    holdTimer := none
    waitTimer := none
    watch := none
    standing := .off }

theorem becomeIdle_idled (s : State) : (becomeIdle s).plan = idled s.plan := by
  unfold becomeIdle handStanding
  rw [judgeBlade_plan (.inl rfl)]
  rfl

theorem judgeBlade_effective (s : State) : (judgeBlade s).blade.effective = s.effectiveDirective := by
  rw [(judgeBlade_eq_act s).1]
  unfold actOnDirective
  split <;> rfl

theorem becomeIdle_effective (s : State) : (becomeIdle s).blade.effective = .off :=
  (judgeBlade_effective _).trans (effectiveDirective_off (.inl rfl))

theorem abortPlan_idled (s : State) {cause : EndCause} (hc : ∀ o, cause.continuation o = .toIdle) :
    (abortPlan cause s).plan = idled s.plan ∧ (abortPlan cause s).blade.effective = .off := by
  cases ha : s.plan.active with
  | none =>
    have hidle : abortPlan cause s = becomeIdle s := by simp [abortPlan, ha]
    rw [hidle]
    exact ⟨becomeIdle_idled s, becomeIdle_effective s⟩
  | some seg =>
    rw [abortPlan_active ha hc]
    refine ⟨?_, becomeIdle_effective _⟩
    rw [becomeIdle_idled, show (postEnd seg cause (closeSegment seg cause s)).plan = _ by simp; rfl, closeSegment_plan]
    rfl

/-! ### PLAN_STOP (R60) -/

theorem takePlanStop_idle {s : State} (h : s.plan.state = .idle) : takePlanStop s = s := by
  unfold takePlanStop
  split <;> simp_all

/-- A plan that is not IDLE is ended STOPPED. -/
theorem takePlanStop_abort {s : State} (h : s.plan.state ≠ .idle) : takePlanStop s = abortPlan .stopped s := by
  unfold takePlanStop abortPlan
  split
  · exact absurd ‹_› h
  · simp_all
  · simp_all

/-! ### An answered request, whatever refreshes it starts (R190, R191, R196) -/

theorem startRefresh_eq_update (m : Mirror) (s : State) :
    startRefresh m s = { s with port := (startRefresh m s).port, mem := (startRefresh m s).mem } := by
  unfold startRefresh
  split <;> rfl

/-- Beside the port and the memory the two states are one. -/
def OnlyPort (b t : State) : Prop := t = { b with port := t.port, mem := t.mem }

theorem OnlyPort.startRefresh {b t : State} (h : OnlyPort b t) (m : Mirror) : OnlyPort b (startRefresh m t) := by
  unfold OnlyPort at *
  rw [startRefresh_eq_update, h]

theorem OnlyPort.startRefreshIf {b t : State} (h : OnlyPort b t) (p : Prop) [Decidable p] (m : Mirror) :
    OnlyPort b (if p then Machine.startRefresh m t else t) := by
  split
  · exact h.startRefresh m
  · exact h

/-- The refreshes of an event move the port and the memory alone. -/
theorem startMirrors_eq_update (w : Bool) (a b : State) :
    startMirrors w a b = { b with port := (startMirrors w a b).port, mem := (startMirrors w a b).mem } := by
  have hself : OnlyPort b b := rfl
  unfold startMirrors
  dsimp only
  split
  · exact (hself.startRefreshIf _ .loopTable).startRefreshIf _ .contactList
  · exact ((hself.startRefreshIf _ .loopTable).startRefreshIf _ .contactList).startRefresh .snapshot

/-- What an answered request leaves of the state `b` that its owner made, beside the mirrors' refreshes. -/
structure Settled (s b u : State) (code : Word) (r : Result) : Prop where
  leaves : u = { b with port := u.port, notice := u.notice, mem := u.mem, causes := s.causes }
  answer : u.port.answer = ⟨code, r.code, r.reason, s.port.requestCount + 1⟩
  word : ∀ a, 0x040 ≤ a → a ≠ 0x100 → a ≠ 0x180 → a ≠ 0x200 → u.word a = b.word a

theorem requestEvent_settled {s b : State} {code : Word} {r : Result} (hr : s.resetting = none)
    (hnot : s.restarts code = false) (hb : judgedRequest code s = answerWith code r (s.port.requestCount + 1) b) :
    Settled s b (s.requestEvent code) code r := by
  rw [requestEvent_judged hr hnot, hb]
  constructor
  case leaves =>
    rw [startMirrors_eq_update, answerWith_eq_update]
  case answer => simp
  case word =>
    intro a ha h1 h2 h3
    exact (startMirrors_word _ _ _ h1 h2 h3).trans (answerWith_word _ _ _ _ (.inr ha))

/-- The blocks that the answer and the refreshes leave to the owner. -/
theorem Settled.blocks {s b u : State} {code : Word} {r : Result} (h : Settled s b u code r) :
    u.timebase = b.timebase ∧ u.partTime = b.partTime ∧ u.recv = b.recv ∧ u.loops = b.loops ∧ u.plan = b.plan ∧
      u.drive = b.drive ∧ u.track = b.track ∧ u.gov = b.gov ∧ u.blade = b.blade ∧ u.contact = b.contact ∧
      u.guard = b.guard ∧ u.dock = b.dock := by
  rw [h.leaves]
  and_intros <;> rfl

theorem slotBase_lt (n : Slot) : slotBase n < 0xA00 := by
  have hlt : n.val < 48 := n.isLt
  unfold slotBase
  omega

/-- The words of the slots stand over an arrival and an answer. -/
theorem Settled.slotWord {s b u : State} {code : Word} {r : Result} (h : Settled s b u code r) (n : Slot) (k : Nat) :
    u.word (slotBase n + k) = b.word (slotBase n + k) := by
  have := slotBase_ge n
  exact h.word _ (by omega) (by omega) (by omega) (by omega)

/-- Settles O38, by whether the plan is IDLE, and whether a segment is active. -/
theorem planStop : Obligations.PlanStop := by
  unfold Obligations.PlanStop
  intro s hr hm hc
  have hasked : judgedRequest 5 s = answerWith 5 .done (s.port.requestCount + 1) (takePlanStop (arrived 5 s)) :=
    judgeRequest_owner (s := arrived 5 s) hm hc _ _
  have hsettled := requestEvent_settled hr (restarts_false fun h => absurd h (by decide)) hasked
  obtain ⟨htimebase, hpart, hrecv, hloops, hplan, hdrive, htrack, hgov, hblade, hcontact, hguard, hdock⟩ := hsettled.blocks
  have hidle : ∀ o, EndCause.stopped.continuation o = .toIdle := fun _ => rfl
  refine ⟨_, rfl, htimebase.trans (by simp), hpart.trans (by simp), hrecv.trans (by simp), hloops.trans (by simp),
    hgov.trans (by simp), hguard.trans (by simp), hcontact.trans (by simp), (congrArg Drive.wheels hdrive).trans (by simp),
    hsettled.answer, fun hstate => ?idle, fun hstate => ?ends, fun seg hstate ha => ?slot⟩
  case idle =>
    have hnothing := takePlanStop_idle (s := arrived 5 s) hstate
    rw [hplan, hblade, hnothing]
    exact ⟨rfl, rfl⟩
  case ends =>
    have habort := takePlanStop_abort (s := arrived 5 s) hstate
    obtain ⟨hidled, heffective⟩ := abortPlan_idled (arrived 5 s) hidle
    rw [hplan, hblade, habort, hidled]
    exact ⟨rfl, rfl, rfl, rfl, rfl, rfl, rfl, rfl, rfl, rfl, heffective⟩
  case slot =>
    have habort := takePlanStop_abort (s := arrived 5 s) hstate
    obtain ⟨hcut, hcause⟩ := abortPlan_slot (s := arrived 5 s) ha hidle
    obtain ⟨hrun, hsuspended, -, hother⟩ := abortPlan_over (s := arrived 5 s) ha hidle
    have hstart := slotBase_ge
    rw [htrack, hdrive]
    rw [habort] at hsettled ⊢
    refine ⟨(hsettled.slotWord seg.slot 0).trans hcut, (hsettled.slotWord seg.slot 20).trans hcause, hrun, hsuspended,
      fun n hn => ((hsettled.slotWord n 0).trans (hother n 0 hn (by decide))).trans (arrived_word 5 s ?_)⟩
    have := slotBase_ge n
    omega

/-! ### SET_POSE and CLEAR_CONTACTS (R77, R145, R146) -/

/-- The word of a segment kind (R204). -/
def kindWord : Kind → Word
  | .roll => 1
  | .turn => 2
  | .pause => 3
  | .track => 4
  | .dock => 5
  | .undock => 6

theorem kind?_iff {f : Fields} {k : Kind} : f.kind? = some k ↔ f.kind = kindWord k := by
  constructor
  · intro h
    refine BitVec.eq_of_toNat_eq ?_
    unfold Fields.kind? Kind.ofWord at h
    split at h
    case h_7 => cases h
    all_goals
      cases h
      assumption
  · intro h
    unfold Fields.kind?
    rw [h]
    cases k <;> rfl

theorem activeKind_iff {s : State} {k : Kind} :
    s.activeKind = some k ↔ ∃ seg, s.plan.active = some seg ∧ seg.fields.kind = kindWord k := by
  unfold State.activeKind
  cases s.plan.active with
  | none => simp
  | some seg => simp [kind?_iff]

/-- A noted change of the contact list starts a refresh of its mirror, whatever its outcome shows (R145). -/
theorem startMirrors_contacts {a b : State} (hl : loopMirrorChanged a b = false) (hp : b.parked = a.parked)
    (hn : b.causes = ⟨false, true⟩) : startMirrors false a b = startRefresh .contactList b := by
  simp [startMirrors, hl, hp, hn]

/-- Settles O39: SET_POSE moves the drive alone; CLEAR_CONTACTS is the one request that notes a change of its mirror. -/
theorem setPoseAndClearContacts : Obligations.SetPoseAndClearContacts := by
  unfold Obligations.SetPoseAndClearContacts
  intro s hr hm hc
  refine ⟨?setPose, ?clearContacts⟩
  case setPose =>
    have hasked : judgedRequest 6 s = answerWith 6 .done (s.port.requestCount + 1) (takeSetPose (arrived 6 s)) :=
      judgeRequest_owner (s := arrived 6 s) hm hc _ _
    have hanswered := requestEvent_answered hr (restarts_false fun h => absurd h (by decide)) hasked { Unshown.refl s with } rfl
    have href : (s.requestEvent 6).drive.headingRef = s.movedRef (s.word 0x046) := by rw [hanswered.leaves]; rfl
    refine ⟨_, rfl, ?_, fun hrolls => ?_, fun hrolls => ?_, fun a ha hne =>
      (hanswered.word (.inr ha)).trans (arrived_word 6 s hne)⟩
    · rw [href]
      exact hanswered.leaves
    · rw [href, State.movedRef, if_pos (activeKind_iff.2 hrolls)]
    · rw [href, State.movedRef, if_neg (mt activeKind_iff.1 hrolls)]
  case clearContacts =>
    have hasked : judgedRequest 7 s = answerWith 7 .done (s.port.requestCount + 1) (noteContacts (setList [] (arrived 7 s))) :=
      judgeRequest_owner (s := arrived 7 s) hm hc _ _
    have hcleared : startMirrors false { s with causes := Causes.none } (judgedRequest 7 s) =
        startRefresh .contactList (judgedRequest 7 s) := by
      rw [hasked, answerWith_eq_update]
      exact startMirrors_contacts (loopMirrorChanged_false rfl rfl rfl fun _ => rfl) rfl rfl
    have hword {a : Nat} (ha : 0x040 ≤ a) (hne : a ≠ 0x041) : (judgedRequest 7 s).word a = s.word a := by
      rw [hasked]
      exact (answerWith_word _ _ _ _ (.inr ha)).trans (arrived_word 7 s hne)
    have hlist : (judgedRequest 7 s).port.contactList = s.port.contactList := by
      rw [hasked, answerWith_eq_update]
      rfl
    have hwf (hs : MemoryCanonical s) : MemoryCanonical (judgedRequest 7 s) := by
      rw [hasked]
      exact answerWith_wf _ _ _ (arrived_canonical 7 hs)
    have hnot : s.restarts 7 = false := restarts_false fun h => absurd h (by decide)
    have hevent := (requestEvent_judged hr hnot).trans (congrArg (fun t : State => { t with causes := s.causes }) hcleared)
    refine ⟨_, congrArg Host.Outcome.next hevent, ?leaves, hevent ▸ (requestEvent_settled hr hnot hasked).answer, fun a ha hne hopen => (startRefresh_word .contactList _ hopen).trans (hword ha hne),
      fun hw => ?starts, fun hw => ?again⟩
    case leaves =>
      rw [startRefresh_eq_update, hasked, answerWith_eq_update]
      rfl
    case starts =>
      rw [startRefresh_idle (m := .contactList) ((congrArg Refresh.writing hlist).trans hw)]
      refine ⟨rfl, rfl, fun hs => ?_⟩
      exact (Memory.read_write_same (hwf hs) _ _).trans (congrArg (· + 1) (hword (by decide) (by decide)))
    case again =>
      obtain ⟨copy, hcopy⟩ := Option.isSome_iff_exists.1 hw
      rw [startRefresh_writing (m := .contactList) (copy := copy) ((congrArg Refresh.writing hlist).trans hcopy)]
      refine ⟨?_, hword (by decide) (by decide)⟩
      rw [← hcopy]
      rfl

end Sys2Proof.Proofs
end

section
/-! SUPPORT. The end of a POWER, PIN or STROBE reset, and RESTART. -/

namespace Sys2Proof.Proofs

open Sys2Proof.Machine Sys2Proof.Safety

/-! ### Reading the initial memory (R207) -/

theorem read_of_no_cell {m : Memory} {a : Nat} (h : ∀ c ∈ m, c.1 ≠ a) : Memory.read m a = 0 := by
  induction m with
  | nil => rfl
  | cons c m ih =>
    rw [Memory.read, if_neg (h c List.mem_cons_self).symm]
    exact ih fun d hd => h d (List.mem_cons_of_mem _ hd)

theorem read_append_right {m n : Memory} {a : Nat} (h : ∀ c ∈ m, c.1 ≠ a) : Memory.read (m ++ n) a = Memory.read n a := by
  induction m with
  | nil => rfl
  | cons c m ih =>
    rw [List.cons_append, Memory.read, if_neg (h c List.mem_cons_self).symm]
    exact ih fun d hd => h d (List.mem_cons_of_mem _ hd)

/-- A cell of a rising list is read, whatever follows the list. -/
theorem read_append_cell {m n : Memory} {a : Nat} {v : Word} (hrising : m.Pairwise (fun c d => c.1 < d.1))
    (h : (a, v) ∈ m) : Memory.read (m ++ n) a = v := by
  induction m with
  | nil => cases h
  | cons c m ih =>
    obtain ⟨hfirst, hrest⟩ := List.pairwise_cons.1 hrising
    rw [List.cons_append, Memory.read]
    rcases List.mem_cons.1 h with rfl | h
    · exact if_pos rfl
    · rw [if_neg (Nat.ne_of_gt (hfirst _ h))]
      exact ih hrest h

theorem read_scratchOf (m : Memory) {a : Nat} (h : areaOf a = .scratch) : Memory.read (scratchOf m) a = Memory.read m a := by
  induction m with
  | nil => rfl
  | cons c m ih =>
    have hscratch (n : Memory) : scratchOf n = n.filter (fun c => decide (areaOf c.1 = Area.scratch)) := rfl
    by_cases hc : areaOf c.1 = .scratch
    · rw [hscratch, List.filter_cons_of_pos (by simpa using hc), Memory.read, Memory.read, ← hscratch, ih]
    · have hne : a ≠ c.1 := fun h' => hc (h' ▸ h)
      rw [hscratch, List.filter_cons_of_neg (by simpa using hc), Memory.read, if_neg hne, ← hscratch, ih]

section
variable {check : Check} {blade : Blade} {contact : Contact} {guard : Guard} {scratch : Memory}

/-- A cell of the initialisation that is not 0 is read. -/
theorem initMemory_cell {a : Nat} {v : Word} (h : (a, v) ∈ initCells check blade contact guard) (hv : v ≠ 0) :
    (initMemory check blade contact guard scratch).read a = v := by
  obtain ⟨hrising, -⟩ := initCells_spread check blade contact guard
  exact read_append_cell (hrising.filter _) (List.mem_filter.2 ⟨h, decide_eq_true hv⟩)

/-- From the slots on the memory at a reset's end is the host scratch area it was given. -/
theorem initMemory_scratch {a : Nat} (h : 0x400 ≤ a) :
    (initMemory check blade contact guard scratch).read a = Memory.read scratch a := by
  obtain ⟨-, hbounds⟩ := initCells_spread check blade contact guard
  refine read_append_right fun c hc => ?_
  have := (hbounds c (List.mem_filter.1 hc).1).2
  omega

end

/-- Settles O4, by the fields of the initial state and the words of its memory. -/
theorem resetEndInitialises : Obligations.ResetEndInitialises := by
  unfold Obligations.ResetEndInitialises
  intro s
  refine ⟨fun hr => ?running, fun r hr => ?resetting⟩
  case running => exact congrArg Host.Outcome.next (by simp [endReset, hr])
  case resetting =>
    have hend : endReset s = State.initial r.cause (s.recordAtEnd r.cause) s.pins (s.checkAtEnd r)
        (s.scratchAtEnd r.cause) s.pending := by simp [endReset, hr]
    have hscratch {a : Nat} (ha : 0x400 ≤ a) : (State.initial r.cause (s.recordAtEnd r.cause) s.pins (s.checkAtEnd r)
        (s.scratchAtEnd r.cause) s.pending).word a = Memory.read (s.scratchAtEnd r.cause) a := initMemory_scratch ha
    refine ⟨_, congrArg Host.Outcome.next hend, rfl, rfl, rfl, rfl, rfl, rfl, rfl, rfl, rfl, rfl, fun a ha hlt => ?slots,
      fun a ha hlt => ?scratch, fun i => ?wheels, rfl, rfl, rfl, rfl, rfl, fun hp => ?power, fun hp => ?braking, ?duty,
      fun hp => ?powerRecord, fun hp => ?record, fun src => ?notice, rfl, rfl, ?identity, ?limit⟩
    case slots =>
      refine (hscratch ha).trans ?_
      unfold State.scratchAtEnd
      split
      · rfl
      · refine read_of_no_cell fun c hc => ?_
        have := scratchOf_ge _ c hc
        simp only [addrScratch] at this
        omega
    case scratch =>
      refine (hscratch (by omega)).trans ?_
      unfold State.scratchAtEnd
      split
      · rfl
      · exact read_scratchOf _ (areaOf_scratch_iff.2 ⟨ha, hlt⟩)
    case wheels => cases i <;> exact ⟨rfl, rfl⟩
    case power =>
      rw [hp]
      exact ⟨rfl, rfl, rfl⟩
    case braking =>
      cases hcause : r.cause with
      | power => exact absurd hcause hp
      | pin => exact ⟨rfl, rfl, rfl⟩
      | strobe => exact ⟨rfl, rfl, rfl⟩
      | restart => exact ⟨rfl, rfl, rfl⟩
    case duty => cases r.cause <;> rfl
    case powerRecord => exact if_pos hp
    case record =>
      refine (if_neg hp : s.recordAtEnd r.cause = _).trans ?_
      rw [Guard.recordAfter, satAdd_one]
    case notice => cases src <;> exact ⟨rfl, rfl, rfl⟩
    case identity => exact initMemory_cell (by simp [initCells, Config.identWord]) (by decide)
    case limit => exact initMemory_cell (by simp [initCells, initLiveCells, cellsFrom, addrGlobalMax]) (by decide)

/-! ### RESTART (R61, R170, R171, R185, R196) -/

/-- The end of a segment writes its slot, the header's notices and the records alone. -/
theorem abortPlan_word (cause : EndCause) (hc : ∀ o, cause.continuation o = .toIdle) (s : State) {a : Nat}
    (ha : 0x040 ≤ a ∧ a < 0x280 ∨ 0xA00 ≤ a) : (abortPlan cause s).word a = s.word a := by
  cases hactive : s.plan.active with
  | none =>
    have hidle : abortPlan cause s = becomeIdle s := by simp [abortPlan, hactive]
    rw [hidle, becomeIdle_word _ (by omega)]
  | some seg =>
    rw [abortPlan_active hactive hc, becomeIdle_word _ (by omega), postEnd_word _ _ _ (by omega)]
    have hdock (t : State) : (endDock cause t).word a = t.word a := endDock_word _ _ (by omega)
    have hreport (t : State) : (reportDocked cause t).word a = t.word a := by
      unfold reportDocked
      split
      · exact post_word _ _ (by omega)
      · rfl
    rw [closeSegment, hreport, hdock]
    refine Memory.read_writeAll_outside _ fun c hcell => ?_
    have hlow := slotBase_ge seg.slot
    have hhigh : slotBase seg.slot + 32 ≤ 0xA00 := by
      have hlt : seg.slot.val < 48 := seg.slot.isLt
      unfold slotBase
      omega
    simp only [resultCells, List.mem_append, List.mem_singleton, words32] at hcell
    rcases hcell with (hcell | hcell) | rfl
    · have hbounds := cellsFrom_bounds hcell
      simp only [List.length_append, List.length_cons, List.length_nil] at hbounds
      omega
    · have hbounds := cellsFrom_bounds hcell
      simp only [List.length_cons, List.length_nil] at hbounds
      omega
    · simp only
      omega

theorem endForRestart_active {s : State} {seg : Segment} (h : s.plan.active = some seg) :
    endForRestart s = abortPlan .restart s := by simp [endForRestart, abortPlan, h]

theorem endForRestart_none {s : State} (h : s.plan.active = none) : endForRestart s = s := by simp [endForRestart, h]

theorem restart_toIdle : ∀ o, EndCause.restart.continuation o = .toIdle := fun _ => rfl

theorem endForRestart_activation (s : State) : (endForRestart s).plan.activation = s.plan.activation := by
  cases h : s.plan.active with
  | none => rw [endForRestart_none h]
  | some seg =>
    rw [endForRestart_active h, (abortPlan_idled s restart_toIdle).1]
    rfl

theorem endForRestart_appliedGen (s : State) : (endForRestart s).plan.appliedGen = s.plan.appliedGen := by
  cases h : s.plan.active with
  | none => rw [endForRestart_none h]
  | some seg =>
    rw [endForRestart_active h, (abortPlan_idled s restart_toIdle).1]
    rfl

theorem endForRestart_word (s : State) {a : Nat} (ha : 0x040 ≤ a ∧ a < 0x280 ∨ 0xA00 ≤ a) :
    (endForRestart s).word a = s.word a := by
  cases h : s.plan.active with
  | none => rw [endForRestart_none h]
  | some seg => rw [endForRestart_active h, abortPlan_word _ restart_toIdle s ha]

theorem endForRestart_slot (s : State) {n : Slot} (hn : s.activeSlot ≠ some n) {k : Nat} (hk : k < 32) :
    (endForRestart s).word (slotBase n + k) = s.word (slotBase n + k) := by
  cases h : s.plan.active with
  | none => rw [endForRestart_none h]
  | some seg =>
    have hne : n ≠ seg.slot := fun hn' => hn (by simp [State.activeSlot, h, hn'])
    obtain ⟨-, -, -, hother⟩ := abortPlan_over h restart_toIdle
    rw [endForRestart_active h, hother n k hne hk]

/-- Which words a RESTART rewrites: the header and the records. -/
theorem restartCells_outside {s : State} (hd : DetailsLaw s) {a : Nat} (ha : 0x040 ≤ a ∧ a < 0x280 ∨ 0x400 ≤ a) :
    ∀ c ∈ restartCells s, c.1 ≠ a := by
  intro c hc
  simp only [restartCells, List.mem_append] at hc
  rcases hc with ((((((hc | hc) | hc) | hc) | hc) | hc) | hc)
  · simp only [List.mem_cons, List.not_mem_nil, or_false] at hc
    rcases hc with rfl | rfl
    · simp only [addrMachineState]
      omega
    · simp only [addrFaults]
      omega
  · have hbounds := cellsFrom_bounds hc
    simp only [addrResetRecord, List.length_cons, List.length_nil] at hbounds
    omega
  · obtain ⟨src, -, hc⟩ := List.mem_flatMap.1 hc
    have hbounds := sourceCells_header (details_length_le hd) hc
    omega
  · exact tripCells_outside _ (by omega) c hc
  · exact bladeCells_outside _ (by omega) c hc
  · exact dockCells_outside _ (by omega) c hc
  · have hbounds := cellsFrom_bounds hc
    simp only [addrCheckRecord, words32, checkCoilWords, List.length_append, List.length_cons, List.length_nil] at hbounds
    omega

theorem initNotices_cleared (atnEnable ackMode : Bool) (src : Source) :
    ((initNotices atnEnable ackMode).get src).status = 0 ∧ ((initNotices atnEnable ackMode).get src).pending = false ∧
      ((initNotices atnEnable ackMode).get src).count = 0 := by cases src <;> exact ⟨rfl, rfl, rfl⟩

theorem startAll_word (s : State) {a : Nat} (h1 : a ≠ 0x100) (h2 : a ≠ 0x180) (h3 : a ≠ 0x200) :
    (startAll s).word a = s.word a :=
  (startRefresh_word .contactList _ h3).trans ((startRefresh_word .loopTable _ h2).trans (startRefresh_word .snapshot _ h1))

/-- Beside the header, the mirrors, the records and the ended segment's slot, RESTART leaves the words alone. -/
theorem takeRestart_word (count : BitVec 8) (s : State) {a : Nat} (ha : 0x040 ≤ a ∧ a < 0x100 ∨ 0x400 ≤ a) :
    (takeRestart count s).word a = (endForRestart s).word a := by
  have hdetails : DetailsLaw (blocksAfterRestart count (endForRestart s)) := by
    intro src
    cases src <;> rfl
  unfold takeRestart
  dsimp only
  generalize hblocks : blocksAfterRestart count (endForRestart s) = t at hdetails ⊢
  have hmem : t.mem = (endForRestart s).mem := by rw [← hblocks, (blocksAfterRestart_frame _ _).2.2.2.2.2.1]
  rw [startAll_word _ (by omega) (by omega) (by omega), State.word_eq, State.word_eq, ← hmem]
  exact Memory.read_writeAll_outside _ (restartCells_outside hdetails (by omega))

/-- The blocks that RESTART leaves; the refreshes of the mirrors move the port's refreshes and the memory alone. -/
theorem restarted_blocks (s : State) :
    let ended := blocksAfterRestart (s.port.requestCount + 1) (endForRestart (restartArrival s))
    (restarted s).guard = ended.guard ∧ (restarted s).plan = ended.plan ∧ (restarted s).drive = ended.drive ∧
      (restarted s).blade = ended.blade ∧ (restarted s).contact = ended.contact ∧ (restarted s).dock = ended.dock ∧
      (restarted s).notice = ended.notice ∧ (restarted s).partTime = s.partTime ∧ (restarted s).timebase = s.timebase ∧
      (restarted s).pins = s.pins ∧ (restarted s).resetting = s.resetting := by
  simp [restarted, takeRestart, restartArrival, State.putAll]

theorem restarted_port (s : State) :
    (restarted s).port.faults = 0 ∧ (restarted s).port.requestCount = s.port.requestCount + 1 ∧
      (restarted s).port.inHand = .restart (s.port.requestCount + 1) ∧ (restarted s).port.answer = s.port.answer := by
  simp [restarted, takeRestart, restartArrival, State.putAll, startAll, blocksAfterRestart, Port.afterRestart, takeArrival]

theorem restarted_word (s : State) {a : Nat} (ha : 0x040 ≤ a ∧ a < 0x100 ∨ 0x400 ≤ a) :
    (restarted s).word a = (endForRestart (restartArrival s)).word a := by
  have hmem : (restarted s).mem = (takeRestart (s.port.requestCount + 1) (restartArrival s)).mem := rfl
  rw [State.word_eq, hmem, ← State.word_eq, takeRestart_word _ _ ha]

theorem restartArrival_word (s : State) {a : Nat} (h : a ≠ 0x041) : (restartArrival s).word a = s.word a :=
  Memory.read_write_other _ _ h

/-- Settles O5, by the blocks and the words after RESTART. -/
theorem restartTaken : Obligations.RestartTaken := by
  unfold Obligations.RestartTaken
  intro s hr hm
  obtain ⟨hguard, hplan, hdrive, hblade, hcontact, hdock, hnotice, hpart, htimebase, hpins, hresetting⟩ := restarted_blocks s
  obtain ⟨hfaults, hcount, hinHand, hanswer⟩ := restarted_port s
  have hended : (endForRestart (restartArrival s)).guard = s.guard := by
    rw [(endForRestart_frame _).2.2.2.2.2.2.2.2.1]
    rfl
  have happlied : (endForRestart (restartArrival s)).plan.applied = s.plan.applied := by simp [restartArrival]
  refine ⟨restarted s, exec_restart hr hm, hresetting.trans hr, hpart, htimebase, hpins, by rw [hguard]; rfl, ?record,
    by rw [hplan]; rfl, by rw [hplan]; rfl, by rw [hplan]; rfl, ?activation, ?applied, ?generation, fun i => ?targets,
    by rw [hdrive]; rfl, by rw [hdrive]; rfl, by rw [hdrive]; rfl, by rw [hblade]; rfl, by rw [hblade]; rfl,
    by rw [hblade]; rfl, by rw [hcontact]; rfl, by rw [hcontact]; rfl, by rw [hdock]; rfl, hfaults, hcount, hinHand, hanswer,
    fun src => ?sources, ?atnEnable, ?ackMode, by rw [hnotice]; rfl, ?request, fun a ha hlt => ?command,
    fun a ha hlt => ?scratch, fun n k hk hn => ?slots, fun seg hseg => ?segment⟩
  case record =>
    rw [hguard]
    refine (congrArg (Guard.recordAfter · .restart) hended).trans ?_
    rw [Guard.recordAfter, satAdd_one]
  case activation =>
    rw [hplan]
    exact endForRestart_activation (restartArrival s)
  case applied =>
    rw [hplan]
    exact happlied
  case generation =>
    rw [hplan]
    exact endForRestart_appliedGen (restartArrival s)
  case targets =>
    rw [hdrive]
    cases i <;> rfl
  case sources =>
    rw [(restarted_portctl s).2]
    exact initNotices_cleared _ _ src
  case atnEnable => rw [(restarted_portctl s).2]; rfl
  case ackMode => rw [(restarted_portctl s).2]; rfl
  case request =>
    exact (restarted_word s (by omega)).trans ((endForRestart_word _ (by omega)).trans
      (read_write_of_wf_or_ne_zero _ (.inr (by decide))))
  case command =>
    exact (restarted_word s (by omega)).trans ((endForRestart_word _ (by omega)).trans (restartArrival_word s (by omega)))
  case scratch =>
    exact (restarted_word s (by omega)).trans ((endForRestart_word _ (by omega)).trans (restartArrival_word s (by omega)))
  case slots =>
    have := slotBase_ge n
    exact (restarted_word s (by omega)).trans ((endForRestart_slot (restartArrival s) hn hk).trans
      (restartArrival_word s (by omega)))
  case segment =>
    have hseg' : (restartArrival s).plan.active = some seg := hseg
    obtain ⟨hcut, hcause⟩ := abortPlan_slot hseg' restart_toIdle
    rw [← endForRestart_active hseg'] at hcut hcause
    have := slotBase_ge seg.slot
    exact ⟨(restarted_word s (.inr this)).trans hcut, (restarted_word s (by omega)).trans hcause⟩

end Sys2Proof.Proofs
end

section
/-! SUPPORT. The Wire Receiver: what its events leave, its edges, its decoder and its timers. -/

namespace Sys2Proof.Proofs

open Sys2Proof.Machine Sys2Proof.Safety

/-! ### An event of the receiver (R19, R38) -/

/-- Beside the channels all that a mirror shows at once is in one state as in the other. -/
structure OnlyChannels (a b : State) : Prop where
  recs : b.loops.recs = a.loops.recs
  posClass : b.loops.posClass = a.loops.posClass
  near : b.loops.stationNear = a.loops.stationNear
  list : b.contact.list = a.contact.list
  parked : b.parked = a.parked

theorem OnlyChannels.refl (s : State) : OnlyChannels s s := ⟨rfl, rfl, rfl, rfl, rfl⟩

/-- What an event of the receiver leaves, of the state `b` its rules make of `s`: a change of a channel's counts starts a
refresh of the loop table mirror. -/
structure Received (s b u : State) : Prop where
  leaves : u = { b with
    port := { b.port with loopTable := u.port.loopTable }
    mem := u.mem
    causes := s.causes }
  word : ∀ a, a ≠ 0x180 → u.word a = b.word a
  same : (∀ i, channelView (b.recv.channels.get i) = channelView (s.recv.channels.get i)) →
    u.port.loopTable = b.port.loopTable ∧ u.mem = b.mem
  starts : ∀ i, channelView (b.recv.channels.get i) ≠ channelView (s.recv.channels.get i) →
    b.port.loopTable.writing = none →
      u.port.loopTable.writing.isSome = true ∧ u.mem = b.mem.write 0x180 (b.word 0x180 + 1)
  again : ∀ i, channelView (b.recv.channels.get i) ≠ channelView (s.recv.channels.get i) →
    b.port.loopTable.writing.isSome = true →
      u.port.loopTable = { b.port.loopTable with again := true } ∧ u.mem = b.mem

theorem Received.leaves_port {s b u : State} (h : Received s b u) :
    u = { b with port := u.port, mem := u.mem, causes := s.causes } := by
  have hport : u.port = { b.port with loopTable := u.port.loopTable } := congrArg State.port h.leaves
  exact h.leaves.trans (by rw [← hport])

theorem loopMirrorChanged_of_channel {a b : State} (i : Coil)
    (h : channelView (b.recv.channels.get i) ≠ channelView (a.recv.channels.get i)) : loopMirrorChanged a b = true := by
  unfold loopMirrorChanged
  cases i
  · simp [Ne.symm (show channelView b.recv.channels.left ≠ channelView a.recv.channels.left from h)]
  · simp [Ne.symm (show channelView b.recv.channels.right ≠ channelView a.recv.channels.right from h)]
  · simp [Ne.symm (show channelView b.recv.channels.rear ≠ channelView a.recv.channels.rear from h)]

/-- A change that the loop table mirror shows starts its refresh. -/
theorem startMirrors_shown {a b : State} (hl : loopMirrorChanged a b = true) (hlist : b.contact.list = a.contact.list)
    (hp : b.parked = a.parked) (hn : b.causes = Causes.none) : startMirrors false a b = startRefresh .loopTable b := by
  simp [startMirrors, hl, hlist, hp, hn, Causes.none]

theorem event_received {s b : State} {f : State → State} (hr : s.resetting = none)
    (hb : f { s with causes := Causes.none } = b) (h : OnlyChannels s b) (hc : b.causes = Causes.none) :
    Received s b (s.event f) := by
  by_cases hview : ∀ i, channelView (b.recv.channels.get i) = channelView (s.recv.channels.get i)
  · rw [event_unshown hr hb { h with channels := hview } hc]
    exact ⟨rfl, fun _ _ => rfl, fun _ => ⟨rfl, rfl⟩, fun i hi => absurd (hview i) hi, fun i hi => absurd (hview i) hi⟩
  · obtain ⟨j, hj⟩ := not_forall.1 hview
    have hshown : startMirrors false { s with causes := Causes.none } b = startRefresh .loopTable b :=
      startMirrors_shown (loopMirrorChanged_of_channel j hj) h.list h.parked hc
    rw [event_running hr, State.noting, hb, hshown]
    cases hw : b.port.loopTable.writing with
    | none =>
      rw [startRefresh_idle (m := .loopTable) hw]
      exact ⟨rfl, fun a ha => Memory.read_write_other _ _ ha, fun hsame => absurd hsame hview,
        fun _ _ _ => ⟨rfl, rfl⟩, fun _ _ hsome => absurd hsome (by simp [hw])⟩
    | some copy =>
      rw [startRefresh_writing (m := .loopTable) (copy := copy) hw]
      refine ⟨rfl, fun _ _ => rfl, fun hsame => absurd hsame hview, fun _ _ hnone => absurd hnone (by simp [hw]),
        fun _ _ _ => ⟨?_, rfl⟩⟩
      rw [← hw]
      rfl

@[simp] theorem Three.get_set_same {α : Type} (p : Three α) (i : Coil) (x : α) : (p.set i x).get i = x := by cases i <;> rfl

theorem Three.get_set_other {α : Type} (p : Three α) {i j : Coil} (h : j ≠ i) (x : α) : (p.set i x).get j = p.get j := by
  cases i <;> cases j <;> simp_all [Three.get, Three.set]

/-- A channel put in force whose counts stand. -/
theorem channelView_set {s : State} {i : Coil} {d : Channel} (h : channelView d = channelView (s.recv.channels.get i))
    (j : Coil) : channelView ((s.recv.channels.set i d).get j) = channelView (s.recv.channels.get j) := by
  by_cases hj : j = i
  · rw [hj, Three.get_set_same, h]
  · rw [Three.get_set_other _ hj]

/-- An event that puts a channel in force, with its counts as they stood. -/
theorem event_channel {s : State} {i : Coil} {d : Channel} {t : Capture} (f : State → State) (hr : s.resetting = none)
    (hf : f { s with timebase := t, causes := Causes.none } =
      setChannel i d { s with timebase := t, causes := Causes.none })
    (hview : channelView d = channelView (s.recv.channels.get i)) :
    s.event (fun a => f (a.atTime t)) =
      { s with timebase := t, recv := { s.recv with channels := s.recv.channels.set i d } } :=
  event_timed f hr hf { Unshown.refl s with channels := channelView_set hview } rfl

/-- An event that comes to nothing but its capture time. -/
theorem event_passed {s : State} {t : Capture} (f : State → State) (hr : s.resetting = none)
    (hf : f { s with timebase := t, causes := Causes.none } = { s with timebase := t, causes := Causes.none }) :
    s.event (fun a => f (a.atTime t)) = { s with timebase := t } :=
  event_timed f hr hf { Unshown.refl s with } rfl

/-! ### What a channel hears (R21, R22) -/

theorem sourcePulses_leading (n : Nat) :
    sourcePulses.any (fun p => decide (p.1 = n)) = true ↔ n ∈ sourceLeading := by
  simp [sourcePulses, sourceLeading, eq_comm (b := n)]

theorem sourcePulses_trailing (n : Nat) :
    sourcePulses.any (fun p => decide (p.2 = n)) = true ↔ n ∈ sourceTrailing := by
  simp [sourcePulses, sourceTrailing, eq_comm (b := n)]

theorem hearsLeading_iff (s : State) (t : Capture) : s.hearsLeading t = true ↔ Heard s t sourceLeading := by
  have hsends : s.recv.check.sendsLeading t = true ↔ 0 < s.recv.check.begun ∧ sourceOffset s t ∈ sourceLeading := by
    rw [Check.sendsLeading, Bool.and_eq_true, decide_eq_true_iff, sourcePulses_leading]
    rfl
  by_cases hc : s.recv.check.result = .running
  · simp [State.hearsLeading, State.checking, hc, hsends, Heard]
  · simp [State.hearsLeading, State.checking, hc, Heard]

theorem hearsTrailing_iff (s : State) (t : Capture) : s.hearsTrailing t = true ↔ Heard s t sourceTrailing := by
  have hsends : s.recv.check.sendsTrailing t = true ↔ 0 < s.recv.check.begun ∧ sourceOffset s t ∈ sourceTrailing := by
    rw [Check.sendsTrailing, Bool.and_eq_true, decide_eq_true_iff, sourcePulses_trailing]
    rfl
  by_cases hc : s.recv.check.result = .running
  · simp [State.hearsTrailing, State.checking, hc, hsends, Heard]
  · simp [State.hearsTrailing, State.checking, hc, Heard]

/-! ### The blanking interval and the gap timer at an edge (R7, R9, R14) -/

theorem settleInterval_early {t : Capture} {s : State} (h : ∀ e, s.recv.blankEnd = some e → due t e = false) :
    settleInterval t s = s := by
  unfold settleInterval
  split
  · rfl
  · exact if_neg (by rw [h _ ‹_›]; decide)

theorem blanked_early {t : Capture} {s : State} (h : ∀ e, s.recv.blankEnd = some e → due t e = false) :
    s.blanked t = s.recv.blankEnd.isSome := by
  unfold State.blanked
  split
  · simp [*]
  · simp [*, h _ ‹_›]

theorem gapEnd_early {c : Channel} {t : Capture} (h : ∀ e, c.gap = .running e → due t e = false) : c.gapEnd t = c := by
  unfold Channel.gapEnd
  split
  · exact if_neg (by rw [h _ ‹_›]; decide)
  · rfl
  · rfl

theorem gapEnd_due {c : Channel} {t e : Capture} (h : c.gap = .running e) (hd : due t e = true) : c.gapEnd t = c.broken := by
  simp [Channel.gapEnd, h, hd]

/-! ### Leading edges (R4, R5, R8, R9) -/

theorem leadingAt_heard {i : Coil} {t : Capture} {s : State} (hh : s.hearsLeading t = true)
    (hb : ∀ e, s.recv.blankEnd = some e → due t e = false)
    (hg : ∀ e, (s.recv.channels.get i).gap = .running e → due t e = false) :
    leadingAt i t s = setChannel i ((s.recv.channels.get i).leadingEdge t s.recv.blankEnd.isSome) s := by
  unfold leadingAt
  dsimp only
  rw [if_pos hh, settleInterval_early hb, blanked_early hb, gapEnd_early hg]

theorem leadingEdge_view (c : Channel) (t : Capture) (blanked : Bool) :
    channelView (c.leadingEdge t blanked) = channelView c := by
  unfold Channel.leadingEdge
  (repeat' split) <;> rfl

theorem exec_leadingEdge {i : Coil} {t : Capture} {s : State} (hr : s.resetting = none) (hh : Heard s t sourceLeading)
    (hb : ∀ e, s.recv.blankEnd = some e → due t e = false)
    (hg : ∀ e, (s.recv.channels.get i).gap = .running e → due t e = false) :
    exec (.comparatorLeadingEdge i t) s = .next { s with
      timebase := t
      recv := { s.recv with
        channels := s.recv.channels.set i ((s.recv.channels.get i).leadingEdge t s.recv.blankEnd.isSome) } } :=
  congrArg Host.Outcome.next (event_channel (leadingAt i t) hr
    (leadingAt_heard (s := { s with timebase := t, causes := Causes.none }) ((hearsLeading_iff s t).2 hh) hb hg)
    (leadingEdge_view _ _ _))

/-- Settles O7, by the pulse state and the blanking interval that the edge finds. -/
theorem leadingEdge : Obligations.LeadingEdge := by
  unfold Obligations.LeadingEdge
  intro i t s hr
  refine ⟨fun hh => ?deaf, fun hh hb hg => ?heard⟩
  case deaf =>
    have hdeaf : ¬ s.hearsLeading t = true := mt (hearsLeading_iff s t).1 hh
    exact congrArg Host.Outcome.next (event_passed (leadingAt i t) hr (if_neg hdeaf))
  case heard =>
    rw [exec_leadingEdge hr hh hb hg]
    refine ⟨fun hp hopen => ?_, fun hp hblank => ?_, fun hp hheld hblank => ?_, fun hp hpass => ?_⟩
    · cases hgap : (s.recv.channels.get i).gap <;> simp [Channel.leadingEdge, hp, hopen, hgap, GapTimer.pause]
    · simp [Channel.leadingEdge, hp, hblank]
    · have hnoted : (s.recv.channels.get i).leadingEdge t s.recv.blankEnd.isSome =
          { s.recv.channels.get i with noted := true } := by
        unfold Channel.leadingEdge
        split
        · exact absurd ‹_› hp
        · simp [hheld, hblank]
        · simp [hheld, hblank]
      rw [hnoted]
    · have hpassed : (s.recv.channels.get i).leadingEdge t s.recv.blankEnd.isSome = s.recv.channels.get i := by
        unfold Channel.leadingEdge
        split
        · exact absurd ‹_› hp
        · rcases hpass with hpass | hpass <;> simp [hpass]
        · rcases hpass with hpass | hpass <;> simp [hpass]
      rw [hpassed]

/-! ### Trailing edges (R4..R6, R9..R15) -/

theorem trailingAt_heard {i : Coil} {t : Capture} {peak : Byte} {s : State} (hh : s.hearsTrailing t = true)
    (hb : ∀ e, s.recv.blankEnd = some e → due t e = false) : trailingAt i t peak s =
      takeDecoded i ((s.recv.channels.get i).trailingEdge t peak s.recv.blankEnd.isSome) s := by
  unfold trailingAt
  dsimp only
  rw [if_pos hh, settleInterval_early hb, blanked_early hb]

/-- A trailing edge that completes no frame, with the counts as they stood. -/
theorem exec_trailingEdge {i : Coil} {t : Capture} {peak : Byte} {s : State} {d : Channel} (hr : s.resetting = none)
    (hh : Heard s t sourceTrailing) (hb : ∀ e, s.recv.blankEnd = some e → due t e = false)
    (hd : (s.recv.channels.get i).trailingEdge t peak s.recv.blankEnd.isSome = (d, none))
    (hview : channelView d = channelView (s.recv.channels.get i)) :
    exec (.comparatorTrailingEdge i t peak) s =
      .next { s with timebase := t, recv := { s.recv with channels := s.recv.channels.set i d } } := by
  refine congrArg Host.Outcome.next (event_channel (trailingAt i t peak) hr ?_ hview)
  refine (trailingAt_heard (s := { s with timebase := t, causes := Causes.none }) ((hearsTrailing_iff s t).2 hh) hb).trans ?_
  exact congrArg (takeDecoded i · _) hd

section
variable {c : Channel} {t leading : Capture} {peak : Byte} {sample : Option Sample}

/-- The channel after a pulse that has ended (R5). -/
def endedAs (c : Channel) (after : Pulse) (peak : Byte) : Channel :=
  { c with pulse := after, held := false, noted := false, peak := peak }

theorem takePulse_glitch {after : Pulse} (hp : c.pulse = .opened leading sample)
    (hg : since t leading < 25 ∨ sample = some .void) :
    c.takePulse t after = ((endedAs c after c.peak).afterGlitch t, none) := by
  have hglitch : isGlitch (since t leading) sample = true := by
    simpa [isGlitch] using hg
  simp [Channel.takePulse, hp, hglitch, endedAs]

theorem takePulse_decode {after : Pulse} (hp : c.pulse = .opened leading sample) (hw : 25 ≤ since t leading)
    (hs : sample ≠ some .void) : c.takePulse t after = (endedAs c after c.peak).decode
      ⟨leading, t, since t leading, sample.bind Sample.polarity, c.peak⟩ := by
  have hglitch : isGlitch (since t leading) sample = false := by
    simp [isGlitch, hs]
    omega
  simp [Channel.takePulse, hp, hglitch, endedAs]

/-- A pulse that is no glitch, outside a blanking interval, goes to the decoder. -/
theorem trailingEdge_decode (hp : c.pulse = .opened leading sample) (hheld : c.held = false) (hw : 25 ≤ since t leading)
    (hs : sample ≠ some .void) : c.trailingEdge t peak false = (endedAs c .none peak).decode
      ⟨leading, t, since t leading, sample.bind Sample.polarity, peak⟩ := by
  have htaken := takePulse_decode (c := { c with peak := peak }) (after := .none) hp hw hs
  have hedge : c.trailingEdge t peak false = Channel.takePulse { c with peak := peak } t .none := by
    simp [Channel.trailingEdge, hp, hheld]
  exact hedge.trans htaken

theorem trailingEdge_open (hp : c.pulse = .opened leading sample) (hheld : c.held = false) :
    c.trailingEdge t peak false = Channel.takePulse { c with peak := peak } t .none := by
  simp [Channel.trailingEdge, hp, hheld]

end

theorem widthClass_start {w : Nat} : widthClass w = .start ↔ 170 ≤ w ∧ w ≤ 230 := by
  unfold widthClass
  split_ifs <;> simp <;> omega

theorem widthClass_bit {w : Nat} {b : Nat} : (widthClass w).bit = some b ↔
    (30 ≤ w ∧ w ≤ 70 ∨ 80 ≤ w ∧ w ≤ 120) ∧ b = if w ≤ 70 then 0 else 1 := by
  unfold widthClass
  split_ifs <;> simp [WidthClass.bit] <;> omega

/-- A START pulse with a polarity begins a frame (R11). -/
theorem hunt_start {c : Channel} {p : EndedPulse} {q : Polarity} (hw : 170 ≤ p.width ∧ p.width ≤ 230)
    (hq : p.sample = some q) : c.hunt p = { c with
      decoder := .ident ⟨q, p.peak, 0, 0⟩
      prevTrailing := p.trailing
      gap := .running (p.trailing + 71) } := by
  simp [Channel.hunt, widthClass_start.2 hw, hq, gapExpiry]

theorem hunt_passed {c : Channel} {p : EndedPulse} (h : p.sample = none ∨ p.width < 170 ∨ 230 < p.width) :
    c.hunt p = c := by
  unfold Channel.hunt
  split
  · have := widthClass_start.1 ‹widthClass p.width = .start›
    simp_all
    omega
  · rfl

theorem decode_hunt {c : Channel} {p : EndedPulse} (h : c.decoder = .hunt) : c.decode p = (c.hunt p, none) := by
  simp [Channel.decode, h]

/-- Settles O8, by the pulse state that the edge finds. -/
theorem trailingEdge : Obligations.TrailingEdge := by
  unfold Obligations.TrailingEdge
  intro i t peak s hr
  refine ⟨fun hh => ?deaf, fun hh hb => ?heard⟩
  case deaf =>
    have hdeaf : ¬ s.hearsTrailing t = true := mt (hearsTrailing_iff s t).1 hh
    exact congrArg Host.Outcome.next (event_passed (trailingAt i t peak) hr (if_neg hdeaf))
  case heard =>
    refine ⟨fun hp => ?none, fun hp hheld => ?lost, fun leading sample hp hheld => ⟨fun hblank => ?held, fun hopen hglitch hgap => ?glitch,
      fun hopen hhunt hw hs => ⟨fun q hq h170 h230 => ?start, fun hpass => ?passed⟩⟩⟩
    case none => exact exec_trailingEdge hr hh hb (by simp [Channel.trailingEdge, hp]) rfl
    case lost =>
      refine exec_trailingEdge hr hh hb ?_ rfl
      rcases hheld with hheld | hheld <;> simp [Channel.trailingEdge, hp, hheld]
    case held =>
      refine exec_trailingEdge hr hh hb ?_ rfl
      simp [Channel.trailingEdge, hp, hheld, hblank, heldSample]
    case glitch =>
      have htaken := takePulse_glitch (c := { s.recv.channels.get i with peak := peak }) (after := .none) hp hglitch
      have hedge := (trailingEdge_open (t := t) (peak := peak) hp hheld).trans htaken
      rw [← show s.recv.blankEnd.isSome = false by simp [hopen]] at hedge
      refine exec_trailingEdge hr hh hb (hedge.trans (Prod.ext ?_ rfl)) rfl
      unfold Channel.afterGlitch
      cases hg : (s.recv.channels.get i).gap with
      | running e => simp [endedAs, hg]
      | paused e => simp [endedAs, hg, hgap e hg]
      | stopped => simp [endedAs, hg]
    case start =>
      have hedge := trailingEdge_decode (peak := peak) hp hheld hw hs
      rw [← show s.recv.blankEnd.isSome = false by simp [hopen]] at hedge
      refine exec_trailingEdge hr hh hb (hedge.trans (decode_hunt hhunt)) ?_ |>.trans ?_
      · rw [hunt_start ⟨h170, h230⟩ hq]
        rfl
      · rw [hunt_start ⟨h170, h230⟩ hq]
        rfl
    case passed =>
      have hedge := trailingEdge_decode (peak := peak) hp hheld hw hs
      rw [← show s.recv.blankEnd.isSome = false by simp [hopen]] at hedge
      have hnone : sample.bind Sample.polarity = none ∨ since t leading < 170 ∨ 230 < since t leading := by
        rcases hpass with hpass | hpass
        · exact .inl (by rw [hpass]; rfl)
        · exact .inr hpass
      rw [decode_hunt (c := endedAs (s.recv.channels.get i) .none peak) hhunt, hunt_passed (by exact hnone)] at hedge
      exact exec_trailingEdge hr hh hb hedge rfl

/-! ### A pulse in IDENT or PARITY (R10, R12, R13, R15) -/

/-- The tests of a bit: the gap, the polarity and the width (R12). -/
def Passes (c : Channel) (f : Frame) (p : EndedPulse) : Prop :=
  30 ≤ since p.leading c.prevTrailing ∧ since p.leading c.prevTrailing ≤ 70 ∧ p.sample = some f.start ∧
    (30 ≤ p.width ∧ p.width ≤ 70 ∨ 80 ≤ p.width ∧ p.width ≤ 120)

theorem bitOf_passes {c : Channel} {f : Frame} {p : EndedPulse} (h : Passes c f p) :
    c.bitOf f p = some (if p.width ≤ 70 then 0 else 1) := by
  obtain ⟨hlow, hhigh, hsample, hwidth⟩ := h
  have hgap : goodGap (since p.leading c.prevTrailing) = true := by simp [goodGap, hlow, hhigh]
  rw [Channel.bitOf, hgap, if_neg (by decide), if_neg (not_not.2 hsample)]
  exact widthClass_bit.2 ⟨hwidth, rfl⟩

theorem bitOf_fails {c : Channel} {f : Frame} {p : EndedPulse} (h : ¬ Passes c f p) : c.bitOf f p = none := by
  cases hbit : c.bitOf f p with
  | none => rfl
  | some b =>
    refine absurd ?_ h
    unfold Channel.bitOf at hbit
    split at hbit
    · cases hbit
    · split at hbit
      · cases hbit
      · obtain ⟨hwidth, -⟩ := widthClass_bit.1 hbit
        have hgap : goodGap (since p.leading c.prevTrailing) = true := by simpa using ‹¬ (!goodGap _) = true›
        simp only [goodGap, Bool.and_eq_true, decide_eq_true_eq] at hgap
        exact ⟨hgap.1, hgap.2, not_not.1 ‹_›, hwidth⟩

theorem decode_ident_passes {c : Channel} {f : Frame} {p : EndedPulse} (hd : c.decoder = .ident f) (h : Passes c f p) :
    c.decode p = (c.collect f (if p.width ≤ 70 then 0 else 1) p, none) := by
  simp only [Channel.decode, hd, bitOf_passes h]

theorem decode_ident_fails {c : Channel} {f : Frame} {p : EndedPulse} (hd : c.decoder = .ident f) (h : ¬ Passes c f p) :
    c.decode p = (c.broken.hunt p, none) := by
  simp only [Channel.decode, hd, bitOf_fails h]

/-- A pulse judged in HUNT, by its width and its sample. -/
theorem hunt_eq (c : Channel) (p : EndedPulse) {q : Polarity} (hq : p.sample = some q) : c.hunt p =
    if 170 ≤ p.width ∧ p.width ≤ 230 then
      { c with decoder := .ident ⟨q, p.peak, 0, 0⟩, prevTrailing := p.trailing, gap := .running (p.trailing + 71) }
    else c := by
  split
  · exact hunt_start ‹_› hq
  · exact hunt_passed (.inr (by omega))

theorem broken_eq (c : Channel) : c.broken = { c with
    malformed := if c.malformed < 65535 then c.malformed + 1 else 65535, decoder := .hunt, gap := .stopped } := by
  rw [Channel.broken, satAdd_one]

/-- An event of the receiver that puts a channel in force, whatever its counts. -/
theorem event_channel_received {s : State} {i : Coil} {d : Channel} {t : Capture} (f : State → State)
    (hr : s.resetting = none) (hf : f { s with timebase := t, causes := Causes.none } =
      setChannel i d { s with timebase := t, causes := Causes.none }) :
    Received s { s with timebase := t, recv := { s.recv with channels := s.recv.channels.set i d }, causes := Causes.none }
      (s.event (fun a => f (a.atTime t))) :=
  event_received hr hf { OnlyChannels.refl s with } rfl

/-- The sample that a pulse of a polarity gives. -/
def sampleOf : Polarity → Sample
  | .positive => .positive
  | .negative => .negative

@[simp] theorem sampleOf_polarity (q : Polarity) : (sampleOf q).polarity = some q := by cases q <;> rfl

theorem sampleOf_ne_void (q : Polarity) : some (sampleOf q) ≠ some .void := by cases q <;> decide

/-- Settles O9, by whether the pulse passes the tests of a bit. -/
theorem identityBit : Obligations.IdentityBit := by
  unfold Obligations.IdentityBit
  intro i t peak s f leading q hr hopen hh
  dsimp only
  intro hpulse hheld hident hw
  have hp : (s.recv.channels.get i).pulse = .opened leading (some (sampleOf q)) := by cases q <;> exact hpulse
  have hearly : ∀ e, s.recv.blankEnd = some e → due t e = false := by simp [hopen]
  have hedge := trailingEdge_decode (peak := peak) hp hheld hw (sampleOf_ne_void q)
  rw [Option.bind_some, sampleOf_polarity, ← show s.recv.blankEnd.isSome = false by simp [hopen]] at hedge
  generalize hended : endedAs (s.recv.channels.get i) .none peak = ended at hedge
  have hdecoder : ended.decoder = .ident f := by rw [← hended]; exact hident
  have hgood : Passes ended f ⟨leading, t, since t leading, some q, peak⟩ ↔
      30 ≤ since leading (s.recv.channels.get i).prevTrailing ∧ since leading (s.recv.channels.get i).prevTrailing ≤ 70 ∧
        q = f.start ∧ (30 ≤ since t leading ∧ since t leading ≤ 70 ∨ 80 ≤ since t leading ∧ since t leading ≤ 120) := by
    rw [← hended]
    simp [Passes, endedAs]
  rw [← hgood]
  refine ⟨fun hpass => ?good, fun hfail => ?broken⟩
  case good =>
    rw [decode_ident_passes hdecoder hpass] at hedge
    refine (exec_trailingEdge hr hh hearly hedge (by rw [← hended]; rfl)).trans ?_
    rw [← hended]
    rfl
  case broken =>
    rw [decode_ident_fails hdecoder hfail] at hedge
    have hat : trailingAt i t peak { s with timebase := t, causes := Causes.none } = setChannel i
        (ended.broken.hunt ⟨leading, t, since t leading, some q, peak⟩)
        { s with timebase := t, causes := Causes.none } := by
      refine (trailingAt_heard (s := { s with timebase := t, causes := Causes.none })
        ((hearsTrailing_iff s t).2 hh) hearly).trans ?_
      have hedge' : (({ s with timebase := t, causes := Causes.none } : State).recv.channels.get i).trailingEdge t peak
        ({ s with timebase := t, causes := Causes.none } : State).recv.blankEnd.isSome = _ := hedge
      rw [hedge']
      rfl
    have hreceived := event_channel_received (trailingAt i t peak) hr hat
    have hchannel : ended.broken.hunt ⟨leading, t, since t leading, some q, peak⟩ = { ended with
        malformed := if ended.malformed < 65535 then ended.malformed + 1 else 65535
        decoder := if 170 ≤ since t leading ∧ since t leading ≤ 230 then .ident ⟨q, peak, 0, 0⟩ else .hunt
        prevTrailing := if 170 ≤ since t leading ∧ since t leading ≤ 230 then t else ended.prevTrailing
        gap := if 170 ≤ since t leading ∧ since t leading ≤ 230 then .running (t + 71) else .stopped } := by
      rw [hunt_eq _ _ rfl, broken_eq]
      by_cases h : 170 ≤ since t leading ∧ since t leading ≤ 230
      · simp only [if_pos h]
      · simp only [if_neg h]
    rw [hchannel, ← hended] at hreceived
    exact ⟨_, rfl, hreceived.leaves_port, hreceived.word⟩

end Sys2Proof.Proofs
end

section
/-! SUPPORT. The receiver's timers, the blanking interval and the self-check. -/

namespace Sys2Proof.Proofs

open Sys2Proof.Machine Sys2Proof.Safety

/-! ### The polarity sample (R5, R22) -/

theorem sourcePulses_sends (n : Nat) :
    sourcePulses.any (fun p => decide (p.1 ≤ n) && decide (n < p.2)) = true ↔
      n < 200 ∨ 250 ≤ n ∧ n < 350 ∨ 400 ≤ n ∧ n < 500 ∨ 550 ≤ n ∧ n < 650 ∨ 700 ≤ n ∧ n < 800 ∨ 850 ≤ n ∧ n < 950 := by
  simp [sourcePulses]

theorem sourceLevel_eq (s : State) (t : Capture) : s.recv.check.sourceLevel t =
    if SourceSends s t then (if s.recv.check.begun ≤ 4 then .positive else .negative) else .inside := by
  have hsends : (decide (0 < s.recv.check.begun) && sourcePulses.any (fun p =>
      decide (p.1 ≤ s.recv.check.sourceTime t) && decide (s.recv.check.sourceTime t < p.2))) = true ↔ SourceSends s t := by
    rw [Bool.and_eq_true, decide_eq_true_iff, sourcePulses_sends]
    rfl
  have hlevel : s.recv.check.sent.level = if s.recv.check.begun ≤ 4 then .positive else .negative := by
    unfold Check.sent
    split <;> rfl
  unfold Check.sourceLevel
  rw [← hlevel]
  by_cases h : SourceSends s t
  · rw [if_pos h, if_pos (hsends.2 h)]
  · rw [if_neg h, if_neg (mt hsends.1 h)]

theorem heardLevel_eq (s : State) (t : Capture) (level : Level) : s.heardLevel t level =
    if s.recv.check.result = .running then
      (if SourceSends s t then (if s.recv.check.begun ≤ 4 then .positive else .negative) else .inside)
    else level := by
  rw [State.heardLevel, sourceLevel_eq]
  simp [State.checking]

/-- The sample that a level gives. -/
def levelSample : Level → Sample
  | .positive => .positive
  | .negative => .negative
  | .inside => .void

theorem samplePoint_open {c : Channel} {leading t : Capture} {level : Level} (h : c.pulse = .opened leading none) :
    c.samplePoint t level =
      if due t (leading + 25) then { c with pulse := .opened leading (some (levelSample level)) } else c := by
  simp only [Channel.samplePoint, h]
  cases level <;> rfl

theorem samplePoint_passed {c : Channel} {t : Capture} {level : Level} (h : ∀ leading, c.pulse ≠ .opened leading none) :
    c.samplePoint t level = c := by
  unfold Channel.samplePoint
  split
  · exact absurd ‹_› (h _)
  · rfl
  · rfl
  · rfl

theorem samplePoint_view (c : Channel) (t : Capture) (level : Level) : channelView (c.samplePoint t level) = channelView c := by
  unfold Channel.samplePoint
  (repeat' split) <;> rfl

theorem exec_polaritySample {s : State} (hr : s.resetting = none) (i : Coil) (t : Capture) (level : Level) :
    exec (.polaritySample i t level) s = .next { s with
      timebase := t
      recv := { s.recv with
        channels := s.recv.channels.set i ((s.recv.channels.get i).samplePoint t (s.heardLevel t level)) } } :=
  congrArg Host.Outcome.next (event_channel
    (fun a => setChannel i ((a.recv.channels.get i).samplePoint t (a.heardLevel t level)) a) hr rfl (samplePoint_view _ _ _))

/-! ### Over-length and the gap timer (R5, R14, R15) -/

theorem exec_overLength_early {s : State} (hr : s.resetting = none) {i : Coil} {t : Capture}
    (h : (s.recv.channels.get i).overLong t = false) : exec (.overLengthExpiry i t) s = .next { s with timebase := t } :=
  congrArg Host.Outcome.next (event_passed (overLengthAt i t) hr (if_neg (by exact ne_true_of_eq_false h)))

theorem takeOverLength_hunt {c : Channel} {leading : Capture} {sample : Option Sample} (hp : c.pulse = .opened leading sample)
    (hd : c.decoder = .hunt) (hs : sample ≠ some .void) : c.takeOverLength = ({ c with pulse := .lost }, none) := by
  have hglitch : isGlitch 231 sample = false := by simp [isGlitch, hs]
  have hdecode : Channel.decode { c with pulse := .lost } ⟨leading, leading + 231, 231, sample.bind Sample.polarity, c.peak⟩ =
      ({ c with pulse := .lost }, none) := by
    rw [decode_hunt (by exact hd), hunt_passed (.inr (.inr (show 230 < 231 by decide)))]
  simp only [Channel.takeOverLength, hp, hglitch]
  exact hdecode

theorem exec_overLength_due {s : State} (hr : s.resetting = none) {i : Coil} {t leading : Capture} {sample : Option Sample}
    (hp : (s.recv.channels.get i).pulse = .opened leading sample) (hdue : due t (leading + 231) = true)
    (hd : (s.recv.channels.get i).decoder = .hunt) (hs : sample ≠ some .void) :
    exec (.overLengthExpiry i t) s = .next { s with
      timebase := t
      recv := { s.recv with channels := s.recv.channels.set i { s.recv.channels.get i with pulse := .lost } } } := by
  have hlong : (s.recv.channels.get i).overLong t = true := by
    simp only [Channel.overLong, hp]
    exact hdue
  refine congrArg Host.Outcome.next (event_channel (overLengthAt i t) hr ?_ rfl)
  refine (if_pos (by exact hlong)).trans ?_
  exact congrArg (takeDecoded i · _) (takeOverLength_hunt hp hd hs)

/-- Settles O11, by the pulse and the gap timer that the time finds. -/
theorem receiverTimers : Obligations.ReceiverTimers := by
  unfold Obligations.ReceiverTimers
  intro i t s hr
  have hself : { s with timebase := t } = ({ s with
      timebase := t
      recv := { s.recv with channels := s.recv.channels.set i (s.recv.channels.get i) } } : State) := by
    rw [Three.set_get_self]
  refine ⟨fun leading level hp => ?sample, fun level hp => ?sampled, fun leading sample hp hdue hd hs => ?overLength,
    fun leading sample hp hdue => ?early, fun hp => ?closed, fun hgap => ?waits, fun e hgap hdue => ?breaks⟩
  case sample =>
    dsimp only
    rw [exec_polaritySample hr, samplePoint_open hp, ← heardLevel_eq]
    cases s.heardLevel t level <;> rfl
  case sampled => rw [exec_polaritySample hr, samplePoint_passed hp]
  case overLength => exact exec_overLength_due hr hp hdue hd hs
  case early =>
    have hshort : (s.recv.channels.get i).overLong t = false := by
      simp only [Channel.overLong, hp]
      exact hdue
    rw [exec_overLength_early hr hshort]
    exact congrArg Host.Outcome.next hself
  case closed =>
    have hshort : (s.recv.channels.get i).overLong t = false := by
      unfold Channel.overLong
      split
      · exact absurd ‹_› (hp _ _)
      · rfl
      · rfl
    rw [exec_overLength_early hr hshort]
    exact congrArg Host.Outcome.next hself
  case waits =>
    have hpassed : exec (.gapTimerExpiry i t) s = .next _ := congrArg Host.Outcome.next
      (event_channel (fun a => setChannel i ((a.recv.channels.get i).gapEnd t) a) hr rfl
        (congrArg channelView (gapEnd_early hgap)))
    rw [hpassed]
    refine congrArg Host.Outcome.next (.trans ?_ hself.symm)
    exact congrArg (fun d => ({ s with timebase := t, recv := { s.recv with channels := s.recv.channels.set i d } } : State))
      (gapEnd_early hgap)
  case breaks =>
    have hreceived := event_channel_received (fun a => setChannel i ((a.recv.channels.get i).gapEnd t) a)
      (t := t) (i := i) hr rfl
    have hbroken : ({ s with timebase := t, causes := Causes.none } : State).recv.channels.get i =
      s.recv.channels.get i := rfl
    rw [hbroken, gapEnd_due hgap hdue, broken_eq] at hreceived
    generalize hu : s.event _ = u at hreceived
    refine ⟨u, congrArg Host.Outcome.next hu, hreceived.leaves, fun hlt hw => hreceived.starts i ?_ hw,
      fun hlt hw => hreceived.again i ?_ hw, fun hfull => hreceived.same (channelView_set ?_)⟩
    · simp [channelView, hlt]
    · simp [channelView, hlt]
    · simp [channelView, hfull]

/-! ### The blanking interval (R7, R9) -/

/-- The magnitude of an output's duty. -/
def dutyOf (s : State) : PwmOutput → Nat
  | .leftWheel => s.drive.wheels.left.duty.natAbs
  | .rightWheel => s.drive.wheels.right.duty.natAbs
  | .blade => s.blade.duty

theorem outputSwitches_iff (s : State) (o : PwmOutput) : s.outputSwitches o = true ↔ 0 < dutyOf s o ∧ dutyOf s o < 1000 := by
  cases o <;> simp [State.outputSwitches, dutyOf, Nat.pos_iff_ne_zero]

theorem exec_switchingEdge_opens {s : State} (hr : s.resetting = none) {o : PwmOutput} {t : Capture}
    (hb : ∀ e, s.recv.blankEnd = some e → due t e = false) (hs : s.outputSwitches o = true)
    (hblank : s.plan.applied.blank ≠ 0) : exec (.switchingEdge o t) s = .next { s with
      timebase := t
      recv := { s.recv with blankEnd := some (t + BitVec.ofNat 32 s.plan.applied.blank) } } := by
  refine congrArg Host.Outcome.next (event_timed (b := { s with
    timebase := t
    recv := { s.recv with blankEnd := some (t + BitVec.ofNat 32 s.plan.applied.blank) }
    causes := Causes.none }) (switchingAt o t) hr ?_ { Unshown.refl s with } rfl)
  unfold switchingAt
  dsimp only
  rw [settleInterval_early (by exact hb)]
  have hopens : (!({ s with timebase := t, causes := Causes.none } : State).outputSwitches o ||
      decide (s.plan.applied.blank = 0)) = false := by
    rw [show ({ s with timebase := t, causes := Causes.none } : State).outputSwitches o = true from by cases o <;> exact hs]
    simp [hblank]
  exact if_neg (ne_true_of_eq_false hopens)

theorem exec_switchingEdge_passes {s : State} (hr : s.resetting = none) {o : PwmOutput} {t : Capture}
    (hb : ∀ e, s.recv.blankEnd = some e → due t e = false) (h : ¬ s.outputSwitches o = true ∨ s.plan.applied.blank = 0) :
    exec (.switchingEdge o t) s = .next { s with timebase := t } := by
  refine congrArg Host.Outcome.next (event_passed (switchingAt o t) hr ?_)
  unfold switchingAt
  dsimp only
  rw [settleInterval_early (by exact hb)]
  refine if_pos ?_
  rcases h with h | h
  · rw [show ({ s with timebase := t, causes := Causes.none } : State).outputSwitches o = false from by
      cases o <;> exact Bool.eq_false_iff.2 h]
    rfl
  · simp [h]

section
variable {c : Channel} {e leading : Capture} {sample : Option Sample}

theorem intervalEnd_free (h : c.held = false) : c.intervalEnd e = (c, none) := by simp [Channel.intervalEnd, h]

/-- A held trailing edge is taken as the pulse's end (R9). -/
theorem intervalEnd_held (h : c.held = true) (hp : c.pulse = .opened leading sample) :
    c.intervalEnd e = c.takePulse e c.afterHeld := by simp [Channel.intervalEnd, h, hp]

/-- The channel with its held pulse taken. -/
def heldEnded (c : Channel) : Channel := endedAs c c.afterHeld c.peak

theorem intervalEnd_glitch (h : c.held = true) (hp : c.pulse = .opened leading sample)
    (hg : since e leading < 25 ∨ sample = some .void) : c.intervalEnd e = ((heldEnded c).afterGlitch e, none) :=
  (intervalEnd_held h hp).trans (takePulse_glitch hp hg)

theorem intervalEnd_decode (h : c.held = true) (hp : c.pulse = .opened leading sample)
    (hg : ¬ (since e leading < 25 ∨ sample = some .void)) : c.intervalEnd e =
      (heldEnded c).decode ⟨leading, e, since e leading, sample.bind Sample.polarity, c.peak⟩ := by
  rw [not_or, Nat.not_lt] at hg
  exact (intervalEnd_held h hp).trans (takePulse_decode hp hg.1 hg.2)

end

/-- A bit of even parity breaks the frame (R13, R15). -/
theorem decode_parity_even {c : Channel} {f : Frame} {p : EndedPulse} (hd : c.decoder = .parity f) (h : Passes c f p)
    (hodd : (onesOf f.value + (if p.width ≤ 70 then 0 else 1)) % 2 = 0) : c.decode p = (c.broken, none) := by
  simp only [Channel.decode, hd, bitOf_passes h]
  exact if_neg (by omega)

theorem decode_parity_fails {c : Channel} {f : Frame} {p : EndedPulse} (hd : c.decoder = .parity f) (h : ¬ Passes c f p) :
    c.decode p = (c.broken.hunt p, none) := by
  simp only [Channel.decode, hd, bitOf_fails h]

/-- The channels after an interval whose ends complete no frame. -/
theorem closeInterval_eq {s : State} {e : Capture} (h : ∀ i, ((s.recv.channels.get i).intervalEnd e).2 = none) :
    closeInterval e s = { s with recv := { s.recv with
      blankEnd := none
      channels := s.recv.channels.map fun c => (c.intervalEnd e).1 } } := by
  have hset (i : Coil) (t : State) (d : Decoded) (hd : d.2 = none) : takeDecoded i d t = setChannel i d.1 t := by
    unfold takeDecoded
    rw [hd]
  have hright (d : Channel) (t : State) : (setChannel .left d t).recv.channels.get .right = t.recv.channels.get .right := rfl
  have hrear (d d' : Channel) (t : State) :
      (setChannel .right d' (setChannel .left d t)).recv.channels.get .rear = t.recv.channels.get .rear := rfl
  unfold closeInterval
  dsimp only
  rw [hset _ _ _ (h .left), hright, hset _ _ _ (h .right), hrear, hset _ _ _ (h .rear)]
  rfl

@[simp] theorem Three.map_get {α β : Type} (g : α → β) (p : Three α) (i : Coil) : (p.map g).get i = g (p.get i) := by
  cases i <;> rfl

/-- A held bit that completes no frame: outside PARITY, of a wrong polarity, or of even parity. -/
def CompletesNone (c : Channel) (e : Capture) : Prop :=
  c.held = true → (∃ leading sample, c.pulse = .opened leading sample) ∧
    ∀ f, c.decoder = .parity f → ∀ leading sample, c.pulse = .opened leading sample →
      sample.bind Sample.polarity ≠ some f.start ∨ (onesOf f.value + (if since e leading ≤ 70 then 0 else 1)) % 2 = 0

theorem intervalEnd_none {c : Channel} {e : Capture} (h : CompletesNone c e) : (c.intervalEnd e).2 = none := by
  cases hheld : c.held with
  | false => rw [intervalEnd_free hheld]
  | true =>
    obtain ⟨⟨leading, sample, hp⟩, hparity⟩ := h hheld
    by_cases hg : since e leading < 25 ∨ sample = some .void
    · rw [intervalEnd_glitch hheld hp hg]
    · rw [intervalEnd_decode hheld hp hg]
      cases hd : (heldEnded c).decoder with
      | hunt => rw [decode_hunt hd]
      | ident f =>
        by_cases hpass : Passes (heldEnded c) f ⟨leading, e, since e leading, sample.bind Sample.polarity, c.peak⟩
        · rw [decode_ident_passes hd hpass]
        · rw [decode_ident_fails hd hpass]
      | parity f =>
        by_cases hpass : Passes (heldEnded c) f ⟨leading, e, since e leading, sample.bind Sample.polarity, c.peak⟩
        · have hsample : sample.bind Sample.polarity = some f.start := hpass.2.2.1
          have heven := (hparity f hd leading sample hp).resolve_left (not_not.2 hsample)
          rw [decode_parity_even hd hpass heven]
        · rw [decode_parity_fails hd hpass]

theorem afterGlitch_paused {c : Channel} {e x : Capture} (h : c.gap = .paused x) :
    c.afterGlitch e = if due e x then c.broken else { c with gap := .running x } := by simp [Channel.afterGlitch, h]

theorem afterGlitch_running {c : Channel} {e x : Capture} (h : c.gap = .running x) : c.afterGlitch e = c := by
  simp [Channel.afterGlitch, h]

theorem afterGlitch_stopped {c : Channel} {e : Capture} (h : c.gap = .stopped) : c.afterGlitch e = c := by
  simp [Channel.afterGlitch, h]

/-- A pulse without a polarity begins no frame (R11). -/
theorem hunt_none {c : Channel} {p : EndedPulse} (h : p.sample = none) : c.hunt p = c := hunt_passed (.inl h)

/-- The foreign frames of a channel, which no pulse but a complete frame counts (R17). -/
def foreignView (c : Channel) : Nat × Option Nat := (c.foreign, c.lastForeign)

theorem hunt_foreign (c : Channel) (p : EndedPulse) : foreignView (c.hunt p) = foreignView c := by
  unfold Channel.hunt
  split <;> rfl

theorem decode_foreign (c : Channel) (p : EndedPulse) : foreignView (c.decode p).1 = foreignView c := by
  unfold Channel.decode
  split
  · exact hunt_foreign c p
  · split
    · rfl
    · exact hunt_foreign c.broken p
  · split
    · split <;> rfl
    · exact hunt_foreign c.broken p

theorem intervalEnd_foreign (c : Channel) (e : Capture) : foreignView (c.intervalEnd e).1 = foreignView c := by
  unfold Channel.intervalEnd
  split
  · rfl
  · split
    · unfold Channel.takePulse
      split
      · dsimp only
        split
        · unfold Channel.afterGlitch
          split
          · split <;> rfl
          · rfl
          · rfl
        · exact decode_foreign _ _
      · rfl
      · rfl
    · rfl
    · rfl

/-- Settles O12, by the switching edge and by what each held pulse comes to. -/
theorem blanking : Obligations.Blanking := by
  unfold Obligations.Blanking
  intro t s hr
  refine ⟨fun o hb => ?switching, fun hb => ?early, fun e he hdue => ?closes⟩
  case switching =>
    refine ⟨fun hlow hhigh hblank => ?_, fun h => ?_⟩
    · have hlow' : 0 < dutyOf s o := by cases o <;> exact hlow
      have hhigh' : dutyOf s o < 1000 := by cases o <;> exact hhigh
      exact exec_switchingEdge_opens hr hb ((outputSwitches_iff s o).2 ⟨hlow', hhigh'⟩) hblank
    · have h' : dutyOf s o = 0 ∨ 1000 ≤ dutyOf s o ∨ s.plan.applied.blank = 0 := by cases o <;> exact h
      refine exec_switchingEdge_passes hr hb ?_
      rw [outputSwitches_iff]
      omega
  case early => exact congrArg Host.Outcome.next (event_passed (settleInterval t) hr (settleInterval_early hb))
  case closes =>
    dsimp only
    intro hnone
    have hcomplete (i : Coil) : CompletesNone (s.recv.channels.get i) e := hnone i
    have hrules : settleInterval t { s with timebase := t, causes := Causes.none } = { s with
        timebase := t
        recv := { s.recv with blankEnd := none, channels := s.recv.channels.map fun c => (c.intervalEnd e).1 }
        causes := Causes.none } := by
      unfold settleInterval
      simp only [he, hdue, if_true]
      exact closeInterval_eq fun i => intervalEnd_none (hcomplete i)
    have hreceived := event_received (f := fun a => settleInterval t (a.atTime t)) hr hrules
      { OnlyChannels.refl s with } rfl
    have hchannels : (s.event (fun a => settleInterval t (a.atTime t))).recv.channels =
        s.recv.channels.map fun c => (c.intervalEnd e).1 := by rw [hreceived.leaves]
    refine ⟨_, rfl, ?leaves, fun i => ⟨fun hfree => ?free, fun leading sample hp hheld => ?taken⟩, hreceived.word,
      fun hsame => ?same⟩
    case leaves =>
      rw [hchannels]
      exact hreceived.leaves
    case free => rw [hchannels, Three.map_get, intervalEnd_free hfree]
    case taken =>
      rw [hchannels, Three.map_get]
      by_cases hg : since e leading < 25 ∨ sample = some .void
      · rw [intervalEnd_glitch hheld hp hg, if_pos hg]
        cases hgap : (s.recv.channels.get i).gap with
        | paused x =>
          rw [afterGlitch_paused (by exact hgap), broken_eq]
          rfl
        | running x =>
          rw [afterGlitch_running (by exact hgap)]
          simp only [heldEnded, endedAs, hgap]
          rfl
        | stopped =>
          rw [afterGlitch_stopped (by exact hgap)]
          simp only [heldEnded, endedAs, hgap]
          rfl
      · rw [intervalEnd_decode hheld hp hg, if_neg hg]
        cases hd : (s.recv.channels.get i).decoder with
        | hunt =>
          rw [decode_hunt (by exact hd)]
          cases hq : sample.bind Sample.polarity with
          | none =>
            refine (hunt_none (p := ⟨leading, e, _, none, _⟩) rfl).trans ?_
            simp only [heldEnded, endedAs, hd]
            rfl
          | some q =>
            refine (hunt_eq _ ⟨leading, e, since e leading, some q, _⟩ rfl).trans ?_
            simp only [heldEnded, endedAs, hd]
            rfl
        | ident f =>
          by_cases hpass : Passes (heldEnded (s.recv.channels.get i)) f
              ⟨leading, e, since e leading, sample.bind Sample.polarity, (s.recv.channels.get i).peak⟩
          · rw [decode_ident_passes (by exact hd) hpass]
            refine .trans ?_ (if_pos (by exact hpass)).symm
            rfl
          · rw [decode_ident_fails (by exact hd) hpass]
            refine .trans ?_ (if_neg (by exact hpass)).symm
            rw [broken_eq]
            cases hq : sample.bind Sample.polarity with
            | none => exact hunt_none (p := ⟨leading, e, _, none, _⟩) rfl
            | some q => exact hunt_eq _ ⟨leading, e, since e leading, some q, _⟩ rfl
        | parity f =>
          by_cases hpass : Passes (heldEnded (s.recv.channels.get i)) f
              ⟨leading, e, since e leading, sample.bind Sample.polarity, (s.recv.channels.get i).peak⟩
          · have heven := ((hnone i hheld).2 f hd leading sample hp).resolve_left (not_not.2 hpass.2.2.1)
            rw [decode_parity_even (by exact hd) hpass heven, broken_eq]
            refine .trans ?_ (if_pos (by exact hpass)).symm
            rfl
          · rw [decode_parity_fails (by exact hd) hpass]
            refine .trans ?_ (if_neg (by exact hpass)).symm
            rw [broken_eq]
            cases hq : sample.bind Sample.polarity with
            | none => exact hunt_none (p := ⟨leading, e, _, none, _⟩) rfl
            | some q => exact hunt_eq _ ⟨leading, e, since e leading, some q, _⟩ rfl
    case same =>
      have hview (i : Coil) : channelView ((s.recv.channels.map fun c => (c.intervalEnd e).1).get i) =
          channelView (s.recv.channels.get i) := by
        have hforeign := intervalEnd_foreign (s.recv.channels.get i) e
        have hmalformed := hsame i
        rw [hchannels, Three.map_get] at hmalformed
        rw [Three.map_get, channelView, hmalformed]
        exact congrArg (Prod.mk _) hforeign
      obtain ⟨hrefresh, hmem⟩ := hreceived.same hview
      refine ⟨?_, hmem⟩
      have hport := congrArg State.port hreceived.leaves
      rw [hrefresh] at hport
      exact hport

/-! ### The self-check (R21..R23) -/

theorem checkCells_first (c : Check) : ∃ after, checkCells c = (0x2E0, c.result.code) :: cellsFrom 0x2E1 after := ⟨_, rfl⟩

theorem checkCells_outside (c : Check) {a : Nat} (ha : a < 0x2E0) : ∀ d ∈ checkCells c, d.1 ≠ a := by
  intro d hd
  have := (cellsFrom_bounds hd).1
  simp only [addrCheckRecord] at this
  omega

/-- The state that a taken SELF_CHECK leaves to its answer. -/
def checkBegun (count : BitVec 8) (s : State) : State :=
  { beginCheck s with port := { (beginCheck s).port with inHand := .selfCheck count } }

theorem checkBegun_words (count : BitVec 8) (s : State) :
    (checkBegun count s).word 0x2E0 = 1 ∧ ∀ a, a < 0x2E0 → (checkBegun count s).word a = s.word a := by
  constructor
  · obtain ⟨after, hcells⟩ := checkCells_first (beginCheck s).recv.check
    have hmem : (checkBegun count s).mem = s.mem.writeAll (checkCells (beginCheck s).recv.check) := rfl
    rw [State.word_eq, hmem, hcells]
    refine read_writeAll_last s.mem [] (show CheckResult.running.code ≠ 0 by decide) fun d hd => ?_
    have := (cellsFrom_bounds hd).1
    omega
  · exact fun a ha => Memory.read_writeAll_outside _ (checkCells_outside _ ha)

theorem exec_checkInterval_due {s : State} (hr : s.resetting = none) (hc : s.recv.check.result = .running)
    (hb : s.recv.check.begun < 8) (hd : 25 * s.recv.check.begun ≤ since s.partTime s.recv.check.start) :
    exec .checkInterval s = .next { s with
      recv := { s.recv with check := { s.recv.check with begun := s.recv.check.begun + 1 } } } := by
  have hdue : (s.checking && decide (s.recv.check.begun < 8) &&
      decide (25 * s.recv.check.begun ≤ since s.partTime s.recv.check.start)) = true := by simp [State.checking, hc, hb, hd]
  exact congrArg Host.Outcome.next (event_unshown hr (if_pos (by exact hdue)) { Unshown.refl s with } rfl)

/-- All three coils pass where each decodes seven frames or more, and none of the other polarity. -/
theorem checkPasses_judged (k : Three CheckCoil) : checkPasses (k.map CheckCoil.judged) = true ↔
    (7 ≤ k.left.decoded ∧ k.left.mismatch = 0) ∧ (7 ≤ k.right.decoded ∧ k.right.mismatch = 0) ∧
      (7 ≤ k.rear.decoded ∧ k.rear.mismatch = 0) := by
  have hverdict (c : CheckCoil) : c.judged.verdict = .pass ↔ 7 ≤ c.decoded ∧ c.mismatch = 0 := by
    unfold CheckCoil.judged
    split
    · simp [*]
    · simp [*]
  simp [checkPasses, Three.map, hverdict, and_assoc]

/-- Settles O13, by its request, its intervals and its end. -/
theorem selfCheck : Obligations.SelfCheck := by
  unfold Obligations.SelfCheck
  intro s hr
  refine ⟨fun hm hin => ?request, fun hc hb hd => exec_checkInterval_due hr hc hb hd, fun hc hd => ?ends, fun hc => ?idle⟩
  case request =>
    have howner : ∀ n, s.port.inHand ≠ .selfCheck n := by simp [hin]
    have hnot : s.restarts 11 = false := restarts_false fun h => absurd h (by decide)
    have hasked : judgedRequest 11 s =
        answerWith 11 .done (s.port.requestCount + 1) (checkBegun (s.port.requestCount + 1) (arrived 11 s)) :=
      (judgeRequest_owner (s := arrived 11 s) (by rw [show (arrived 11 s).guard = s.guard from rfl, hm]; decide) howner _ _).trans
        (if_pos hm)
    have hanswered := requestEvent_answered hr hnot hasked
      { Unshown.refl s with channels := fun i => by cases i <;> rfl } rfl
    obtain ⟨hrecord, hother⟩ := checkBegun_words (s.port.requestCount + 1) (arrived 11 s)
    exact ⟨_, rfl, hanswered.leaves, (hanswered.word (.inr (by decide))).trans ((hother _ (by decide)).trans
      (arrived_request s (by decide))), (hanswered.word (.inr (by decide))).trans hrecord⟩
  case ends =>
    have hdue : (s.checking && decide (200 ≤ since s.partTime s.recv.check.start)) = true := by
      simp [State.checking, hc, hd]
    have hrules : checkEnd { s with causes := Causes.none } = finishCheck { s with causes := Causes.none } :=
      if_pos (by exact hdue)
    refine ⟨_, congrArg Host.Outcome.next (event_unshown hr (hrules.trans (post_eq_update _ _))
      { Unshown.refl s with channels := fun i => by cases i <;> rfl } rfl), ?_⟩
    simp only [← checkPasses_judged]
    rfl
  case idle =>
    have hidle : s.checking = false := by simp [State.checking, hc]
    constructor
    · exact congrArg Host.Outcome.next (event_still hr (by simp [beginInterval, State.checking, hc]))
    · exact congrArg Host.Outcome.next (event_still hr (by simp [checkEnd, State.checking, hc]))

end Sys2Proof.Proofs
end

section
/-! SUPPORT. The Blade Controller: its timers, its period and its jams. -/

namespace Sys2Proof.Proofs

open Sys2Proof.Machine Sys2Proof.Safety

/-! ### The blade goes OFF, waits or is locked out (R123, R127, R128, R130) -/

theorem judgeBlade_eq_update (s : State) : judgeBlade s = { s with
    plan := (judgeBlade s).plan
    blade := (judgeBlade s).blade
    mem := (judgeBlade s).mem } := by
  unfold judgeBlade reportUncut actOnDirective
  (repeat' split) <;> rfl

/-- A blade that goes OFF on a directive of CUT spins up at once. -/
theorem offAndJudge_spins {s₀ s : State} (hd : s.effectiveDirective = .cut) (hp : s.partTime = s₀.partTime) :
    SpinsUp s₀ (offAndJudge s) := by
  unfold SpinsUp
  rw [(offAndJudge_of_cut hd).1, ← hp]
  exact ⟨rfl, rfl, rfl, rfl, rfl, rfl, rfl⟩

/-- Whatever the directive, the end in OFF leaves no timer. -/
theorem offAndJudge_timers (s : State) :
    (offAndJudge s).blade.brakeTimer = none ∧ (offAndJudge s).blade.waitTimer = none := by
  cases hd : s.effectiveDirective with
  | off =>
    rw [(offAndJudge_of_off hd).1]
    exact ⟨rfl, rfl⟩
  | cut =>
    rw [(offAndJudge_of_cut hd).1]
    exact ⟨rfl, rfl⟩

/-- The directive reads the plan, the machine state and the recovery, and nothing of the blade. -/
theorem effectiveDirective_congr {s t : State} (hp : t.plan.standing = s.plan.standing)
    (hm : t.guard.machine = s.guard.machine) (hr : t.guard.recovery = s.guard.recovery)
    (hc : t.loops.posClass = s.loops.posClass) : t.effectiveDirective = s.effectiveDirective := by
  simp [State.effectiveDirective, State.armed, State.suppressed, hp, hm, hr, hc]

/-- The blade after the entry to LOCKED_OUT (R128). -/
def lockedBlade (b : Blade) : Blade :=
  { b with
    state := .lockedOut
    jamPhase := none
    final := false
    duty := 0
    brake := false
    brakeTimer := none
    load := 0 }

theorem uncutAtLockout_eq_update (s : State) : uncutAtLockout s = { s with plan := (uncutAtLockout s).plan } := by
  unfold uncutAtLockout
  split <;> rfl

theorem enterLockedOut_eq_update (s : State) : enterLockedOut s = { s with
    plan := (enterLockedOut s).plan
    blade := lockedBlade s.blade
    notice := (enterLockedOut s).notice
    mem := (enterLockedOut s).mem } := by
  unfold enterLockedOut
  rw [uncutAtLockout_eq_update, post_eq_update]
  rfl

/-- The blade after the stop of a jam that is not final (R127). -/
def waitingBlade (b : Blade) (now : Time) : Blade :=
  { b with jamPhase := some .wait, brake := false, brakeTimer := none, waitTimer := some (now + 1000) }

theorem takeStop_final {s : State} (h : s.blade.final = true) : takeStop s = enterLockedOut s := if_pos h

theorem takeStop_waits {s : State} (h : s.blade.final = false) :
    takeStop s = { s with blade := waitingBlade s.blade s.partTime } := if_neg (ne_true_of_eq_false h)

theorem setBlade_word (b : Blade) (s : State) {a : Nat} (ha : a < 0x280 ∨ 0x400 ≤ a) : (setBlade b s).word a = s.word a :=
  Memory.read_writeAll_outside _ (bladeCells_outside b ha)

/-! ### The slow brake (R131) -/

theorem markBrakeSlow_eq_update (s : State) : markBrakeSlow s = { s with
    guard := { s.guard with trip := { s.guard.trip with
      brakeSlow := s.guard.trip.brakeSlow || decide (s.guard.machine = .tripped) } }
    mem := (markBrakeSlow s).mem } := by
  by_cases h : s.guard.machine = .tripped
  · rw [markBrakeSlow, if_pos h, decide_eq_true h, Bool.or_true]
    rfl
  · rw [markBrakeSlow, if_neg h, decide_eq_false h, Bool.or_false]

/-- The slow brake noted and posted, with the brake released, before what follows from the blade's state. -/
def brakeReleased (s : State) : State :=
  markBrakeSlow (post (.brakeSlow s.blade.rpm)
    (setBlade { s.blade with brake := false, brakeTimer := none, lastFault := .brakeSlow } s))

theorem brakeReleased_eq_update (s : State) : brakeReleased s = { s with
    blade := { s.blade with brake := false, brakeTimer := none, lastFault := .brakeSlow }
    guard := { s.guard with trip := { s.guard.trip with
      brakeSlow := s.guard.trip.brakeSlow || decide (s.guard.machine = .tripped) } }
    notice := (brakeReleased s).notice
    mem := (brakeReleased s).mem } := by
  unfold brakeReleased
  rw [markBrakeSlow_eq_update, post_eq_update]
  rfl

theorem brakeReleased_state (s : State) : (brakeReleased s).blade.state = s.blade.state := by
  rw [brakeReleased_eq_update]

theorem slowBrake_braking {s : State} (h : s.blade.state = .braking) :
    slowBrake s = noteBladeOff (offAndJudge (brakeReleased s)) := by
  have hstate := (brakeReleased_state s).trans h
  unfold brakeReleased at hstate
  simp only [slowBrake, hstate, brakeReleased]

theorem slowBrake_jammed {s : State} (h : s.blade.state = .jammed) : slowBrake s = takeStop (brakeReleased s) := by
  have hstate := (brakeReleased_state s).trans h
  unfold brakeReleased at hstate
  simp only [slowBrake, hstate, brakeReleased]

theorem slowBrake_other {s : State} (hb : s.blade.state ≠ .braking) (hj : s.blade.state ≠ .jammed) :
    slowBrake s = brakeReleased s := by
  have hstate := brakeReleased_state s
  unfold brakeReleased at hstate
  unfold slowBrake
  dsimp only
  split
  · exact absurd (hstate.symm.trans ‹_›) hb
  · exact absurd (hstate.symm.trans ‹_›) hj
  all_goals rfl

theorem noteBladeOff_unstarted {s : State} (h : s.guard.machine ≠ .start) : noteBladeOff s = s := by
  simp [noteBladeOff, h]

/-- The notice of a slow brake. -/
theorem brakeReleased_posts {s t : State} (hn : t.noticesHeld = false) (h : t.notice = s.notice)
    (hw : t.word 0x062 = s.word 0x062) (hrpm : t.blade.rpm = s.blade.rpm) :
    Posts s (brakeReleased t) .blade 5 [wordN s.blade.rpm] := by
  have hposts := post_posts (s := s) (.brakeSlow t.blade.rpm)
    (t := setBlade { t.blade with brake := false, brakeTimer := none, lastFault := .brakeSlow } t) hn h
    ((setBlade_word _ _ (.inl (by decide))).trans hw)
  have hnotice : (brakeReleased t).notice = (post (.brakeSlow t.blade.rpm)
      (setBlade { t.blade with brake := false, brakeTimer := none, lastFault := .brakeSlow } t)).notice := by
    unfold brakeReleased
    rw [markBrakeSlow_eq_update]
  rw [← hrpm]
  unfold Posts
  rw [hnotice]
  exact hposts

theorem noticesHeld_unstarted {s : State} (h : s.guard.machine ≠ .start) : s.noticesHeld = false := by
  simp [State.noticesHeld, h]

/-- What a slow brake leaves, outside START, of all but the blade. -/
theorem slowBrake_eq_update {s : State} (h : s.guard.machine ≠ .start) : slowBrake s = { s with
    plan := (slowBrake s).plan
    blade := (slowBrake s).blade
    guard := { s.guard with trip := { s.guard.trip with
      brakeSlow := s.guard.trip.brakeSlow || decide (s.guard.machine = .tripped) } }
    notice := (slowBrake s).notice
    mem := (slowBrake s).mem } := by
  have hreleased := brakeReleased_eq_update s
  cases hs : s.blade.state
  case braking =>
    have hmachine : (offAndJudge (brakeReleased s)).guard.machine ≠ .start := by
      rw [offAndJudge_eq_update, hreleased]
      exact h
    rw [slowBrake_braking hs, noteBladeOff_unstarted hmachine, offAndJudge_eq_update, hreleased]
  case jammed =>
    rw [slowBrake_jammed hs]
    cases hf : (brakeReleased s).blade.final with
    | true => rw [takeStop_final hf, enterLockedOut_eq_update, hreleased]
    | false => rw [takeStop_waits hf, hreleased]
  all_goals
    rw [slowBrake_other (by rw [hs]; decide) (by rw [hs]; decide), hreleased]

/-- The end in OFF by a released brake: the directive is the one that stood. -/
theorem brakeReleased_directive (s : State) : (brakeReleased s).effectiveDirective = s.effectiveDirective := by
  rw [brakeReleased_eq_update]
  exact effectiveDirective_congr rfl rfl rfl rfl

/-- A jam's lock-out posts a second notice in the event of the slow brake (R128, R131). -/
theorem enterLockedOut_posts {s t : State} (hn : t.noticesHeld = false) (h : t.notice = s.notice)
    (hw : t.word 0x062 = s.word 0x062) : Posts s (enterLockedOut t) .blade 4 [wordN t.blade.jamCount] := by
  have hposts := post_posts (s := s) (.lockedOut t.blade.jamCount) (t := setBlade (lockedBlade t.blade) t) hn h
    ((setBlade_word _ _ (.inl (by decide))).trans hw)
  have hnotice : (enterLockedOut t).notice =
      (post (.lockedOut t.blade.jamCount) (setBlade (lockedBlade t.blade) t)).notice := by
    unfold enterLockedOut
    rw [uncutAtLockout_eq_update]
    rfl
  unfold Posts
  rw [hnotice]
  exact hposts

section
variable {s : State} (hm : s.guard.machine ≠ .start)
include hm

theorem slowBrake_ends (hs : s.blade.state = .braking) : slowBrake s = offAndJudge (brakeReleased s) := by
  rw [slowBrake_braking hs, noteBladeOff_unstarted]
  rw [offAndJudge_eq_update, brakeReleased_eq_update]
  exact hm

/-- However the blade goes on, the brake is released and the fault noted (R131). -/
theorem slowBrake_blade : (slowBrake s).blade.brake = false ∧ (slowBrake s).blade.brakeTimer = none ∧
    (slowBrake s).blade.lastFault = .brakeSlow := by
  have hreleased : (brakeReleased s).blade.brake = false ∧ (brakeReleased s).blade.brakeTimer = none ∧
      (brakeReleased s).blade.lastFault = .brakeSlow := by
    rw [brakeReleased_eq_update]
    exact ⟨rfl, rfl, rfl⟩
  obtain ⟨hbrake, htimer, hfault⟩ := hreleased
  cases hs : s.blade.state
  case braking =>
    obtain ⟨-, -, hoff, -, hlast, -⟩ := offAndJudge_blade (brakeReleased s)
    rw [slowBrake_ends hm hs]
    exact ⟨hoff, (offAndJudge_timers _).1, hlast.trans hfault⟩
  case jammed =>
    rw [slowBrake_jammed hs]
    cases hf : (brakeReleased s).blade.final with
    | true =>
      rw [takeStop_final hf, enterLockedOut_eq_update]
      exact ⟨rfl, rfl, hfault⟩
    | false =>
      rw [takeStop_waits hf]
      exact ⟨rfl, rfl, hfault⟩
  all_goals
    rw [slowBrake_other (by rw [hs]; decide) (by rw [hs]; decide)]
    exact ⟨hbrake, htimer, hfault⟩

/-- Without a lock-out the slow brake's notice is the only one. -/
theorem slowBrake_notice (h : ¬ (s.blade.state = .jammed ∧ s.blade.final = true)) :
    (slowBrake s).notice = (brakeReleased s).notice := by
  cases hs : s.blade.state
  case braking => rw [slowBrake_ends hm hs, offAndJudge_eq_update]
  case jammed =>
    have hfinal : (brakeReleased s).blade.final = false := by
      rw [brakeReleased_eq_update]
      exact Bool.eq_false_iff.2 fun hf => h ⟨hs, hf⟩
    rw [slowBrake_jammed hs, takeStop_waits hfinal]
  all_goals rw [slowBrake_other (by rw [hs]; decide) (by rw [hs]; decide)]

end

theorem markBrakeSlow_word (s : State) {a : Nat} (ha : a < 0x280 ∨ 0x2A0 ≤ a) : (markBrakeSlow s).word a = s.word a := by
  unfold markBrakeSlow
  split
  · exact Memory.read_writeAll_outside _ (tripCells_outside _ ha)
  · rfl

theorem brakeReleased_enable (s : State) : (brakeReleased s).word 0x062 = s.word 0x062 :=
  (markBrakeSlow_word _ (.inl (by decide))).trans ((post_word _ _ (.inr (by decide))).trans
    (setBlade_word _ _ (.inl (by decide))))

/-- What two posts of one source come to (R198). -/
theorem postedTo_twice {s u : State} {a : Source} {status₁ : Word} {details₁ : List Word}
    (h : u.notice.get a = postedTo s a status₁ details₁) (hw : u.word 0x062 = s.word 0x062) (status : Word)
    (details : List Word) : postedTo u a status details =
      { postedTo s a status details with count := min 255 ((s.notice.get a).count + 2) } := by
  have hpending (x y z : Bool) : (((x || y) || z) || y || z) = (x || y || z) := by
    cases x <;> cases y <;> cases z <;> rfl
  simp only [postedTo, h, hw, hpending]
  congr 1
  omega

theorem posts_get {s u : State} {a : Source} {status : Word} {details : List Word} (h : Posts s u a status details) :
    u.notice.get a = postedTo s a status details := by
  rw [h.1]
  cases a <;> rfl

/-- Settles O24, by the timer and the blade state it finds. -/
theorem bladeTimers : Obligations.BladeTimers := by
  unfold Obligations.BladeTimers
  intro s hr hm
  refine ⟨fun h => ?brakeWaits, fun h => ?jamWaits, fun e he hdue => ?brake, fun e he hdue => ?wait⟩
  case brakeWaits =>
    have hnot : dueOpt s.partTime s.blade.brakeTimer = false := dueOpt_false h
    exact congrArg Host.Outcome.next (event_still hr (if_neg (by exact ne_true_of_eq_false hnot)))
  case jamWaits =>
    have hnot : dueOpt s.partTime s.blade.waitTimer = false := dueOpt_false h
    exact congrArg Host.Outcome.next (event_still hr (if_neg (by exact ne_true_of_eq_false hnot)))
  case brake =>
    have hrules : brakeExpiry { s with causes := Causes.none } = slowBrake { s with causes := Causes.none } :=
      if_pos (dueOpt_true (by exact he) hdue)
    have hm' : ({ s with causes := Causes.none } : State).guard.machine ≠ .start := hm
    refine ⟨_, congrArg Host.Outcome.next (event_unshown hr (hrules.trans (slowBrake_eq_update hm'))
      { Unshown.refl s with } rfl), rfl, ?_⟩
    obtain ⟨hbrake, htimer, hfault⟩ := slowBrake_blade hm'
    have hheld : ({ s with causes := Causes.none } : State).noticesHeld = false := noticesHeld_unstarted hm'
    have hposts : Posts s (brakeReleased { s with causes := Causes.none }) .blade 5 [wordN s.blade.rpm] :=
      brakeReleased_posts hheld rfl rfl rfl
    refine ⟨hbrake, htimer, hfault, rfl, fun hone => ?posts, fun hs => ?braking, fun hs hf => ?locks, fun hs hf => ?waits⟩
    case posts =>
      rw [Posts, slowBrake_notice hm' (by exact hone)]
      exact hposts
    case braking =>
      have hends := slowBrake_ends hm' (by exact hs)
      have hdirective : (brakeReleased { s with causes := Causes.none }).effectiveDirective = s.effectiveDirective :=
        brakeReleased_directive _
      refine ⟨fun hd => ?_, fun hd => ?_⟩
      · rw [hends]
        exact ⟨offAndJudge_state_off (hdirective.trans hd), (offAndJudge_blade _).2.1⟩
      · rw [hends]
        exact offAndJudge_spins (s₀ := s) (hdirective.trans hd) (by rw [brakeReleased_eq_update])
    case locks =>
      have hfinal : (brakeReleased { s with causes := Causes.none }).blade.final = true := by
        rw [brakeReleased_eq_update]
        exact hf
      have hheld' : (brakeReleased { s with causes := Causes.none }).noticesHeld = false := by
        rw [brakeReleased_eq_update]
        exact hheld
      have hcount : (brakeReleased { s with causes := Causes.none }).blade.jamCount = s.blade.jamCount := by
        rw [brakeReleased_eq_update]
      have hlocked := enterLockedOut_posts (s := brakeReleased { s with causes := Causes.none }) hheld' rfl rfl
      rw [slowBrake_jammed (by exact hs), takeStop_final hfinal]
      refine ⟨by rw [enterLockedOut_eq_update]; rfl, by rw [enterLockedOut_eq_update]; rfl, ?_⟩
      rw [hcount] at hlocked
      exact (posts_get hlocked).trans (postedTo_twice (posts_get hposts) (brakeReleased_enable _) _ _)
    case waits =>
      have hfinal : (brakeReleased { s with causes := Causes.none }).blade.final = false := by
        rw [brakeReleased_eq_update]
        exact hf
      rw [slowBrake_jammed (by exact hs), takeStop_waits hfinal, brakeReleased_eq_update]
      exact ⟨hs, rfl, rfl⟩
  case wait =>
    have hrules : waitExpiry { s with causes := Causes.none } = offAndJudge { s with causes := Causes.none } :=
      if_pos (dueOpt_true (by exact he) hdue)
    obtain ⟨heffective, hduty, hbrake, -⟩ := offAndJudge_blade { s with causes := Causes.none }
    refine ⟨_, congrArg Host.Outcome.next (event_unshown hr (hrules.trans (offAndJudge_eq_update _))
      { Unshown.refl s with } rfl), rfl, hduty, hbrake, (offAndJudge_timers _).2, heffective,
      fun hd => offAndJudge_state_off (by exact hd), fun hd => offAndJudge_spins (s₀ := s) (by exact hd) rfl⟩

end Sys2Proof.Proofs
end

section
/-! SUPPORT. The blade period. -/

namespace Sys2Proof.Proofs

open Sys2Proof.Machine Sys2Proof.Safety

/-! ### An event, whatever refreshes it starts (R196) -/

/-- What an event leaves of the state `b` that its rules made, beside the mirrors' refreshes. -/
structure Ran (s b u : State) : Prop where
  leaves : u = { b with port := u.port, mem := u.mem, causes := s.causes }
  word : ∀ a, a ≠ 0x100 → a ≠ 0x180 → a ≠ 0x200 → u.word a = b.word a

theorem event_ran {s b : State} {f : State → State} (hr : s.resetting = none)
    (hb : f { s with causes := Causes.none } = b) : Ran s b (s.event f) := by
  rw [event_running hr, State.noting, hb]
  constructor
  · rw [startMirrors_eq_update]
  · exact fun a h1 h2 h3 => startMirrors_word _ _ _ h1 h2 h3

/-- The blocks that the refreshes of an event leave to its rules. -/
theorem Ran.blocks {s b u : State} (h : Ran s b u) :
    u.timebase = b.timebase ∧ u.partTime = b.partTime ∧ u.recv = b.recv ∧ u.loops = b.loops ∧ u.plan = b.plan ∧
      u.drive = b.drive ∧ u.track = b.track ∧ u.gov = b.gov ∧ u.blade = b.blade ∧ u.contact = b.contact ∧
      u.guard = b.guard ∧ u.dock = b.dock ∧ u.notice = b.notice ∧ u.pins = b.pins := by
  rw [h.leaves]
  and_intros <;> rfl

/-! ### Step 1: the rpm (R118) -/

theorem measure_eq_update (b : Blade) (t : Capture) : b.measure t =
    { b with lastPulse := (b.measure t).lastPulse, period := (b.measure t).period, rpm := (b.measure t).rpm } := by
  unfold Blade.measure
  (repeat' split) <;> rfl

theorem measure_rpm_none {b : Blade} (h : b.lastPulse = none) (t : Capture) : (b.measure t).rpm = 0 := by
  simp [Blade.measure, h]

theorem measure_rpm_stale {b : Blade} {lp t : Capture} (h : b.lastPulse = some lp) (hs : 100000 ≤ since t lp) :
    (b.measure t).rpm = 0 := by
  simp [Blade.measure, h, hs]

theorem measure_rpm_single {b : Blade} (h : b.period = none) (t : Capture) : (b.measure t).rpm = 0 := by
  unfold Blade.measure
  split
  · rfl
  · rw [h]
    split <;> rfl

theorem measure_rpm {b : Blade} {lp t : Capture} {p : Nat} (h : b.lastPulse = some lp) (hp : b.period = some p)
    (hs : since t lp < 100000) : (b.measure t).rpm = 30000000 / max p (since t lp) := by
  have hmax : (if p < since t lp then since t lp else p) = max p (since t lp) := by
    split <;> omega
  simp only [Blade.measure, h, hp, if_neg (Nat.not_le.2 hs), hmax, rpmOf]

/-- The blade is found stopped (R118). -/
theorem measure_stopped_iff (s : State) (t : Capture) : (s.blade.measure t).stopped t = true ↔ Stopped s t := by
  have hbrake : (s.blade.measure t).brakeStart = s.blade.brakeStart := by rw [measure_eq_update]
  have hpulse : (∀ lp, (s.blade.measure t).lastPulse = some lp → 100000 ≤ since t lp) ↔
      ∀ lp, s.blade.lastPulse = some lp → 100000 ≤ since t lp := by
    unfold Blade.measure
    cases hl : s.blade.lastPulse with
    | none => simp
    | some lp =>
      by_cases hs : 100000 ≤ since t lp
      · simp [hs]
      · cases hp : s.blade.period <;> simp [hs]
  have hpast (x : Option Capture) : (match x with | none => true | some y => decide (100000 ≤ since t y)) = true ↔
      ∀ y, x = some y → 100000 ≤ since t y := by cases x <;> simp
  unfold Stopped
  rw [← hpulse, ← hbrake]
  unfold Blade.stopped
  dsimp only
  rw [Bool.and_eq_true]
  exact and_congr (hpast _) (hpast _)

theorem measure_rpm_stopped {s : State} {t : Capture} (h : Stopped s t) : (s.blade.measure t).rpm = 0 := by
  cases hl : s.blade.lastPulse with
  | none => exact measure_rpm_none hl t
  | some lp => exact measure_rpm_stale hl (h.1 lp hl)

/-! ### Step 2: the runaway test (R132) -/

/-- The state in which a period's rpm is judged. -/
def measured (t : Capture) (s : State) : State :=
  { s with blade := { s.blade.measure t with timer := s.blade.timer + 10 } }

theorem bladePeriod_eq (t : Capture) (s : State) : bladePeriod t s = publishBlade (bladeAction s.bladeTarget
    ((s.blade.measure t).stopped t) (runawayStep (measured t s))) := rfl

theorem runawayStep_calm {s : State} (h : s.blade.rpm ≤ 6000) :
    runawayStep s = { s with blade := { s.blade with runaway := false } } := if_neg (by omega)

/-! ### Step 4: the load (R125, R157) -/

theorem answerRestart_blade (s : State) : (answerRestart s).blade = s.blade := by
  unfold answerRestart
  split
  · simp
  · rfl
  · rfl

/-- The blade after its publication: an OFF blade may be judged once more, as START ends. -/
theorem noteBladeOff_blade (s : State) : ∃ d, (noteBladeOff s).blade = { s.blade with effective := d } := by
  unfold noteBladeOff finishStart
  split
  · split
    · have hoff : s.blade.state = .off := by simp_all
      refine ⟨.off, ?_⟩
      rw [answerRestart_blade, setMachine_blade_of_not_driven (by decide) (by simp [Driven, hoff])]
    · exact ⟨s.blade.effective, rfl⟩
  · exact ⟨s.blade.effective, rfl⟩

/-- The published blade: its load follows its state and duty. -/
theorem publishBlade_blade (s : State) : ∃ d, (publishBlade s).blade =
    { s.blade with load := loadOf s.blade.state s.blade.duty, effective := d } := noteBladeOff_blade _

theorem publishBlade_unstarted {s : State} (h : s.guard.machine ≠ .start) :
    publishBlade s = { s with blade := { s.blade with load := loadOf s.blade.state s.blade.duty } } :=
  noteBladeOff_unstarted (by exact h)

theorem loadOf_eq (b : BladeState) (duty : Nat) : loadOf b duty = if b = .spinup ∨ b = .cutting then duty / 10 else 0 := by
  cases b <;> rfl

/-! ### The readings stand over steps 2 to 4 (R118, R119) -/

/-- The timer and the rpm of a blade stand. -/
def SameReadings (b b' : Blade) : Prop := b'.timer = b.timer ∧ b'.rpm = b.rpm

theorem SameReadings.trans {a b c : Blade} (h : SameReadings a b) (k : SameReadings b c) : SameReadings a c :=
  ⟨k.1.trans h.1, k.2.trans h.2⟩

theorem judgeBlade_readings (s : State) : SameReadings s.blade (judgeBlade s).blade := by
  rw [(judgeBlade_eq_act s).1]
  unfold actOnDirective
  split <;> exact ⟨rfl, rfl⟩

theorem find_readings (c : TripCause) (s : State) : SameReadings s.blade (find c s).blade := by
  unfold find
  split
  · have hblade : (trip c s).blade = (setMachine .tripped s).blade := by
      have hleft := leaveArmed_blade (cause := .guard) (dest := .tripped) (fun _ => rfl) s (by decide)
      unfold trip
      simpa [writeTripRecord] using hleft
    rw [hblade]
    exact judgeBlade_readings _
  · unfold addFurther
    split <;> exact ⟨rfl, rfl⟩
  · exact ⟨rfl, rfl⟩
  · exact ⟨rfl, rfl⟩
  · exact ⟨rfl, rfl⟩

theorem runawayStep_readings (s : State) : SameReadings s.blade (runawayStep s).blade := by
  unfold runawayStep
  split
  · refine SameReadings.trans ?_ (find_readings _ _)
    split <;> exact ⟨rfl, rfl⟩
  · exact ⟨rfl, rfl⟩

theorem jamEvent_blade (fault : BladeFault) (report : Report) (s : State) : (jamEvent fault report s).blade =
    { s.blade with
      state := .jammed
      jamPhase := some .brake
      final := s.blade.nextFinal s.partTime
      duty := 0
      brake := true
      brakeTimer := some (s.partTime + 2000)
      brakeStart := some s.timebase
      jamCount := satAdd 255 s.blade.jamCount 1
      lastFault := fault
      lastJam := some s.partTime
      load := 0 } := by
  unfold jamEvent
  rw [post_eq_update]
  rfl

theorem bladeAction_readings (target : Nat) (stopped : Bool) (s : State) :
    SameReadings s.blade (bladeAction target stopped s).blade := by
  unfold bladeAction
  split
  case h_1 => exact ⟨rfl, rfl⟩
  case h_2 =>
    unfold spinupStep
    split
    · rw [post_eq_update]
      exact ⟨rfl, rfl⟩
    · split
      · rw [jamEvent_blade]
        exact ⟨rfl, rfl⟩
      · exact ⟨rfl, rfl⟩
  case h_3 =>
    unfold cuttingStep
    dsimp only
    (repeat' split)
    · exact ⟨rfl, rfl⟩
    · exact ⟨rfl, rfl⟩
    · rw [jamEvent_blade]
      exact ⟨rfl, rfl⟩
    · exact ⟨rfl, rfl⟩
  case h_4 =>
    split
    · exact judgeBlade_readings (enterOff s)
    · exact ⟨rfl, rfl⟩
  case h_5 =>
    unfold jammedStep takeStop
    (repeat' split)
    · rw [enterLockedOut_eq_update]
      exact ⟨rfl, rfl⟩
    · exact ⟨rfl, rfl⟩
    · exact ⟨rfl, rfl⟩
  case h_6 => exact ⟨rfl, rfl⟩

/-- A period's timer, rpm and load (R118, R119, R125). -/
theorem bladePeriod_readings (t : Capture) (s : State) :
    (bladePeriod t s).blade.timer = s.blade.timer + 10 ∧ (bladePeriod t s).blade.rpm = (s.blade.measure t).rpm ∧
      (bladePeriod t s).blade.load =
        if (bladePeriod t s).blade.state = .spinup ∨ (bladePeriod t s).blade.state = .cutting
        then (bladePeriod t s).blade.duty / 10 else 0 := by
  obtain ⟨htimer, hrpm⟩ := (runawayStep_readings (measured t s)).trans
    (bladeAction_readings s.bladeTarget ((s.blade.measure t).stopped t) _)
  obtain ⟨d, hblade⟩ := publishBlade_blade
    (bladeAction s.bladeTarget ((s.blade.measure t).stopped t) (runawayStep (measured t s)))
  rw [bladePeriod_eq, hblade]
  exact ⟨htimer, hrpm, loadOf_eq _ _⟩

/-! ### Step 3: the action of the blade state (R119) -/

/-- The state in which a period acts, with no runaway found. -/
def calmed (t : Capture) (s : State) : State :=
  { s with blade := { s.blade.measure t with timer := s.blade.timer + 10, runaway := false } }

theorem bladePeriod_calm {t : Capture} {s : State} (h : (s.blade.measure t).rpm ≤ 6000) :
    bladePeriod t s = publishBlade (bladeAction s.bladeTarget ((s.blade.measure t).stopped t) (calmed t s)) := by
  rw [bladePeriod_eq, runawayStep_calm (s := measured t s) h]
  rfl

/-- Beside its readings the blade stands over steps 1 and 2. -/
theorem calmed_blade (t : Capture) (s : State) : (calmed t s).blade = { s.blade with
    timer := s.blade.timer + 10
    rpm := (s.blade.measure t).rpm
    runaway := false
    lastPulse := (s.blade.measure t).lastPulse
    period := (s.blade.measure t).period } := by
  unfold calmed
  rw [measure_eq_update]

theorem calmed_state (t : Capture) (s : State) : (calmed t s).blade.state = s.blade.state := by rw [calmed_blade]

section
variable {target : Nat} {stopped : Bool} {s : State}

theorem bladeAction_spinup (h : s.blade.state = .spinup) : bladeAction target stopped s = spinupStep target s := by
  simp [bladeAction, h]

theorem bladeAction_cutting (h : s.blade.state = .cutting) : bladeAction target stopped s = cuttingStep target s := by
  simp [bladeAction, h]

theorem bladeAction_braking (h : s.blade.state = .braking) :
    bladeAction target stopped s = if stopped then offAndJudge s else s := by
  simp [bladeAction, h]

theorem bladeAction_jammed (h : s.blade.state = .jammed) : bladeAction target stopped s =
    if s.blade.jamPhase = some .brake ∧ stopped = true then takeStop s else s := by
  simp [bladeAction, h, jammedStep]

/-- An idle blade, one that still turns in BRAKING, and one that waits are left alone. -/
theorem bladeAction_none (h : s.blade.state = .off ∨ s.blade.state = .lockedOut ∨ s.blade.state = .braking ∧ stopped = false ∨
    s.blade.state = .jammed ∧ (s.blade.jamPhase ≠ some .brake ∨ stopped = false)) : bladeAction target stopped s = s := by
  rcases h with h | h | ⟨h, hs⟩ | ⟨h, hs⟩
  · simp [bladeAction, h]
  · simp [bladeAction, h]
  · rw [bladeAction_braking h, hs]
    rfl
  · rw [bladeAction_jammed h, if_neg]
    rcases hs with hs | hs <;> simp [hs]

end

/-! ### Jams (R126) -/

theorem jamEvent_eq_update (fault : BladeFault) (report : Report) (s : State) : jamEvent fault report s = { s with
    blade := (jamEvent fault report s).blade
    notice := (jamEvent fault report s).notice
    mem := (jamEvent fault report s).mem } := by
  unfold jamEvent
  rw [post_eq_update]
  rfl

theorem jamEvent_posts {fault : BladeFault} {report : Report} {s t : State} (hn : t.noticesHeld = false)
    (h : t.notice = s.notice) (hw : t.word 0x062 = s.word 0x062) :
    Posts s (jamEvent fault report t) report.source report.status report.details :=
  post_posts report (by exact hn) (by exact h) ((setBlade_word _ _ (.inl (by decide))).trans hw)

theorem jamEvent_stateWord (fault : BladeFault) (report : Report) (s : State) :
    (jamEvent fault report s).word 0x2A0 = 4 :=
  (post_word _ _ (.inr (by decide))).trans (setBlade_stateWord _ (.inr (show BladeState.jammed.code ≠ 0 by decide)))

theorem exec_bladePeriod_due {t : Capture} {s : State} (hr : s.resetting = none) (hd : due s.partTime s.blade.timer = true) :
    Ran s (bladePeriod t { s with timebase := t, causes := Causes.none })
      (s.event (fun a => bladeExpiry t (a.atTime t))) :=
  event_ran hr (if_pos hd)

theorem bladeTarget_eq (s : State) : s.bladeTarget = max 2000 (min 4000 (s.word 0x064).toNat) := clampN_eq (by decide) _

/-- The fault that a jam notes and its notice, by the state it finds (R126). -/
theorem bladeAction_jams {target rpm : Nat} {stopped : Bool} {s : State} (hrpm : s.blade.rpm = rpm)
    (h : s.blade.state = .spinup ∧ rpm < target * 80 / 100 ∧ 3000 ≤ since s.partTime s.blade.spinupEntry ∨
      s.blade.state = .cutting ∧ rpm < target * 30 / 100 ∧
        ∃ low, s.blade.lowStart = some low ∧ 500 ≤ since s.partTime low) :
    bladeAction target stopped s = jamEvent (if s.blade.state = .spinup then .startStall else .jam)
      (if s.blade.state = .spinup then .startStall rpm else .jammed rpm) s := by
  rcases h with ⟨hs, hlow, hlong⟩ | ⟨hs, hlow, low, hstart, hlong⟩
  · rw [bladeAction_spinup hs, spinupStep, hrpm, if_neg (by omega), if_pos hlong, hs]
    rfl
  · rw [bladeAction_cutting hs, cuttingStep]
    simp only [hrpm, if_neg (Nat.not_le.2 hlow), hstart, if_pos hlong, hs]
    rfl

/-- The rpm that the statements take from the pulse and the period (R118). -/
theorem measure_rpm_unique {b : Blade} {t : Capture} {r : Nat}
    (hboth : ∀ lp p, b.lastPulse = some lp → b.period = some p →
      r = if since t lp < 100000 then 30000000 / max p (since t lp) else 0)
    (hpulse : b.lastPulse = none → r = 0) (hperiod : b.period = none → r = 0) : (b.measure t).rpm = r := by
  cases hl : b.lastPulse with
  | none => rw [measure_rpm_none hl, hpulse hl]
  | some lp =>
    cases hp : b.period with
    | none => rw [measure_rpm_single hp, hperiod hp]
    | some p =>
      rw [hboth lp p hl hp]
      split
      case isTrue hs => exact measure_rpm hl hp hs
      case isFalse hs => exact measure_rpm_stale hl (by omega)

/-- The blade period that finds a jam while ARMED. -/
theorem bladePeriod_jams {fault : BladeFault} {report : Report} {t : Capture} {s : State}
    (hm : s.guard.machine = .armed) (hrpm : (s.blade.measure t).rpm ≤ 6000)
    (h : bladeAction s.bladeTarget ((s.blade.measure t).stopped t) (calmed t s) = jamEvent fault report (calmed t s)) :
    bladePeriod t s = jamEvent fault report (calmed t s) := by
  have hunstarted : (jamEvent fault report (calmed t s)).guard.machine ≠ .start := by
    rw [jamEvent_eq_update]
    exact fun hs => absurd (hm.symm.trans hs) (by decide)
  have hload : (jamEvent fault report (calmed t s)).blade =
      { (jamEvent fault report (calmed t s)).blade with load := 0 } := by rw [jamEvent_blade]
  have hstate : (jamEvent fault report (calmed t s)).blade.state = .jammed := by rw [jamEvent_blade]
  rw [bladePeriod_calm hrpm, h, publishBlade_unstarted hunstarted, hstate]
  conv_rhs => rw [jamEvent_eq_update, hload]
  rw [jamEvent_eq_update]
  rfl

theorem nextFinal_iff (b : Blade) (now : Time) :
    b.nextFinal now = true ↔ ∃ last, b.lastJam = some last ∧ since now last ≤ 30000 := by
  unfold Blade.nextFinal
  cases b.lastJam <;> simp

/-! ### The blade period state by state (R123, R124, R127, R128, R130) -/

theorem publishBlade_turning {s : State} (h : s.blade.state ≠ .off) :
    publishBlade s = { s with blade := { s.blade with load := loadOf s.blade.state s.blade.duty } } := by
  simp [publishBlade, noteBladeOff, h]

/-- Where the action leaves the blade not OFF, the period is the action and the load. -/
theorem bladePeriod_acts {t : Capture} {s x : State} (hrpm : (s.blade.measure t).rpm ≤ 6000)
    (h : bladeAction s.bladeTarget ((s.blade.measure t).stopped t) (calmed t s) = x) (hx : x.blade.state ≠ .off) :
    bladePeriod t s = { x with blade := { x.blade with load := loadOf x.blade.state x.blade.duty } } := by
  rw [bladePeriod_calm hrpm, h, publishBlade_turning hx]

section
variable {t : Capture} {s : State}

theorem bladePeriod_spun (hrpm : (s.blade.measure t).rpm ≤ 6000) (hs : s.blade.state = .spinup)
    (hup : s.bladeTarget * 80 / 100 ≤ (s.blade.measure t).rpm) :
    (bladePeriod t s).blade.state = .cutting ∧ (bladePeriod t s).blade.duty = s.blade.duty ∧
      (s.guard.machine ≠ .start → Posts s (bladePeriod t s) .blade 1 [wordN (s.blade.measure t).rpm]) := by
  have haction := (bladeAction_spinup (target := s.bladeTarget) (stopped := (s.blade.measure t).stopped t)
    ((calmed_state t s).trans hs)).trans (if_pos (by exact hup))
  have hcutting : (post (.spunUp (calmed t s).blade.rpm)
      (setBlade { (calmed t s).blade with state := .cutting } (calmed t s))).blade =
      { (calmed t s).blade with state := .cutting } := by rw [post_eq_update]; rfl
  rw [bladePeriod_acts hrpm haction (by rw [hcutting]; nofun), hcutting, calmed_blade]
  exact ⟨rfl, rfl, fun hm => post_posts _ (noticesHeld_unstarted (by exact hm)) rfl (setBlade_word _ _ (.inl (by decide)))⟩

theorem bladePeriod_spinning (hrpm : (s.blade.measure t).rpm ≤ 6000) (hs : s.blade.state = .spinup)
    (hlow : (s.blade.measure t).rpm < s.bladeTarget * 80 / 100) (hsoon : since s.partTime s.blade.spinupEntry < 3000) :
    (bladePeriod t s).blade.state = .spinup ∧ (bladePeriod t s).blade.duty = min 1000 (s.blade.duty + 20) := by
  have hentry : (calmed t s).blade.spinupEntry = s.blade.spinupEntry := by rw [calmed_blade]
  have haction := ((bladeAction_spinup (target := s.bladeTarget) (stopped := (s.blade.measure t).stopped t)
    ((calmed_state t s).trans hs)).trans (if_neg (Nat.not_le.2 hlow))).trans
      (if_neg (by rw [hentry]; exact Nat.not_le.2 hsoon))
  have hstate := (calmed_state t s).trans hs
  rw [bladePeriod_acts hrpm haction (by dsimp only; rw [hstate]; decide), calmed_blade]
  exact ⟨hs, minN_eq _ _⟩

theorem bladePeriod_cutting (hrpm : (s.blade.measure t).rpm ≤ 6000) (hs : s.blade.state = .cutting)
    (hup : s.bladeTarget * 30 / 100 ≤ (s.blade.measure t).rpm) :
    (bladePeriod t s).blade.state = .cutting ∧ (bladePeriod t s).blade.lowStart = none ∧
      ((bladePeriod t s).blade.duty : Int) = max 0 (min 1000 ((s.blade.duty : Int) +
        Int.tdiv (((s.bladeTarget : Int) - (s.blade.measure t).rpm) * s.plan.applied.kb) 1024)) := by
  have haction := (bladeAction_cutting (target := s.bladeTarget) (stopped := (s.blade.measure t).stopped t)
    ((calmed_state t s).trans hs)).trans (if_pos (by exact hup))
  have hstate := (calmed_state t s).trans hs
  rw [bladePeriod_acts hrpm haction (by exact fun h => absurd (hstate.symm.trans h) (by decide)), calmed_blade]
  refine ⟨hs, rfl, ?_⟩
  have hduty := clampI_eq (show (0 : Int) ≤ 1000 by decide) ((s.blade.duty : Int) +
    Int.tdiv (((s.bladeTarget : Int) - (s.blade.measure t).rpm) * s.plan.applied.kb) 1024)
  rw [← hduty]
  exact Int.toNat_of_nonneg ((le_max_left _ _).trans hduty.ge)

theorem bladePeriod_stops_off (hst : Stopped s t) (hs : s.blade.state = .braking) (hd : s.effectiveDirective = .off) :
    (bladePeriod t s).blade.state = .off ∧ (bladePeriod t s).blade.duty = 0 ∧ (bladePeriod t s).blade.brake = false ∧
      (bladePeriod t s).blade.brakeTimer = none := by
  have haction := (bladeAction_braking (target := s.bladeTarget) (stopped := (s.blade.measure t).stopped t)
    ((calmed_state t s).trans hs)).trans (if_pos ((measure_stopped_iff s t).2 hst))
  rw [bladePeriod_calm (by rw [measure_rpm_stopped hst]; omega), haction]
  obtain ⟨d, hblade⟩ := publishBlade_blade (offAndJudge (calmed t s))
  rw [hblade]
  obtain ⟨-, hduty, hbrake, -⟩ := offAndJudge_blade (calmed t s)
  exact ⟨offAndJudge_state_off (by exact hd), hduty, hbrake, (offAndJudge_timers _).1⟩

theorem bladePeriod_stops_cut (hst : Stopped s t) (hs : s.blade.state = .braking) (hd : s.effectiveDirective = .cut) :
    SpinsUp s (bladePeriod t s) := by
  have haction := (bladeAction_braking (target := s.bladeTarget) (stopped := (s.blade.measure t).stopped t)
    ((calmed_state t s).trans hs)).trans (if_pos ((measure_stopped_iff s t).2 hst))
  have hspins : SpinsUp s (offAndJudge (calmed t s)) := offAndJudge_spins (by exact hd) rfl
  rw [bladePeriod_acts (by rw [measure_rpm_stopped hst]; omega) haction (by rw [hspins.1]; decide)]
  exact hspins

theorem bladePeriod_locks (hst : Stopped s t) (hs : s.blade.state = .jammed) (hp : s.blade.jamPhase = some .brake)
    (hf : s.blade.final = true) :
    (bladePeriod t s).blade.duty = 0 ∧ (bladePeriod t s).blade.brake = false ∧
      (bladePeriod t s).blade.brakeTimer = none ∧ (bladePeriod t s).blade.state = .lockedOut ∧
      (bladePeriod t s).blade.jamPhase = none ∧
      (s.guard.machine ≠ .start → Posts s (bladePeriod t s) .blade 4 [wordN s.blade.jamCount]) := by
  have hphase : (calmed t s).blade.jamPhase = some .brake := by rw [calmed_blade]; exact hp
  have hfinal : (calmed t s).blade.final = true := by rw [calmed_blade]; exact hf
  have haction := ((bladeAction_jammed (target := s.bladeTarget) (stopped := (s.blade.measure t).stopped t)
    ((calmed_state t s).trans hs)).trans (if_pos ⟨hphase, (measure_stopped_iff s t).2 hst⟩)).trans (takeStop_final hfinal)
  have hlocked : (enterLockedOut (calmed t s)).blade = lockedBlade (calmed t s).blade := by rw [enterLockedOut_eq_update]
  have hcount : (calmed t s).blade.jamCount = s.blade.jamCount := by rw [calmed_blade]
  rw [bladePeriod_acts (by rw [measure_rpm_stopped hst]; omega) haction (by rw [hlocked]; nofun), hlocked, ← hcount]
  exact ⟨rfl, rfl, rfl, rfl, rfl, fun hm => enterLockedOut_posts (noticesHeld_unstarted (by exact hm)) rfl rfl⟩

theorem bladePeriod_waits (hst : Stopped s t) (hs : s.blade.state = .jammed) (hp : s.blade.jamPhase = some .brake)
    (hf : s.blade.final = false) :
    (bladePeriod t s).blade.duty = s.blade.duty ∧ (bladePeriod t s).blade.brake = false ∧
      (bladePeriod t s).blade.brakeTimer = none ∧ (bladePeriod t s).blade.state = .jammed ∧
      (bladePeriod t s).blade.jamPhase = some .wait ∧ (bladePeriod t s).blade.waitTimer = some (s.partTime + 1000) ∧
      (bladePeriod t s).notice = s.notice := by
  have hphase : (calmed t s).blade.jamPhase = some .brake := by rw [calmed_blade]; exact hp
  have hfinal : (calmed t s).blade.final = false := by rw [calmed_blade]; exact hf
  have haction := ((bladeAction_jammed (target := s.bladeTarget) (stopped := (s.blade.measure t).stopped t)
    ((calmed_state t s).trans hs)).trans (if_pos ⟨hphase, (measure_stopped_iff s t).2 hst⟩)).trans (takeStop_waits hfinal)
  have hstate := (calmed_state t s).trans hs
  rw [bladePeriod_acts (by rw [measure_rpm_stopped hst]; omega) haction
    (by exact fun h => absurd (hstate.symm.trans h) (by decide)), calmed_blade]
  exact ⟨rfl, rfl, rfl, hs, rfl, rfl, rfl⟩

/-- In any other state nothing but the readings moves. -/
theorem bladePeriod_rests (hrpm : (s.blade.measure t).rpm ≤ 6000)
    (h : s.blade.state = .off ∨ s.blade.state = .lockedOut ∨ s.blade.state = .braking ∧ ¬ Stopped s t ∨
      s.blade.state = .jammed ∧ (s.blade.jamPhase ≠ some .brake ∨ ¬ Stopped s t)) :
    (bladePeriod t s).blade = { s.blade with
      timer := s.blade.timer + 10
      rpm := (s.blade.measure t).rpm
      load := 0
      runaway := false
      effective := (bladePeriod t s).blade.effective
      lastPulse := (bladePeriod t s).blade.lastPulse
      period := (bladePeriod t s).blade.period } := by
  have hstill : bladeAction s.bladeTarget ((s.blade.measure t).stopped t) (calmed t s) = calmed t s := by
    refine bladeAction_none ?_
    rw [calmed_blade, ← Bool.not_eq_true, measure_stopped_iff]
    exact h
  have hload : loadOf s.blade.state s.blade.duty = 0 := by
    rcases h with h | h | ⟨h, -⟩ | ⟨h, -⟩ <;> rw [h] <;> rfl
  obtain ⟨d, hblade⟩ := publishBlade_blade (calmed t s)
  rw [bladePeriod_calm hrpm, hstill, hblade, calmed_blade, ← hload]

end

/-- Settles O23, by the state that the jam finds. -/
theorem jamEvent : Obligations.JamEvent := by
  unfold Obligations.JamEvent
  intro t s hr hd hm rpm target hjam
  have hrpm : (s.blade.measure t).rpm = rpm := by
    refine measure_rpm_unique (fun lp p hl hp => ?_) (fun hl => ?_) fun hp => ?_
    · simp only [rpm, hl, hp]
    · simp only [rpm, hl]
    · simp only [rpm, hp]
      cases s.blade.lastPulse <;> rfl
  have htarget : s.bladeTarget = target := bladeTarget_eq s
  have hcalm : (s.blade.measure t).rpm ≤ 6000 := by
    have hbound : target ≤ 4000 := by omega
    rcases hjam with ⟨-, hlow, -⟩ | ⟨-, hlow, -⟩ <;> omega
  let a : State := { s with timebase := t, causes := Causes.none }
  have hstate : (calmed t a).blade.state = s.blade.state := calmed_state t a
  have haction := bladeAction_jams (s := calmed t a) (target := target) (rpm := rpm)
    (stopped := (s.blade.measure t).stopped t) hrpm (by rw [calmed_blade]; exact hjam)
  rw [hstate, ← htarget] at haction
  have hrules := (if_pos (by exact hd) : bladeExpiry t a = _).trans (bladePeriod_jams (s := a) hm hcalm (by exact haction))
  have hheld : (calmed t a).noticesHeld = false :=
    noticesHeld_unstarted fun hs => absurd (hm.symm.trans hs) (by decide)
  refine ⟨_, congrArg Host.Outcome.next (event_unshown hr (hrules.trans (jamEvent_eq_update _ _ _))
    { Unshown.refl s with } rfl), rfl, ?_⟩
  have hposts : Posts s (Machine.jamEvent (if s.blade.state = .spinup then .startStall else .jam)
      (if s.blade.state = .spinup then .startStall rpm else .jammed rpm) (calmed t a)) .blade
      (if s.blade.state = .spinup then 3 else 2) [wordN rpm] := by
    split <;> exact jamEvent_posts hheld rfl rfl
  have hword := jamEvent_stateWord (if s.blade.state = .spinup then .startStall else .jam)
    (if s.blade.state = .spinup then .startStall rpm else .jammed rpm) (calmed t a)
  have hblade := (jamEvent_blade (if s.blade.state = .spinup then .startStall else .jam)
    (if s.blade.state = .spinup then .startStall rpm else .jammed rpm) (calmed t a)).trans
      (congrArg (fun b : Blade => { b with
        state := .jammed
        jamPhase := some .brake
        final := b.nextFinal s.partTime
        duty := 0
        brake := true
        brakeTimer := some (s.partTime + 2000)
        brakeStart := some t
        jamCount := satAdd 255 b.jamCount 1
        lastFault := if s.blade.state = BladeState.spinup then .startStall else .jam
        lastJam := some s.partTime
        load := 0 }) (calmed_blade t a))
  dsimp only
  rw [hblade]
  refine ⟨rfl, rfl, rfl, rfl, rfl, rfl, satAdd_one _ _, rfl, rfl, nextFinal_iff _ _, hposts, hrpm, hword⟩

/-- Settles O22, by the blade state that the period finds. -/
theorem bladePeriod : Obligations.BladePeriod := by
  unfold Obligations.BladePeriod
  intro t s hr
  refine ⟨fun hearly => ?early, fun hdue => ?due⟩
  case early =>
    refine congrArg Host.Outcome.next ((event_timed (b := { s with timebase := t, causes := Causes.none }) _ hr
      (if_neg (by exact ne_true_of_eq_false hearly)) { Unshown.refl s with } rfl).trans ?_)
    rfl
  case due =>
    intro rpm target
    have hrpm : (s.blade.measure t).rpm = rpm := by
      refine measure_rpm_unique (fun lp p hl hp => ?_) (fun hl => ?_) fun hp => ?_
      · simp only [rpm, hl, hp]
      · simp only [rpm, hl]
      · simp only [rpm, hp]
        cases s.blade.lastPulse <;> rfl
    have htarget : s.bladeTarget = target := bladeTarget_eq s
    let a : State := { s with timebase := t, causes := Causes.none }
    obtain ⟨htime, hpart, hrecv, -, -, -, -, -, hblade, -, -, -, hnotice, -⟩ := (exec_bladePeriod_due hr hdue).blocks
    refine ⟨_, rfl, htime.trans ?_, hpart.trans ?_, hrecv.trans ?_, ?_⟩
    · simp
    · simp
    · simp
    obtain ⟨htimer, hread, hload⟩ := bladePeriod_readings t a
    unfold SpinsUp Posts
    rw [hblade, hnotice]
    refine ⟨htimer, hread.trans hrpm, hload, fun h6 hs hup => ?spun, fun h6 hs hlow hsoon => ?spinning,
      fun h6 hs hup => ?cutting, fun hs hst => ⟨fun hd => ?off, fun hd => ?cut⟩, fun hs hp hst => ?jammed,
      fun h6 h => ?rests⟩
    case spun =>
      rw [← hrpm] at h6
      rw [← htarget, ← hrpm] at hup
      rw [← hrpm]
      exact bladePeriod_spun (s := a) h6 hs hup
    case spinning =>
      rw [← hrpm] at h6
      rw [← htarget, ← hrpm] at hlow
      exact bladePeriod_spinning (s := a) h6 hs hlow hsoon
    case cutting =>
      rw [← hrpm] at h6
      rw [← htarget, ← hrpm] at hup
      rw [← htarget, ← hrpm]
      exact bladePeriod_cutting (s := a) h6 hs hup
    case off => exact bladePeriod_stops_off (s := a) hst hs hd
    case cut => exact bladePeriod_stops_cut (s := a) hst hs hd
    case jammed =>
      cases hf : s.blade.final with
      | true =>
        obtain ⟨hduty, hbrake, hbrakeTimer, hstate, hphase, hposts⟩ := bladePeriod_locks (s := a) hst hs hp hf
        exact ⟨hduty, hbrake, hbrakeTimer, fun _ => ⟨hstate, hphase, hposts⟩, nofun⟩
      | false =>
        obtain ⟨hduty, hbrake, hbrakeTimer, hstate, hphase, hwait, hkept⟩ := bladePeriod_waits (s := a) hst hs hp hf
        exact ⟨hduty.trans (Nat.mul_one _).symm, hbrake, hbrakeTimer, nofun, fun _ => ⟨hstate, hphase, hwait, hkept⟩⟩
    case rests =>
      rw [← hrpm] at h6
      rw [← hrpm]
      exact bladePeriod_rests (s := a) h6 h

end Sys2Proof.Proofs
end

section
/-! SUPPORT. The Guard's findings, outside ARMED and while ARMED. -/

namespace Sys2Proof.Proofs

open Sys2Proof.Machine Sys2Proof.Safety

/-! ### A finding outside ARMED (R166, R167) -/

/-- The trip record after a finding outside ARMED. -/
def furthered (c : TripCause) (g : Guard) : TripRecord :=
  if g.machine = .tripped ∧ g.trip.first ≠ some c then { g.trip with further := g.trip.further ||| c.bit } else g.trip

theorem furthered_joins {c : TripCause} {g : Guard} (hm : g.machine = .tripped) (hf : g.trip.first ≠ some c) :
    furthered c g = { g.trip with further := g.trip.further ||| c.bit } := if_pos ⟨hm, hf⟩

theorem furthered_stands {c : TripCause} {g : Guard} (h : g.machine ≠ .tripped ∨ g.trip.first = some c) :
    furthered c g = g.trip := if_neg (by tauto)

theorem find_joins {c : TripCause} {s : State} (hm : s.guard.machine = .tripped) (hf : s.guard.trip.first ≠ some c) :
    find c s = { s with
      guard := { s.guard with trip := furthered c s.guard }
      mem := s.mem.writeAll (tripCells (furthered c s.guard)) } := by
  rw [furthered_joins hm hf]
  have hjoins : find c s = addFurther c s := by
    unfold find
    rw [hm]
  rw [hjoins, addFurther, if_neg hf]
  rfl

theorem find_stands {c : TripCause} {s : State} (hm : s.guard.machine ≠ .armed)
    (h : s.guard.machine ≠ .tripped ∨ s.guard.trip.first = some c) : find c s = s := by
  unfold find
  cases hs : s.guard.machine with
  | armed => exact absurd hs hm
  | tripped => exact if_pos (h.resolve_left (not_not.2 hs))
  | start => rfl
  | safe => rfl
  | parked => rfl

theorem find_eq_update {c : TripCause} {s : State} (hm : s.guard.machine ≠ .armed) :
    find c s = { s with guard := { s.guard with trip := furthered c s.guard }, mem := (find c s).mem } := by
  by_cases h : s.guard.machine ≠ .tripped ∨ s.guard.trip.first = some c
  · rw [furthered_stands h, find_stands hm h]
  · rw [find_joins (not_not.1 fun hm' => h (.inl hm')) fun hf => h (.inr hf)]

/-- The record's second word is the set of further causes. -/
theorem tripCells_further (m : Memory) {r : TripRecord} (h : r.further ≠ 0) :
    (m.writeAll (tripCells r)).read 0x281 = r.further.zeroExtend 16 := by
  have hcells : tripCells r = [(0x280, tripCauseWord r.first)] ++ (0x281, r.further.zeroExtend 16) :: (tripCells r).drop 2 := rfl
  rw [hcells]
  refine read_writeAll_last m _ (fun hz => h ?_) fun c hc => ?_
  · have hnat := congrArg BitVec.toNat hz
    simp only [BitVec.truncate_eq_setWidth, BitVec.toNat_setWidth] at hnat
    refine BitVec.eq_of_toNat_eq ?_
    have hlt := r.further.isLt
    simpa [Nat.mod_eq_of_lt (show r.further.toNat < 65536 by omega)] using hnat
  · have hdrop : (tripCells r).drop 2 = cellsFrom 0x282 _ := rfl
    have hbounds := cellsFrom_bounds (hdrop ▸ hc)
    omega

theorem or_bit_ne_zero (x : BitVec 7) (c : TripCause) : x ||| c.bit ≠ 0 := by
  intro h
  have hbit : c.bit = 0 := by
    have hand : (x ||| c.bit) &&& c.bit = c.bit := by
      ext i hi
      simp
      tauto
    rw [h] at hand
    simpa using hand.symm
  cases c <;> exact absurd hbit (by decide)

/-- The record's words show a finding that joined it; otherwise no word moves. -/
theorem find_words {c : TripCause} {s : State} (hm : s.guard.machine ≠ .armed) :
    (s.guard.machine = .tripped ∧ s.guard.trip.first ≠ some c →
      (find c s).word 0x281 = (furthered c s.guard).further.zeroExtend 16 ∧
        ∀ a, a < 0x280 ∨ 0x2A0 ≤ a → (find c s).word a = s.word a) ∧
    (s.guard.machine ≠ .tripped ∨ s.guard.trip.first = some c → (find c s).mem = s.mem) := by
  constructor
  · rintro ⟨ht, hf⟩
    have hfurther : (furthered c s.guard).further ≠ 0 := by
      rw [furthered_joins ht hf]
      exact or_bit_ne_zero _ c
    have hmem : (find c s).mem = s.mem.writeAll (tripCells (furthered c s.guard)) := by rw [find_joins ht hf]
    constructor
    · rw [State.word_eq, hmem]
      exact tripCells_further _ hfurther
    · intro a ha
      rw [State.word_eq, hmem]
      exact Memory.read_writeAll_outside _ (tripCells_outside _ ha)
  · exact fun h => congrArg State.mem (find_stands hm h)

/-- An event that is a finding outside ARMED. -/
theorem event_finds {c : TripCause} {f : State → State} {s b : State} (hr : s.resetting = none)
    (hf : f { s with causes := Causes.none } = find c b) (hm : b.guard.machine ≠ .armed)
    (hb : Unshown s b) (hc : b.causes = Causes.none) :
    s.event f = { b with
      guard := { b.guard with trip := furthered c b.guard }
      mem := (find c b).mem
      causes := s.causes } :=
  event_unshown hr (hf.trans (find_eq_update hm)) { hb with } hc

/-- Settles O30, finding by finding. -/
theorem findingsOutsideArmed : Obligations.FindingsOutsideArmed := by
  unfold Obligations.FindingsOutsideArmed
  intro s hr
  refine ⟨?opening, fun hm => ⟨?stopKey, fun i e he hd => ?lift, fun e he hd => ?noSignal, fun e he hd => ?silence⟩,
    fun i h => ?liftWaits, fun h => ?noSignalWaits, fun h => ?silenceWaits⟩
  case opening => exact congrArg Host.Outcome.next (event_still (s := setStopPin .opening s) hr rfl)
  case stopKey =>
    exact ⟨_, congrArg Host.Outcome.next (event_finds (s := setStopPin .closing s)
      (b := { setStopPin .closing s with causes := Causes.none }) hr rfl hm { Unshown.refl _ with } rfl), rfl,
      find_words (s := { setStopPin .closing s with causes := Causes.none }) hm⟩
  case lift =>
    exact ⟨_, congrArg Host.Outcome.next (event_finds (b := setLift i .closed none { s with causes := Causes.none }) hr
      (if_pos (dueOpt_true (by exact he) hd)) hm { Unshown.refl s with } rfl), rfl,
      find_words (s := setLift i .closed none { s with causes := Causes.none }) hm⟩
  case noSignal =>
    exact ⟨_, congrArg Host.Outcome.next (event_finds
      (b := { s with guard := { s.guard with noSignal := none }, causes := Causes.none }) hr
      (if_pos (dueOpt_true (by exact he) hd)) hm { Unshown.refl s with } rfl), rfl,
      find_words (s := { s with guard := { s.guard with noSignal := none }, causes := Causes.none }) hm⟩
  case silence =>
    exact ⟨_, congrArg Host.Outcome.next (event_finds
      (b := { s with guard := { s.guard with silence := none }, causes := Causes.none }) hr
      (if_pos (dueOpt_true (by exact he) hd)) hm { Unshown.refl s with } rfl), rfl,
      find_words (s := { s with guard := { s.guard with silence := none }, causes := Causes.none }) hm⟩
  case liftWaits => exact congrArg Host.Outcome.next (event_still hr (if_neg (by exact ne_true_of_eq_false (dueOpt_false h))))
  case noSignalWaits =>
    exact congrArg Host.Outcome.next (event_still hr (if_neg (by exact ne_true_of_eq_false (dueOpt_false h))))
  case silenceWaits =>
    exact congrArg Host.Outcome.next (event_still hr (if_neg (by exact ne_true_of_eq_false (dueOpt_false h))))

end Sys2Proof.Proofs
end

section
/-! SUPPORT. What the ends, activations and contacts of a control period leave: the pose, the host's words, and with
nothing newly staged the Guard's distances and the loops. -/

namespace Sys2Proof.Proofs

open Sys2Proof.Machine Sys2Proof.Safety

/-! ### The host's words stand (R188, R203) -/

/-- The words of the command block, the live settings and the staged settings, which the part itself never writes. -/
def HostWords (s t : State) : Prop := ∀ a, 0x040 ≤ a → a < 0x0C0 → t.word a = s.word a

theorem HostWords.refl (s : State) : HostWords s s := fun _ _ _ => rfl

theorem HostWords.trans {s t u : State} (h : HostWords s t) (k : HostWords t u) : HostWords s u :=
  fun a hlow hhigh => (k a hlow hhigh).trans (h a hlow hhigh)

theorem hostWords_outside {s t : State} {cells : List (Nat × Word)} (hmem : t.mem = s.mem.writeAll cells)
    (hc : ∀ c ∈ cells, c.1 < 0x040 ∨ 0x0C0 ≤ c.1) : HostWords s t := fun a hlow hhigh => by
  rw [State.word_eq, hmem]
  exact Memory.read_writeAll_outside _ fun c hcell => by have := hc c hcell; omega

theorem hostWords_cells {s t : State} {cells : List (Nat × Word)} (hmem : t.mem = s.mem.writeAll cells)
    (hc : ∀ c ∈ cells, 0x0C0 ≤ c.1) : HostWords s t := hostWords_outside hmem fun c hcell => .inr (hc c hcell)

theorem hostWords_cellsFrom {s t : State} {a : Nat} {ws : List Word} (hmem : t.mem = s.mem.writeAll (cellsFrom a ws))
    (ha : 0x0C0 ≤ a) : HostWords s t := hostWords_cells hmem fun _ hc => ha.trans (cellsFrom_bounds hc).1

/-! ### What only ends and contacts change -/

/-- An end of a segment or a contact: of the drive only the suspended flag may move, and the settings in force, the Guard,
the loops and the host's words stand. -/
structure Contacted (s t : State) : Prop where
  drive : t.drive = { s.drive with suspended := t.drive.suspended }
  settings : (t.plan.applied, t.plan.appliedGen) = (s.plan.applied, s.plan.appliedGen)
  guard : t.guard = s.guard
  loops : t.loops = s.loops
  words : HostWords s t

theorem Contacted.refl (s : State) : Contacted s s := ⟨rfl, rfl, rfl, rfl, .refl s⟩

theorem Contacted.after {s t u : State} (k : Contacted t u) (h : Contacted s t) : Contacted s u where
  drive := by rw [k.drive, h.drive]
  settings := k.settings.trans h.settings
  guard := k.guard.trans h.guard
  loops := k.loops.trans h.loops
  words := h.words.trans k.words

/-- The plan moves, but for its settings. -/
theorem contacted_plan (s : State) {p : Plan} (h : (p.applied, p.appliedGen) = (s.plan.applied, s.plan.appliedGen)) :
    Contacted s { s with plan := p } := { Contacted.refl s with settings := h }

theorem contacted_post (r : Report) (s : State) : Contacted s (post r s) := by
  have hwords : HostWords s (post r s) := fun a hlow _ => post_word r s (.inr hlow)
  rw [post_eq_update] at hwords ⊢
  exact { Contacted.refl s with words := hwords }

theorem contacted_writeDockRecord (s : State) : Contacted s (writeDockRecord s) :=
  { Contacted.refl s with words := hostWords_cellsFrom rfl (by decide) }

theorem contacted_dock (s : State) (d : Dock) : Contacted s (writeDockRecord { s with dock := d }) :=
  (contacted_writeDockRecord _).after { Contacted.refl s with }

theorem contacted_judgeBlade (s : State) : Contacted s (judgeBlade s) where
  drive := by simp
  settings := by
    unfold judgeBlade reportUncut
    split <;> simp [markUncut, actOnDirective] <;> (split <;> exact ⟨rfl, rfl⟩)
  guard := by simp
  loops := by simp
  words a _ hhigh := judgeBlade_word s (.inl (by omega))

theorem contacted_handStanding (d : Directive) (s : State) : Contacted s (handStanding d s) :=
  (contacted_judgeBlade _).after (contacted_plan s rfl)

theorem contacted_startHold (s : State) : Contacted s (startHold s) := by
  unfold startHold
  split
  · exact .refl s
  · split
    · exact contacted_handStanding _ _
    · exact contacted_plan s rfl

theorem contacted_becomeIdle (s : State) : Contacted s (becomeIdle s) :=
  (contacted_handStanding _ _).after (contacted_plan s rfl)

/-! ### The end of a segment (R51..R55) -/

theorem contacted_endDock (cause : EndCause) (s : State) : Contacted s (endDock cause s) := by
  unfold endDock
  split
  · exact .refl s
  · exact contacted_dock s _

theorem contacted_reportDocked (cause : EndCause) (s : State) : Contacted s (reportDocked cause s) := by
  unfold reportDocked
  split
  · exact contacted_post _ _
  · exact .refl s

theorem contacted_closeSegment (seg : Segment) (cause : EndCause) (s : State) : Contacted s (closeSegment seg cause s) :=
  (contacted_reportDocked _ _).after ((contacted_endDock _ _).after
    ⟨rfl, rfl, rfl, rfl, hostWords_cells rfl fun c hc => (resultCells_slot hc).trans' (by decide)⟩)

theorem contacted_postEnd (seg : Segment) (cause : EndCause) (s : State) : Contacted s (postEnd seg cause s) := by
  unfold postEnd
  split
  · exact .refl s
  · split <;> exact contacted_post _ _

theorem contacted_continuePlan (seg : Segment) (cause : EndCause) (s : State) :
    Contacted s (continuePlan seg cause s).1 := by
  unfold continuePlan
  split
  · split
    · exact .refl s
    · exact (contacted_post _ _).after (contacted_becomeIdle s)
  · exact (contacted_post _ _).after ((contacted_startHold _).after (contacted_plan s rfl))
  · exact contacted_becomeIdle s
  · exact .refl s

theorem contacted_settleEnd (cause : EndCause) (s : State) : Contacted s (settleEnd cause s).1 := by
  unfold settleEnd
  split
  · exact .refl s
  · exact (contacted_continuePlan _ _ _).after ((contacted_postEnd _ _ _).after (contacted_closeSegment _ _ _))

/-- An end that holds the plan activates nothing (R53). -/
theorem endActive_held {cause : EndCause} (hc : ∀ o, cause.continuation o = .held) (s : State) :
    endActive cause s = (settleEnd cause s).1 := by
  have hnext : (settleEnd cause s).2 = none := by
    unfold settleEnd
    split
    · rfl
    · simp [continuePlan, hc]
  rw [endActive, goOn, hnext]

theorem contacted_endActive {cause : EndCause} (hc : ∀ o, cause.continuation o = .held) (s : State) :
    Contacted s (endActive cause s) := endActive_held hc s ▸ contacted_settleEnd cause s

/-! ### Traps, reflexes and contacts (R142..R153) -/

theorem contacted_contact (s : State) (c : Contact) : Contacted s { s with contact := c } := { Contacted.refl s with }

theorem contacted_planTrapped (s : State) : Contacted s (planTrapped s) := by
  unfold planTrapped
  split
  · exact contacted_endActive (fun _ => rfl) s
  · split
    · exact (contacted_post _ _).after ((contacted_startHold _).after (contacted_plan s rfl))
    · exact .refl s

theorem contacted_takeTrap (cause : TrapCause) (s : State) : Contacted s (takeTrap cause s) := by
  have hplan := (contacted_planTrapped _).after (contacted_contact s { s.contact with stage := .quiet })
  unfold takeTrap
  refine (contacted_post _ _).after ?_
  split <;> exact (contacted_contact _ _).after hplan

theorem contacted_startReflex (e : Entry) (s : State) : Contacted s (startReflex e s) := ⟨rfl, rfl, rfl, rfl, .refl s⟩

theorem contacted_startOrTrap (e : Entry) (s : State) : Contacted s (startOrTrap e s) := by
  unfold startOrTrap
  split
  · exact contacted_takeTrap _ _
  · exact contacted_startReflex _ _

theorem contacted_restartOrTrap (e : Entry) (s : State) : Contacted s (restartOrTrap e s) := by
  unfold restartOrTrap
  dsimp only
  split
  · exact (contacted_takeTrap _ _).after (contacted_contact s _)
  · exact (contacted_contact _ _).after (contacted_contact s _)

theorem contacted_joinReflex (e : Entry) (s : State) : Contacted s (joinReflex e s) := by
  unfold joinReflex
  split
  · exact contacted_takeTrap _ _
  · split
    · exact .refl s
    · exact contacted_contact s _
    · exact contacted_restartOrTrap _ _
    · exact contacted_restartOrTrap _ _

theorem contacted_takeMiss (s : State) : Contacted s (takeMiss s) := by
  unfold takeMiss
  dsimp only
  split
  · exact (contacted_endActive (fun _ => rfl) _).after { Contacted.refl s with }
  · exact (contacted_post _ _).after (contacted_dock s _)

theorem contacted_dockBump (s : State) : Contacted s (dockBump s) := by
  unfold dockBump
  dsimp only
  split
  · exact .refl s
  · split
    · exact contacted_takeMiss s
    · exact { Contacted.refl s with }
    · exact .refl s
    · exact .refl s

theorem contacted_dispose (e : Entry) (s : State) : Contacted s (dispose e s) := by
  unfold dispose
  split
  · exact contacted_joinReflex _ _
  · split
    · exact (contacted_dockBump _).after (contacted_contact s _)
    · split
      · exact contacted_startOrTrap _ _
      · exact contacted_contact s _

theorem contacted_appendContact (e : Entry) (s : State) : Contacted s (appendContact e s) :=
  (contacted_dispose _ _).after (show Contacted s (countContact (setList (appendEntry e s.contact.list) s)) from
    ⟨rfl, rfl, rfl, rfl, .refl s⟩)

theorem contacted_foldContact (e : Entry) (src : Sources) (range : Option Nat) (s : State) :
    Contacted s (foldContact e src range s) := by
  have hfolded : Contacted s (noteContacts (setList (mapNewest (fun d => d.folded src range) s.contact.list) s)) :=
    { Contacted.refl s with }
  unfold foldContact
  dsimp only
  split
  · split
    · exact (contacted_contact _ _).after hfolded
    · exact hfolded
  · split
    · exact (contacted_contact _ _).after hfolded
    · exact hfolded
  · exact hfolded
  · split
    · exact hfolded
    · split
      · exact (contacted_takeTrap _ _).after hfolded
      · exact (contacted_startReflex _ _).after ((contacted_contact _ _).after hfolded)

theorem contacted_formContact (src : Sources) (range : Option Nat) (s : State) : Contacted s (formContact src range s) := by
  unfold formContact
  split
  · split
    · exact contacted_foldContact _ _ _ _
    · exact contacted_appendContact _ _
  · exact contacted_appendContact _ _

theorem contacted_judgeStall (i : LR) (s : State) : Contacted s (judgeStall i s) := by
  unfold judgeStall
  dsimp only
  split
  · split
    · exact contacted_contact s _
    · split
      · exact (contacted_formContact _ _ _).after (contacted_contact s _)
      · exact .refl s
  · exact contacted_contact s _

theorem contacted_judgePinging (s : State) : Contacted s (judgePinging s) := by
  unfold judgePinging
  dsimp only
  split
  · exact .refl s
  · split <;> exact contacted_contact s _

/-! ### What an activation changes as well -/

/-- The part of the drive that no segment's start or end moves. -/
def pose (d : Drive) : Time × Int × Int × BitVec 16 × Motion := (d.timer, d.x, d.y, d.heading, d.motion)

/-- The end of a segment with all that follows: the pose, the start of a tilt and the host's words stand, and with nothing
newly staged the Guard, the loops and the settings in force. -/
structure Steady (s t : State) : Prop where
  drive : pose t.drive = pose s.drive
  tilt : t.guard.tiltStart = s.guard.tiltStart
  words : HostWords s t
  staged : s.stageGen = s.plan.appliedGen →
    t.guard = s.guard ∧ t.loops = s.loops ∧ (t.plan.applied, t.plan.appliedGen) = (s.plan.applied, s.plan.appliedGen)

theorem HostWords.stageGen {s t : State} (h : HostWords s t) : t.stageGen = s.stageGen := h _ (by decide) (by decide)

theorem Steady.refl (s : State) : Steady s s := ⟨rfl, rfl, .refl s, fun _ => ⟨rfl, rfl, rfl⟩⟩

theorem Steady.after {s t u : State} (k : Steady t u) (h : Steady s t) : Steady s u where
  drive := k.drive.trans h.drive
  tilt := k.tilt.trans h.tilt
  words := h.words.trans k.words
  staged hs := by
    obtain ⟨hguard, hloops, hsettings⟩ := h.staged hs
    have hgen : t.stageGen = t.plan.appliedGen := by
      rw [h.words.stageGen, (Prod.mk.inj hsettings).2, hs]
    obtain ⟨kguard, kloops, ksettings⟩ := k.staged hgen
    exact ⟨kguard.trans hguard, kloops.trans hloops, ksettings.trans hsettings⟩

theorem Contacted.steady {s t : State} (h : Contacted s t) : Steady s t where
  drive := by rw [h.drive]; rfl
  tilt := congrArg Guard.tiltStart h.guard
  words := h.words
  staged _ := ⟨h.guard, h.loops, h.settings⟩

/-! ### The settings newly staged (R64, R65) -/

/-- What an apply does to the loops and the Guard leaves the start of a tilt and the host's words. -/
structure Applied (s t : State) : Prop where
  tilt : t.guard.tiltStart = s.guard.tiltStart
  words : HostWords s t

theorem Applied.refl (s : State) : Applied s s := ⟨rfl, .refl s⟩

theorem Applied.after {s t u : State} (k : Applied t u) (h : Applied s t) : Applied s u :=
  ⟨k.tilt.trans h.tilt, h.words.trans k.words⟩

theorem Contacted.applied {s t : State} (h : Contacted s t) : Applied s t := ⟨congrArg Guard.tiltStart h.guard, h.words⟩

theorem applied_recomputeLoop (n : Loop) (s : State) : Applied s (recomputeLoop n s) := by
  unfold recomputeLoop
  dsimp only
  generalize (if entryUnused _ = true then LoopState.unused else _) = st
  split
  · exact .refl s
  · have hposted : Applied s (post (.loopState n) (noteLoops { s with loops := { s.loops with
        recs := s.loops.recs.set n { s.loops.recs.get n with state := st } } })) :=
      (contacted_post _ _).applied.after ⟨rfl, .refl _⟩
    split
    · refine Applied.after ?_ hposted
      unfold followNoSignal
      split
      · split <;> exact ⟨rfl, .refl _⟩
      · exact ⟨rfl, .refl _⟩
    · exact hposted

theorem applied_recomputeLoops (s : State) : Applied s (recomputeLoops s) :=
  (applied_recomputeLoop 3 _).after ((applied_recomputeLoop 2 _).after ((applied_recomputeLoop 1 _).after
    (applied_recomputeLoop 0 s)))

theorem applied_guardOnClass (s : State) : Applied s (guardOnClass s) := by
  have hescape : Applied s (if s.loops.posClass = .outsideAll then s
      else { s with guard := { s.guard with escape := 0 } }) := by
    split
    · exact .refl s
    · exact ⟨rfl, .refl _⟩
  unfold guardOnClass
  dsimp only
  generalize (if s.loops.posClass = .outsideAll then s else _) = escaped at hescape ⊢
  split
  · exact (contacted_judgeBlade _).applied.after ((contacted_post _ _).applied.after ⟨hescape.tilt, hescape.words⟩)
  · exact hescape

theorem applied_recomputeClass (s : State) : Applied s (recomputeClass s) := by
  unfold recomputeClass bladeOnClass
  dsimp only
  split
  · exact .refl s
  · refine (applied_guardOnClass _).after ?_
    split
    · exact (contacted_judgeBlade _).applied.after ((contacted_post _ _).applied.after ⟨rfl, .refl _⟩)
    · exact (contacted_post _ _).applied.after ⟨rfl, .refl _⟩

theorem applied_judgeNear (s : State) : Applied s (judgeNear s) := by
  unfold judgeNear
  dsimp only
  split <;> exact ⟨rfl, .refl _⟩

theorem applied_loopsOnApply (before : Four Nat) (s : State) : Applied s (loopsOnApply before s) := by
  have hloops : Applied s (recomputeLoops (clearChanged before s)) := (applied_recomputeLoops _).after ⟨rfl, .refl _⟩
  unfold loopsOnApply
  dsimp only
  split
  · exact (applied_judgeNear _).after hloops
  · exact (applied_judgeNear _).after ((applied_recomputeClass _).after hloops)

theorem steady_applyIfStaged (s : State) : Steady s (applyIfStaged s) := by
  unfold applyIfStaged
  split
  case isTrue => exact .refl s
  case isFalse hstaged =>
    have happlied : Applied s (applySettings s) := by
      refine (contacted_post _ _).applied.after ((applied_loopsOnApply _ _).after ⟨rfl, hostWords_outside rfl fun c hc => ?_⟩)
      rcases List.mem_append.1 hc with hc | hc
      · exact .inr ((cellsFrom_bounds hc).1.trans' (by decide))
      · rcases List.mem_cons.1 hc with rfl | hc
        · exact .inr (show 0x0C0 ≤ addrAppliedGenMirror by decide)
        · rw [List.mem_singleton.1 hc]
          exact .inl (show addrAppliedGen < 0x040 by decide)
    exact ⟨by simp [pose], happlied.tilt, happlied.words, fun hs => absurd hs hstaged⟩

/-! ### Activation (R45..R50) -/

theorem steady_enterWaiting (h : Slot) (s : State) : Steady s (enterWaiting h s) :=
  Contacted.steady ((contacted_post _ _).after ((contacted_startHold _).after (contacted_plan s rfl)))

theorem steady_captureSlot (h : Slot) (s : State) : Steady s (captureSlot h s) :=
  ⟨rfl, rfl, hostWords_cells rfl fun _ hc => (activationCells_slot hc).trans' (by decide), fun _ => ⟨rfl, rfl, rfl⟩⟩

theorem contacted_enterNear (s : State) : Contacted s (enterNear s) := (contacted_post _ _).after (contacted_dock s _)

theorem contacted_beginKind (seg : Segment) (s : State) : Contacted s (beginKind seg s) := by
  have htrack (t : State) : Contacted t (beginTrack seg.activation seg.fields t) := { Contacted.refl t with }
  have hdock (t : State) : Contacted t (beginDock seg.activation t) := by
    unfold beginDock
    dsimp only
    split
    · exact { Contacted.refl t with }
    · split
      · exact (contacted_enterNear _).after { Contacted.refl t with }
      · exact contacted_dock t _
  unfold beginKind
  split
  · exact htrack s
  · exact (hdock _).after (htrack s)
  · exact contacted_dock s _
  all_goals exact .refl s

theorem contacted_clampActive (s : State) : Contacted s (clampActive s) := by
  unfold clampActive
  split
  · exact .refl s
  · rename_i seg _
    exact ⟨rfl, rfl, rfl, rfl, hostWords_cells (cells := [(slotBase seg.slot + 28, _)]) rfl fun c hc => by
      rw [List.mem_singleton.1 hc]
      exact (slot_ge _ _).trans' (by decide)⟩

theorem contacted_startWatch (s : State) : Contacted s (startWatch s) := by
  unfold startWatch
  split
  · exact .refl s
  · exact contacted_plan s rfl

theorem contacted_handOn (s : State) : Contacted s (handOn s).1 := by
  have hclamped := contacted_clampActive s
  unfold handOn
  dsimp only
  split
  · exact hclamped
  · have hstarted (seg : Segment) := (contacted_startWatch _).after ((contacted_handStanding
        (directiveAfter (clampActive s).plan.standing seg.fields.blade) _).after ((contacted_beginKind seg _).after hclamped))
    split
    · exact (contacted_settleEnd _ _).after (hstarted _)
    · exact hstarted _

theorem contacted_checkCaptured (s : State) : Contacted s (checkCaptured s).1 := by
  unfold checkCaptured
  split
  · exact .refl s
  · split
    · exact contacted_settleEnd _ _
    · split
      · exact contacted_settleEnd _ _
      · exact contacted_handOn s

theorem steady_activateOne (h : Slot) (s : State) : Steady s (activateOne h s).1 := by
  unfold activateOne
  split
  · exact (contacted_becomeIdle s).steady
  · split
    · exact steady_enterWaiting h s
    · exact (contacted_checkCaptured _).steady.after ((steady_captureSlot h _).after (steady_applyIfStaged s))

theorem steady_activateChain (n : Nat) (h : Slot) (s : State) : Steady s (activateChain n h s) := by
  induction n generalizing h s with
  | zero => exact .refl s
  | succ n ih =>
    have hone := steady_activateOne h s
    rw [activateChain]
    split
    · simpa [‹activateOne h s = _›] using hone
    · exact (ih _ _).after (by simpa [‹activateOne h s = _›] using hone)

theorem steady_activate (h : Slot) (s : State) : Steady s (activate h s) := steady_activateChain 49 h s

theorem steady_endActive (cause : EndCause) (s : State) : Steady s (endActive cause s) := by
  unfold endActive goOn
  split
  · exact (contacted_settleEnd _ _).steady
  · exact (steady_activate _ _).after (contacted_settleEnd _ _).steady

/-! ### A reflex goes on or ends (R148, R151) -/

theorem steady_resumeSegment (s : State) : Steady s (resumeSegment s) := by
  have hresumed (f : Fields) : Steady s (resumeKind f { s with drive := { s.drive with suspended := false } }) := by
    unfold resumeKind
    split
    case h_3 =>
      split
      · exact (contacted_enterNear _).steady.after { Steady.refl s with }
      · exact { Steady.refl s with }
    all_goals exact { Steady.refl s with }
  unfold resumeSegment
  dsimp only
  split
  · exact .refl s
  · split
    · exact (steady_endActive _ _).after (hresumed _)
    · exact (contacted_startWatch _).steady.after (hresumed _)

theorem steady_reportReflex (s : State) : Steady s (reportReflex s).1 := by
  unfold reportReflex
  split
  · exact .refl s
  · split
    · exact .refl s
    · split
      · exact steady_resumeSegment s
      all_goals exact steady_endActive _ s

theorem steady_publishQuiet (s : State) : Steady s (publishQuiet s) := by
  unfold publishQuiet
  split
  · split
    · exact steady_resumeSegment s
    · exact .refl s
  · split
    · split
      · exact steady_activate _ _
      · exact .refl s
    · exact .refl s

theorem steady_finishReflex (s : State) : Steady s (finishReflex s) :=
  (steady_publishQuiet _).after ((contacted_post _ _).steady.after ((contacted_contact _ _).steady.after
    ((steady_reportReflex _).after (contacted_contact s _).steady)))

theorem contacted_reflexStep (cap : Nat) (v : Travel) (s : State) : Contacted s (reflexStep cap v s).state := by
  have hstage (moved : Bool) (p : Pair) : Contacted s (runStage cap moved p s).state := by
    unfold runStage
    dsimp only
    split
    · exact (contacted_takeTrap _ _).after (contacted_contact s _)
    · exact contacted_contact s _
  unfold reflexStep
  split
  · exact .refl s
  · split
    · exact contacted_contact s _
    · exact .refl s
  · split
    · exact contacted_contact s _
    · exact hstage _ _
  · split
    · exact .refl s
    · exact hstage _ _

/-! ### The kinds' requests (R91, R175, R180) -/

theorem steady_track (s : State) (track : Track) : Steady s { s with track := track } := { Steady.refl s with }

theorem steady_steer (fresh : Bool) (cap : Nat) (s : State) : Steady s (steer fresh cap s).1 := by
  unfold steer
  split
  · dsimp only
    split
    · exact steady_endActive _ s
    · exact steady_track s _
  · split
    · exact .refl s
    · exact steady_endActive _ s
  · exact steady_track s _

theorem steady_trackRequest (fresh : Bool) (cap : Nat) (seg : Segment) (s : State) :
    Steady s (trackRequest fresh cap seg s).1 := by
  unfold trackRequest
  split
  · exact steady_endActive _ s
  · split
    · exact .refl s
    · split
      · exact steady_endActive _ s
      · exact steady_steer _ _ s

theorem contacted_leaveBackoff (s : State) : Contacted s (leaveBackoff s) := by
  have hleft : Contacted s (writeDockRecord { s with
      dock := { s.dock with phase := some .approach }
      track := { s.track with ePrev := 0 } }) :=
    (contacted_writeDockRecord _).after { Contacted.refl s with }
  unfold leaveBackoff
  dsimp only
  split
  · exact (contacted_enterNear _).after hleft
  · exact hleft

theorem steady_dockRequest (fresh : Bool) (cap : Nat) (seg : Segment) (s : State) :
    Steady s (dockRequest fresh cap seg s).1 := by
  unfold dockRequest dockPhaseRequest
  split
  · exact steady_endActive _ s
  · split
    · exact .refl s
    · split
      · exact .refl s
      · split
        · split
          · exact (contacted_takeMiss s).steady
          · exact steady_steer _ _ s
        · split
          · exact (steady_steer _ _ _).after (contacted_leaveBackoff s).steady
          · exact .refl s
        · exact steady_steer _ _ s

theorem steady_undockTurn (cap : Nat) (f : Fields) (s : State) : Steady s (undockTurn cap f s).1 := by
  unfold undockTurn
  split
  · exact steady_endActive _ s
  · exact .refl s

theorem steady_undockRequest (fresh : Bool) (cap : Nat) (seg : Segment) (s : State) :
    Steady s (undockRequest fresh cap seg s).1 := by
  unfold undockRequest
  split
  · exact steady_endActive _ s
  · split
    · exact .refl s
    · split
      · exact .refl s
      · split
        · exact steady_undockTurn _ _ s
        · split
          · exact steady_endActive _ s
          · split
            · exact (steady_undockTurn _ _ _).after (contacted_dock s _).steady
            · exact .refl s

theorem steady_kindRequest (fresh : Bool) (cap : Nat) (s : State) : Steady s (kindRequest fresh cap s).1 := by
  unfold kindRequest
  split
  · exact .refl s
  · split
    · exact .refl s
    · exact .refl s
    · exact .refl s
    · exact steady_trackRequest _ _ _ s
    · exact steady_dockRequest _ _ _ s
    · exact steady_undockRequest _ _ _ s
    · exact .refl s

theorem steady_requestStep (cap : Nat) (s : State) : Steady s (requestStep cap s).1 := by
  have hfirst := steady_kindRequest false cap s
  unfold requestStep
  split <;> rename_i heq <;> rw [heq] at hfirst
  · exact (steady_kindRequest _ _ _).after hfirst
  · exact hfirst
  · exact hfirst

theorem steady_settled (v : Travel) (s : State) : Steady s (ReflexOut.settled (periodChosen v s).1) := by
  have hreflex : Steady s (periodChosen v s).1.state :=
    (contacted_reflexStep _ _ _).steady.after (steady_requestStep _ s)
  unfold ReflexOut.settled
  split
  · exact (steady_finishReflex _).after hreflex
  · exact hreflex

end Sys2Proof.Proofs
end

section
/-! SUPPORT. The control period: its pose, its wheels, its governor. -/

namespace Sys2Proof.Proofs

open Sys2Proof.Machine Sys2Proof.Safety

/-! ### What carries over a finding (R73, R156, R166) -/

/-- The pose and the host's words stand; a wheel keeps all but its target and duty, and its target as well while ARMED. -/
structure Carried (s t : State) : Prop where
  drive : pose t.drive = pose s.drive
  words : HostWords s t
  unarmed : s.guard.machine ≠ .armed → t.guard.machine ≠ .armed
  wheel : ∀ i, ∃ target duty, t.drive.wheels.get i = { s.drive.wheels.get i with target := target, duty := duty } ∧
    (target = (s.drive.wheels.get i).target ∨ target = 0 ∧ t.guard.machine ≠ .armed)

theorem Carried.refl (s : State) : Carried s s := ⟨rfl, .refl s, id, fun _ => ⟨_, _, rfl, .inl rfl⟩⟩

theorem Carried.after {s t u : State} (k : Carried t u) (h : Carried s t) : Carried s u where
  drive := k.drive.trans h.drive
  words := h.words.trans k.words
  unarmed := k.unarmed ∘ h.unarmed
  wheel i := by
    obtain ⟨target, duty, heq, htarget⟩ := h.wheel i
    obtain ⟨target', duty', heq', htarget'⟩ := k.wheel i
    refine ⟨target', duty', by rw [heq', heq], ?_⟩
    rcases htarget' with htarget' | hzero
    · rw [htarget', heq]
      exact htarget.imp id fun ⟨hz, hm⟩ => ⟨hz, k.unarmed hm⟩
    · exact .inr hzero

theorem Steady.carried {s t : State} (h : Steady s t) (hw : t.drive.wheels = s.drive.wheels)
    (hm : t.guard.machine = s.guard.machine) : Carried s t :=
  ⟨h.drive, h.words, fun hs => hm ▸ hs, fun _ => ⟨_, _, by rw [hw], .inl rfl⟩⟩

theorem contacted_abortPlan (cause : EndCause) (s : State) : Contacted s (abortPlan cause s) := by
  unfold abortPlan
  split
  · exact contacted_settleEnd _ _
  · exact contacted_becomeIdle s

theorem hostWords_setMachine (m : MachineState) (s : State) : HostWords s (setMachine m s) := fun a hlow hhigh =>
  (judgeBlade_word _ (.inl (by omega))).trans (Memory.read_write_other _ _ (by simp only [addrMachineState]; omega))

/-- What a trip leaves of the drive and the host's words. -/
theorem leaveArmed_pose (cause : EndCause) (dest : MachineState) (s : State) :
    pose (leaveArmed cause dest s).drive = pose s.drive ∧ HostWords s (leaveArmed cause dest s) ∧
      (leaveArmed cause dest s).drive.wheels = s.drive.wheels.map WheelState.zeroed := by
  have hplan := contacted_abortPlan cause (setMachine dest s)
  have hdrive : (leaveArmed cause dest s).drive = (zeroTargets (abortPlan cause (setMachine dest s))).drive := by
    simp [leaveArmed]
  refine ⟨?_, ?_, ?_⟩
  · rw [hdrive]
    exact hplan.steady.drive.trans (by simp)
  · refine (hostWords_setMachine dest s).trans (hplan.words.trans fun a _ _ => ?_)
    rw [State.word_eq, (leaveArmed_eq_abortPlan cause dest s).2.2, ← State.word_eq]
  · rw [hdrive]
    simp [zeroTargets]

theorem hostWords_writeTripRecord (s : State) : HostWords s (writeTripRecord s) := hostWords_cellsFrom rfl (by decide)

/-- The machine out of ARMED with its new trip record, before the record's words and the notice (R166, R167). -/
def tripping (c : TripCause) (s : State) : State :=
  { leaveArmed .guard .tripped s with
    guard := { (leaveArmed .guard .tripped s).guard with trip := s.tripRecord c } }

theorem trip_eq (c : TripCause) (s : State) :
    trip c s = post (.trip c s.blade.rpm) (writeTripRecord (tripping c s)) := rfl

theorem trip_drive (c : TripCause) (s : State) : (trip c s).drive = (leaveArmed .guard .tripped s).drive := by
  have hpost : ∀ r t, (post r t).drive = t.drive := fun r t => by simp
  exact hpost _ (writeTripRecord (tripping c s))

theorem trip_guard (c : TripCause) (s : State) : (trip c s).guard =
    { s.guard with machine := .tripped, recovery := false, escape := 0, silence := none, trip := s.tripRecord c } := by
  have hpost : ∀ r t, (post r t).guard = t.guard := fun r t => by simp
  refine (hpost _ (writeTripRecord (tripping c s))).trans ?_
  show { (leaveArmed .guard .tripped s).guard with trip := s.tripRecord c } = _
  rw [leaveArmed_guard]

theorem hostWords_trip (c : TripCause) (s : State) : HostWords s (trip c s) := by
  obtain ⟨-, hwords, -⟩ := leaveArmed_pose .guard .tripped s
  have htripping : HostWords s (tripping c s) := hwords
  exact htripping.trans ((hostWords_writeTripRecord (tripping c s)).trans (contacted_post _ _).words)

theorem carried_find (c : TripCause) (s : State) : Carried s (find c s) := by
  unfold find
  split
  case h_1 hm =>
    obtain ⟨hpose, -, hwheels⟩ := leaveArmed_pose .guard .tripped s
    refine ⟨by rw [trip_drive, hpose], hostWords_trip c s, fun h => absurd hm h, fun i => ?_⟩
    refine ⟨0, (s.drive.wheels.get i).zeroed.duty, ?_, .inr ⟨rfl, by rw [trip_guard]; nofun⟩⟩
    rw [trip_drive, hwheels, Two.get_map]
    rfl
  case h_2 hm =>
    unfold addFurther
    split
    · exact .refl s
    · exact ⟨rfl, hostWords_writeTripRecord _, fun _ => by simp [writeTripRecord, hm], fun _ => ⟨_, _, rfl, .inl rfl⟩⟩
  all_goals exact .refl s

/-! ### Steps 1 to 4 (R70, R71, R76, R78) -/

/-- Steps 1 and 2 of the drive: the measured speeds, the pose and the accumulators. -/
def periodTravelled (t : Capture) (s : State) : State :=
  odometryStep (periodTravel t s) (measureWheels t { s with drive := { s.drive with timer := s.drive.timer + 10 } })

theorem periodEnded_eq (t : Capture) (s : State) : periodEnded t s =
    stepEnds (escapeStep (periodTravel t s) (reflexTravel (periodTravel t s) (dockTravel (periodTravel t s)
      (periodTravelled t s)))) := rfl

theorem contacted_dockTravel (v : Travel) (s : State) : Contacted s (dockTravel v s) := by
  unfold dockTravel
  split
  · exact { Contacted.refl s with }
  · split
    · exact { Contacted.refl s with }
    · exact .refl s
  · exact .refl s

theorem contacted_reflexTravel (v : Travel) (s : State) : Contacted s (reflexTravel v s) := by
  unfold reflexTravel
  split
  · exact contacted_contact s _
  · exact contacted_contact s _
  all_goals exact .refl s

theorem carried_escapeStep (v : Travel) (s : State) : Carried s (escapeStep v s) := by
  have hescape (d : Nat) : Carried s { s with guard := { s.guard with escape := d } } := { Carried.refl s with }
  unfold escapeStep
  split
  · dsimp only
    split
    · exact (carried_find _ _).after (hescape _)
    · exact hescape _
  · exact .refl s

theorem carried_stepEnds (s : State) : Carried s (stepEnds s) := by
  unfold stepEnds
  split
  · exact .refl s
  · split
    · exact (steady_endActive _ _).carried (by simp) (by simp)
    · exact .refl s

theorem carried_judgeTilt (s : State) : Carried s (judgeTilt s) := by
  unfold judgeTilt
  split
  · exact { Carried.refl s with }
  · split
    · exact { Carried.refl s with }
    · split
      · exact carried_find _ _
      · exact .refl s

theorem carried_periodEnded (t : Capture) (s : State) : Carried (periodTravelled t s) (periodEnded t s) := by
  rw [periodEnded_eq]
  exact (carried_stepEnds _).after ((carried_escapeStep _ _).after
    (((contacted_reflexTravel _ _).after (contacted_dockTravel _ _)).steady.carried (by simp) (by simp)))

/-- The state in which step 5 chooses its targets. -/
def periodJudged (t : Capture) (pitch roll : Byte) (s : State) : State := judgeTilt (periodGoverned t pitch roll s)

theorem carried_periodJudged (t : Capture) (pitch roll : Byte) (s : State) :
    Carried (periodTravelled t s) (periodJudged t pitch roll s) :=
  (carried_judgeTilt _).after (Carried.after (show Carried (periodEnded t s) (periodGoverned t pitch roll s) from
    { Carried.refl (periodEnded t s) with }) (carried_periodEnded t s))

theorem periodJudged_gov (t : Capture) (pitch roll : Byte) (s : State) :
    (periodJudged t pitch roll s).gov = (periodEnded t s).governed pitch roll := by
  unfold periodJudged judgeTilt
  split
  · rfl
  · split
    · rfl
    · split
      · simp [periodGoverned]
      · rfl

/-! ### Step 5 (R72, R74) -/

theorem settled_machine_wheels (v : Travel) (s : State) :
    (ReflexOut.settled (periodChosen v s).1).guard.machine = s.guard.machine ∧
      (ReflexOut.settled (periodChosen v s).1).drive.wheels = s.drive.wheels ∧
      (ReflexOut.settled (periodChosen v s).1).gov = s.gov := by
  unfold ReflexOut.settled periodChosen
  split <;> simp

/-- The state after step 5, before the targets are put in force. -/
def periodSettled (t : Capture) (pitch roll : Byte) (s : State) : State :=
  ReflexOut.settled (periodChosen (periodTravel t s) (periodJudged t pitch roll s)).1

/-- What step 5 chooses. -/
def periodChoice (t : Capture) (pitch roll : Byte) (s : State) : Choice × Pair :=
  let y := periodJudged t pitch roll s
  let c := periodChosen (periodTravel t s) y
  c.1.state.choose y.gov.cap c.1.pair c.2

/-- The control period in its three parts: the targets chosen, the wheels driven, the stalls judged. -/
theorem controlPeriod_parts (t : Capture) (pitch roll : Byte) (s : State) : controlPeriod t pitch roll s =
    latch (judgeStall .right (judgeStall .left (motionStep (dutyStep (aimWheels (periodChoice t pitch roll s).1
      (periodChoice t pitch roll s).2 (periodSettled t pitch roll s)))))) := rfl

theorem carried_periodSettled (t : Capture) (pitch roll : Byte) (s : State) :
    Carried (periodTravelled t s) (periodSettled t pitch roll s) := by
  obtain ⟨hmachine, hwheels, -⟩ := settled_machine_wheels (periodTravel t s) (periodJudged t pitch roll s)
  exact ((steady_settled _ _).carried hwheels hmachine).after (carried_periodJudged t pitch roll s)

/-! ### Steps 6 and 7, and the stalls (R75, R78, R141) -/

/-- The stalls judged, and the port's copy kept, leave the drive but for its suspended flag, and the settings. -/
theorem contacted_periodStalls (s : State) : Contacted s (latch (judgeStall .right (judgeStall .left s))) :=
  Contacted.after (show Contacted (judgeStall .right (judgeStall .left s)) _ from { Contacted.refl _ with })
    ((contacted_judgeStall .right _).after (contacted_judgeStall .left s))

theorem motionStep_drive (s : State) : (motionStep s).drive =
    { s.drive with motion := motionOf s.drive.wheels.left.target s.drive.wheels.right.target } := by
  unfold motionStep judgePinging
  dsimp only
  split
  · rfl
  · split <;> rfl

/-- One wheel's new state: the target that follows from a request, and the duty from it (R74, R75). -/
def WheelState.driveBy (accel kf ki : Nat) (request : Int) (w : WheelState) : WheelState :=
  (w.aim accel request).drivenBy kf ki

/-- One wheel's part of a pair. -/
def pairOf (p : Pair) : LR → Int
  | .left => p.1
  | .right => p.2

theorem driven_motion {d e : Drive} {c : Choice} {w : Two WheelState} {m : Motion} {b : Bool}
    (h : d = { e with choice := c, wheels := w, motion := m, suspended := b }) : d.motion = m := by rw [h]

section
variable (t : Capture) (pitch roll : Byte) (s : State)

/-- The driven wheels before the stalls are judged. -/
theorem controlPeriod_drive : (controlPeriod t pitch roll s).drive =
    { (periodSettled t pitch roll s).drive with
      choice := (periodChoice t pitch roll s).1
      wheels := (controlPeriod t pitch roll s).drive.wheels
      motion := motionOf (controlPeriod t pitch roll s).drive.wheels.left.target
        (controlPeriod t pitch roll s).drive.wheels.right.target
      suspended := (controlPeriod t pitch roll s).drive.suspended } := by
  have hstalls := contacted_periodStalls (motionStep (dutyStep (aimWheels (periodChoice t pitch roll s).1
    (periodChoice t pitch roll s).2 (periodSettled t pitch roll s))))
  rw [← controlPeriod_parts] at hstalls
  have hdrive := hstalls.drive
  rw [motionStep_drive] at hdrive
  generalize (controlPeriod t pitch roll s).drive = d at hdrive ⊢
  rw [hdrive]
  rfl

/-- The motion direction published is that of the new targets (R78). -/
theorem controlPeriod_motion : (controlPeriod t pitch roll s).drive.motion =
    motionOf (controlPeriod t pitch roll s).drive.wheels.left.target (controlPeriod t pitch roll s).drive.wheels.right.target :=
  driven_motion (controlPeriod_drive t pitch roll s)

theorem controlPeriod_settings : ((controlPeriod t pitch roll s).plan.applied, (controlPeriod t pitch roll s).plan.appliedGen) =
    ((periodSettled t pitch roll s).plan.applied, (periodSettled t pitch roll s).plan.appliedGen) := by
  rw [controlPeriod_parts]
  exact (contacted_periodStalls _).settings.trans (by simp)

theorem controlPeriod_gov : (controlPeriod t pitch roll s).gov = (periodEnded t s).governed pitch roll := by
  rw [controlPeriod_parts, ← periodJudged_gov]
  have hsettled : (periodSettled t pitch roll s).gov = (periodJudged t pitch roll s).gov :=
    (settled_machine_wheels _ _).2.2
  simpa using hsettled

theorem accel_of_words {a b : State} (h : HostWords a b) : b.accel = a.accel := by
  unfold State.accel
  rw [h addrAccel (by decide) (by decide)]

/-- A wheel after the period: driven by its part of the choice, from the target in force. -/
theorem controlPeriod_wheel (i : LR) : (controlPeriod t pitch roll s).drive.wheels.get i =
    WheelState.driveBy s.accel (controlPeriod t pitch roll s).plan.applied.kf (controlPeriod t pitch roll s).plan.applied.ki
      (pairOf (periodChoice t pitch roll s).2 i) ((periodSettled t pitch roll s).drive.wheels.get i) := by
  have haccel : (periodSettled t pitch roll s).accel = s.accel :=
    (accel_of_words (carried_periodSettled t pitch roll s).words).trans
      (accel_of_words (a := s) fun _ _ _ => by unfold periodTravelled odometryStep; rfl)
  rw [(Prod.mk.inj (controlPeriod_settings t pitch roll s)).1, ← haccel, controlPeriod_parts]
  cases i <;> simp [dutyStep, aimWheels, WheelState.driveBy, pairOf, Two.get, Two.map]

end

end Sys2Proof.Proofs
end

section
/-! SUPPORT. The control period: its event, its wheels, its pose and its governor. -/

namespace Sys2Proof.Proofs

open Sys2Proof.Machine Sys2Proof.Safety

/-- The state in which an event with a capture time begins. -/
abbrev stamped (t : Capture) (s : State) : State := { s with timebase := t, causes := Causes.none }

theorem exec_controlPeriod_due {t : Capture} {pitch roll : Byte} {s : State} (hr : s.resetting = none)
    (hd : due s.partTime s.drive.timer = true) :
    Ran s (controlPeriod t pitch roll (stamped t s))
      (s.event (fun a => controlExpiry t pitch roll (a.atTime t))) :=
  event_ran hr (if_pos hd)

/-- Before its time a control period carries the capture count alone. -/
theorem exec_controlPeriod_early {t : Capture} {pitch roll : Byte} {s : State} (hr : s.resetting = none)
    (hd : due s.partTime s.drive.timer = false) :
    exec (.controlPeriod t pitch roll) s = .next { s with timebase := t } :=
  congrArg Host.Outcome.next ((event_timed (b := { s with timebase := t, causes := Causes.none }) _ hr
    (if_neg (by exact ne_true_of_eq_false hd)) { Unshown.refl s with } rfl).trans rfl)

/-! ### The rate limit (R74) -/

theorem clampSpeed_eq (x : Int) : clampSpeed x = max (-800) (min 800 x) := clampI_eq (by decide) x

theorem rateLimit_eq (accel : Nat) (r old : Int) : rateLimit accel r old =
    if r = 0 then 0
    else if 0 < r * old ∧ r.natAbs ≤ old.natAbs then r
    else if 0 < r * old ∨ old = 0 then r.sign * (min r.natAbs (old.natAbs + accel) : Nat)
    else r.sign * (min r.natAbs accel : Nat) := by
  rcases lt_trichotomy r 0 with hr | rfl | hr
  · have hsign : r.sign = -1 := Int.sign_eq_neg_one_of_neg hr
    have hpos : 0 < r * old ↔ old < 0 := by
      constructor
      · intro h
        by_contra hold
        exact absurd h (not_lt.2 (mul_nonpos_of_nonpos_of_nonneg hr.le (not_lt.1 hold)))
      · exact mul_pos_of_neg_of_neg hr
    simp only [rateLimit, hpos, hsign, maxI]
    split_ifs <;> omega
  · rfl
  · have hsign : r.sign = 1 := Int.sign_eq_one_of_pos hr
    have hpos : 0 < r * old ↔ 0 < old := by
      constructor
      · intro h
        by_contra hold
        exact absurd h (not_lt.2 (mul_nonpos_of_nonneg_of_nonpos hr.le (not_lt.1 hold)))
      · exact mul_pos hr
    simp only [rateLimit, hpos, hsign, minI]
    split_ifs <;> omega

/-- A target put in force from a request (R72, R74). -/
theorem rateLimit_limited (accel : Nat) (request old : Int) :
    rateLimit accel (clampSpeed request) old = limited accel request old := by
  rw [clampSpeed_eq, rateLimit_eq]
  rfl

theorem accel_eq (s : State) : s.accel = max 5 (min 100 (s.word 0x061).toNat) := clampN_eq (by decide) _

/-! ### One wheel of a period (R70, R74, R75) -/

theorem drivenBy_eq_update (kf ki : Nat) (w : WheelState) : w.drivenBy kf ki =
    { w with integrator := (w.drivenBy kf ki).integrator, duty := (w.drivenBy kf ki).duty } := by
  unfold WheelState.drivenBy
  dsimp only
  split <;> rfl

theorem driveBy_eq_update (accel kf ki : Nat) (request : Int) (w : WheelState) : WheelState.driveBy accel kf ki request w =
    { w with
      target := rateLimit accel (clampSpeed request) w.target
      forward := (w.aim accel request).forward
      integrator := (WheelState.driveBy accel kf ki request w).integrator
      duty := (WheelState.driveBy accel kf ki request w).duty } := by
  unfold WheelState.driveBy
  rw [drivenBy_eq_update]
  rfl

/-- Its speed is the one measured before. -/
theorem driveBy_speed (accel kf ki : Nat) (request : Int) (w : WheelState) :
    (WheelState.driveBy accel kf ki request w).measured = w.measured ∧
      (WheelState.driveBy accel kf ki request w).lastPulse = w.lastPulse ∧
      (WheelState.driveBy accel kf ki request w).period = w.period := by
  rw [driveBy_eq_update]
  exact ⟨rfl, rfl, rfl⟩

/-- The duty that follows from the new target and the measured speed (R75). -/
theorem driveBy_duty (accel kf ki : Nat) (request : Int) {w : WheelState} {n : Int} (hn : w.integrator = n) :
    let v := WheelState.driveBy accel kf ki request w
    (v.target = 0 ∧ v.measured = 0 → v.integrator = 0 ∧ v.duty = 0) ∧
    (¬ (v.target = 0 ∧ v.measured = 0) →
      v.integrator = max (-600) (min 600 (n + Int.tdiv ((v.target - v.measured) * ki) 256)) ∧
      v.duty = max (-1000) (min 1000 (Int.tdiv (v.target * kf) 256 + v.integrator))) := by
  have hfields : (WheelState.driveBy accel kf ki request w).target = (w.aim accel request).target ∧
      (WheelState.driveBy accel kf ki request w).measured = (w.aim accel request).measured := by
    rw [driveBy_eq_update]
    exact ⟨rfl, rfl⟩
  have hintegrator : (w.aim accel request).integrator = n := hn
  dsimp only
  rw [hfields.1, hfields.2, WheelState.driveBy, WheelState.drivenBy, hintegrator]
  constructor
  · intro h
    rw [if_pos h]
    exact ⟨rfl, rfl⟩
  · intro h
    rw [if_neg h]
    have hclamp := clampI_eq (show (-600 : Int) ≤ 600 by decide)
      (n + Int.tdiv (((w.aim accel request).target - (w.aim accel request).measured) * ki) 256)
    exact ⟨hclamp, clampI_eq (by decide) _⟩

/-- The measured speed, and the pulse and period kept with it (R70). -/
theorem measure_wheel (mm : Nat) (t : Capture) (w : WheelState) :
    (w.lastPulse = none ∨ w.period = none → (w.measure mm t).measured = 0) ∧
    (∀ lp, w.lastPulse = some lp → 250000 ≤ since t lp →
      (w.measure mm t).measured = 0 ∧ (w.measure mm t).lastPulse = none ∧ (w.measure mm t).period = none) ∧
    ∀ lp p, w.lastPulse = some lp → w.period = some p → since t lp < 250000 →
      (w.measure mm t).measured =
        (if w.forward then 1 else -1) * (min (mm * 1000000 / (256 * max p (since t lp))) 2000 : Nat) ∧
      (w.measure mm t).lastPulse = some lp ∧ (w.measure mm t).period = some p := by
  refine ⟨fun h => ?_, fun lp hlp hs => ?_, fun lp p hlp hp hs => ?_⟩
  · unfold WheelState.measure
    cases hlp : w.lastPulse with
    | none => rfl
    | some lp =>
      simp only [h.resolve_left (by rw [hlp]; nofun)]
      split <;> rfl
  · simp [WheelState.measure, hlp, hs]
  · have hmax : (if p < since t lp then since t lp else p) = max p (since t lp) := by split <;> omega
    simp only [WheelState.measure, hlp, hp, if_neg (Nat.not_le.2 hs), hmax, speedMagnitude, minN_eq]
    refine ⟨?_, trivial, trivial⟩
    split <;> ring

theorem measure_eq_update_wheel (mm : Nat) (t : Capture) (w : WheelState) : w.measure mm t =
    { w with
      lastPulse := (w.measure mm t).lastPulse, period := (w.measure mm t).period, measured := (w.measure mm t).measured } := by
  unfold WheelState.measure
  (repeat' split) <;> rfl

/-! ### The wheels of a period -/

/-- What is counted of a wheel: its speed measured, its pulses taken (R70, R76). -/
def counted (mm : Nat) (t : Capture) (w : WheelState) : WheelState := { w.measure mm t with count := 0 }

theorem periodTravelled_wheel (t : Capture) (s : State) (i : LR) :
    (periodTravelled t s).drive.wheels.get i = counted s.plan.applied.mmPer256 t (s.drive.wheels.get i) := by
  unfold periodTravelled odometryStep measureWheels
  cases i <;> dsimp only <;> split <;> rfl

/-- With the machine out of ARMED a wheel is driven for 0 (R72). -/
theorem periodChoice_unarmed {t : Capture} {pitch roll : Byte} {s : State}
    (h : (periodSettled t pitch roll s).guard.machine ≠ .armed) : periodChoice t pitch roll s = (.zero, (0, 0)) := by
  have hjudged : (periodJudged t pitch roll s).guard.machine ≠ .armed := by
    rwa [← (settled_machine_wheels (periodTravel t s) (periodJudged t pitch roll s)).1]
  exact choose_zero (.inl (by simpa [periodChosen] using hjudged)) _ _

/-- A wheel after a period: from the wheel before it, driven for a request. -/
theorem controlPeriod_wheel_from (t : Capture) (pitch roll : Byte) (s : State) (i : LR) :
    ∃ (target duty request : Int), (controlPeriod t pitch roll s).drive.wheels.get i =
        WheelState.driveBy s.accel (controlPeriod t pitch roll s).plan.applied.kf (controlPeriod t pitch roll s).plan.applied.ki
          request { counted s.plan.applied.mmPer256 t (s.drive.wheels.get i) with target := target, duty := duty } ∧
      (target = (s.drive.wheels.get i).target ∨ request = 0) := by
  obtain ⟨target, duty, heq, htarget⟩ := (carried_periodSettled t pitch roll s).wheel i
  refine ⟨target, duty, pairOf (periodChoice t pitch roll s).2 i, ?_, ?_⟩
  · rw [controlPeriod_wheel, heq, periodTravelled_wheel]
  · rcases htarget with htarget | ⟨-, hm⟩
    · left
      rw [htarget, periodTravelled_wheel, counted, measure_target]
    · right
      rw [periodChoice_unarmed hm]
      cases i <;> rfl

/-- Settles O18: whatever the choice, the target follows from its request by the rate limit. -/
theorem rateLimit : Obligations.RateLimit := by
  unfold Obligations.RateLimit
  intro t pitch roll i s hr hd old accel
  have hran := exec_controlPeriod_due (t := t) (pitch := pitch) (roll := roll) hr hd
  obtain ⟨-, -, -, -, -, hdrive, -⟩ := hran.blocks
  obtain ⟨target, duty, request, hwheel, hfrom⟩ := controlPeriod_wheel_from t pitch roll (stamped t s) i
  obtain ⟨hlow, hhigh⟩ := clampSpeed_bounds request
  refine ⟨_, clampSpeed request, rfl, hlow, hhigh, ?_⟩
  have haccel : (stamped t s).accel = accel := accel_eq s
  rw [hdrive, hwheel, driveBy_eq_update, ← haccel]
  dsimp only
  rcases hfrom with rfl | rfl
  · exact rateLimit_eq _ _ _
  · rfl

/-- Settles O17: the speed is measured before the targets are chosen, the duty follows from both. -/
theorem measuredSpeedAndDuty : Obligations.MeasuredSpeedAndDuty := by
  unfold Obligations.MeasuredSpeedAndDuty
  intro t pitch roll i s hr hd w speed
  have hran := exec_controlPeriod_due (t := t) (pitch := pitch) (roll := roll) hr hd
  obtain ⟨-, -, -, -, hplan, hdrive, -⟩ := hran.blocks
  obtain ⟨target, duty, request, hwheel, -⟩ := controlPeriod_wheel_from t pitch roll (stamped t s) i
  obtain ⟨hsilent, hstale, hrunning⟩ := measure_wheel s.plan.applied.mmPer256 t w
  have hintegrator : (counted s.plan.applied.mmPer256 t w).integrator = w.integrator := by
    rw [counted, measure_eq_update_wheel]
  refine ⟨_, rfl, ?_⟩
  rw [hdrive, hplan]
  generalize (controlPeriod t pitch roll (stamped t s)).plan.applied = b at hwheel ⊢
  rw [hwheel]
  obtain ⟨hrest, hdriven⟩ := driveBy_duty (stamped t s).accel b.kf b.ki request
    (w := { counted s.plan.applied.mmPer256 t w with target := target, duty := duty }) hintegrator
  obtain ⟨hmeasured, hpulse, hperiod⟩ := driveBy_speed (stamped t s).accel b.kf b.ki request
    { counted s.plan.applied.mmPer256 t w with target := target, duty := duty }
  refine ⟨fun h => hmeasured.trans (hsilent h), fun lp hlp hs => ?_, fun lp p hlp hp hs => ?_, hrest, hdriven⟩
  · obtain ⟨hz, hnone, hnone'⟩ := hstale lp hlp hs
    exact ⟨hmeasured.trans hz, hpulse.trans hnone, hperiod.trans hnone'⟩
  · obtain ⟨hv, hsome, hsome'⟩ := hrunning lp p hlp hp hs
    exact ⟨hmeasured.trans hv, hpulse.trans hsome, hperiod.trans hsome'⟩

end Sys2Proof.Proofs
end

section
/-! SUPPORT. The control period: steps 2 to 4 without an end or a trip, the pose and the governor. -/

namespace Sys2Proof.Proofs

open Sys2Proof.Machine Sys2Proof.Safety

/-! ### The travel of a period (R76, R78) -/

theorem periodTravel_eq (t : Capture) (s : State) : periodTravel t s = ⟨meanTravel s, headingTravel s⟩ := by
  have hcount (w : WheelState) : (w.measure s.plan.applied.mmPer256 t).count = w.count := by
    rw [measure_eq_update_wheel]
  simp only [periodTravel, State.travel, measureWheels, Two.map, hcount]
  rfl

theorem clampPose_eq (v : Int) : clampPose v = max (-(2147483647 * 256)) (min (2147483647 * 256) v) := clampI_eq (by decide) v

/-- The pose after the period (R76). -/
theorem periodTravelled_pose (t : Capture) (s : State) : pose (periodTravelled t s).drive =
    (s.drive.timer + 10, risen s.drive.x (Int.tdiv (meanTravel s * cosineEntry (midIndex s.drive.heading (headingTravel s))) 32768),
      risen s.drive.y (Int.tdiv (meanTravel s * sineEntry (midIndex s.drive.heading (headingTravel s))) 32768),
      s.drive.heading + BitVec.ofInt 16 (headingTravel s), s.drive.motion) := by
  unfold periodTravelled odometryStep
  rw [periodTravel_eq]
  dsimp only
  split <;> rfl

theorem satAdd_eq_min (top a b : Nat) : satAdd top a b = min top (a + b) := by
  unfold satAdd
  split <;> omega

theorem choice_isKind (c : Choice) : c.isKind = true ↔ c = .kind ∨ c = .backoff := by
  cases c <;> simp [Choice.isKind]

/-- The accumulators of the active segment after the period (R78). -/
theorem periodTravelled_run {s : State} {seg : Segment} (ha : s.plan.active = some seg) (t : Capture) :
    (periodTravelled t s).drive.runDist = runDistance s ∧ (periodTravelled t s).drive.runTurn = runAngle s ∧
      (periodTravelled t s).drive.runTime = runTimeMs s ∧
      (periodTravelled t s).drive.segDist = travelled s s.drive.segDist ∧
      (periodTravelled t s).drive.suspended = s.drive.suspended := by
  have hprogress : (!s.drive.suspended && s.drive.choice.isKind) = true ↔ Progress s := by
    rw [Bool.and_eq_true, choice_isKind]
    simp
  have hsome : s.plan.active.isSome = true := by rw [ha]; rfl
  unfold periodTravelled odometryStep
  rw [periodTravel_eq]
  dsimp only
  rw [if_pos (by exact hsome)]
  refine ⟨?_, ?_, ?_, satAdd_eq_min _ _ _, rfl⟩
  · unfold runDistance travelled
    rw [← satAdd_eq_min]
    exact if_congr hprogress rfl rfl
  · unfold runAngle
    rw [← clampI_eq (show (-2147483648 : Int) ≤ 2147483647 by decide)]
    exact if_congr hprogress rfl rfl
  · unfold runTimeMs
    rw [← satAdd_eq_min]
    rfl

theorem periodTravelled_eq_update (t : Capture) (s : State) :
    periodTravelled t s = { s with drive := (periodTravelled t s).drive } := by
  unfold periodTravelled odometryStep measureWheels
  rfl

/-! ### Step 2's readers (R148, R164, R175) -/

theorem dockTravel_eq_update (v : Travel) (s : State) : dockTravel v s =
    { s with dock := { s.dock with near := (dockTravel v s).dock.near, back := (dockTravel v s).dock.back } } := by
  unfold dockTravel
  split
  · rfl
  · split <;> rfl
  · rfl

theorem reflexTravel_eq_update (v : Travel) (s : State) : reflexTravel v s =
    { s with contact := { s.contact with record := (reflexTravel v s).contact.record } } := by
  unfold reflexTravel
  split <;> rfl

/-- The Guard counts the distance gone outside (R164). -/
abbrev Strays (s : State) : Prop := s.guard.machine = .armed ∧ s.guard.recovery = false ∧ s.loops.posClass = .outsideAll

theorem strays_iff (s : State) :
    (s.armed && !s.guard.recovery && decide (s.loops.posClass = .outsideAll)) = true ↔ Strays s := by
  simp [State.armed, Strays, and_assoc]

theorem escapeStep_calm {v : Travel} {s : State}
    (h : ¬ (Strays s ∧ s.plan.applied.escapeLimit ≤ min 4294967295 (s.guard.escape + v.mean.natAbs) / 256)) :
    escapeStep v s = { s with guard := { s.guard with
      escape := if Strays s then min 4294967295 (s.guard.escape + v.mean.natAbs) else s.guard.escape } } := by
  rw [← satAdd_eq_min] at h ⊢
  unfold escapeStep
  by_cases hs : Strays s
  · rw [if_pos ((strays_iff s).2 hs), if_pos hs]
    exact if_neg fun hlimit => h ⟨hs, hlimit⟩
  · rw [if_neg (mt (strays_iff s).1 hs), if_neg hs]

/-- Step 2 without a trip: the drive, the dock's and the reflex's distances, and the escape distance. -/
def calmTravelled (t : Capture) (s : State) : State :=
  let x := reflexTravel (periodTravel t s) (dockTravel (periodTravel t s) (periodTravelled t s))
  { x with guard := { x.guard with
    escape := if Strays s then min 4294967295 (s.guard.escape + (meanTravel s).natAbs) else s.guard.escape } }

theorem calmTravelled_eq (t : Capture) (s : State) : calmTravelled t s = { s with
    drive := (periodTravelled t s).drive
    dock := { s.dock with near := (calmTravelled t s).dock.near, back := (calmTravelled t s).dock.back }
    contact := { s.contact with record := (calmTravelled t s).contact.record }
    guard := { s.guard with
      escape := if Strays s then min 4294967295 (s.guard.escape + (meanTravel s).natAbs) else s.guard.escape } } := by
  unfold calmTravelled
  rw [reflexTravel_eq_update, dockTravel_eq_update, periodTravelled_eq_update]

/-- Neither ESCAPED is found in step 2 nor does step 3 end the segment. -/
theorem travelStep_calm {t : Capture} {s : State}
    (h : ¬ (Strays s ∧ s.plan.applied.escapeLimit ≤ min 4294967295 (s.guard.escape + (meanTravel s).natAbs) / 256)) :
    escapeStep (periodTravel t s) (reflexTravel (periodTravel t s) (dockTravel (periodTravel t s) (periodTravelled t s))) =
      calmTravelled t s := by
  have hblocks : (reflexTravel (periodTravel t s) (dockTravel (periodTravel t s) (periodTravelled t s))).guard = s.guard ∧
      (reflexTravel (periodTravel t s) (dockTravel (periodTravel t s) (periodTravelled t s))).loops = s.loops ∧
      (reflexTravel (periodTravel t s) (dockTravel (periodTravel t s) (periodTravelled t s))).plan = s.plan := by
    rw [reflexTravel_eq_update, dockTravel_eq_update, periodTravelled_eq_update]
    exact ⟨rfl, rfl, rfl⟩
  obtain ⟨hguard, hloops, hplan⟩ := hblocks
  have hmean : (periodTravel t s).mean = meanTravel s := by rw [periodTravel_eq]
  unfold calmTravelled
  dsimp only
  generalize reflexTravel (periodTravel t s) (dockTravel (periodTravel t s) (periodTravelled t s)) = x at hguard hloops hplan ⊢
  have hstrays : Strays x ↔ Strays s := by rw [Strays, hguard, hloops]
  rw [escapeStep_calm (by rw [hstrays, hplan, hguard, hmean]; exact h)]
  simp only [hstrays, hguard, hmean]

/-! ### Step 3 (R80, R82, R86, R87) -/

theorem basicReached_iff {x : State} {f : Fields} (s : State) (hdist : x.drive.runDist = runDistance s)
    (hturn : x.drive.runTurn = runAngle s) (htime : x.drive.runTime = runTimeMs s) :
    x.basicReached f = true ↔ Reached s f := by
  have hgoal : f.angleMagnitude = turnGoal f := minN_eq _ _
  have hmm : f.distanceMm = f.distance.toInt.toNat := rfl
  unfold State.basicReached Reached
  cases hk : f.kind? with
  | none =>
    have hne (k : Kind) : f.kind ≠ kindWord k := fun h => absurd (hk.symm.trans (kind?_iff.2 h)) nofun
    have h1 := hne .roll
    have h2 := hne .turn
    have h3 := hne .pause
    refine ⟨nofun, ?_⟩
    rintro (⟨h, -⟩ | ⟨h, -⟩ | ⟨h, -⟩)
    · exact absurd h h1
    · exact absurd h h2
    · exact absurd h h3
  | some k =>
    have hword := kind?_iff.1 hk
    cases k
    case roll =>
      simp only [kindWord] at hword
      simp [hword, hdist, hmm, mmOf]
    case turn =>
      simp only [kindWord] at hword
      simp [hword, hturn, hgoal]
    case pause =>
      simp only [kindWord] at hword
      simp [hword, htime, hmm]
    all_goals
      simp only [kindWord] at hword
      simp [hword]

theorem timeUp_iff (s : State) (seg : Segment) : s.timeUp seg = true ↔ TimeUp s seg := by
  simp [State.timeUp, TimeUp]

theorem isBasic_iff {f : Fields} {k : Kind} (hk : f.kind? = some k) :
    k.isBasic = true ↔ f.kind = 1 ∨ f.kind = 2 ∨ f.kind = 3 := by
  have hword := kind?_iff.1 hk
  rw [hword]
  cases k <;> simp [Kind.isBasic, kindWord]

theorem basic_kind? {f : Fields} (h : f.kind = 1 ∨ f.kind = 2 ∨ f.kind = 3) : ∃ k, f.kind? = some k ∧ k.isBasic = true := by
  rcases h with h | h | h
  · exact ⟨.roll, kind?_iff.2 h, rfl⟩
  · exact ⟨.turn, kind?_iff.2 h, rfl⟩
  · exact ⟨.pause, kind?_iff.2 h, rfl⟩

section
variable {s x : State} {seg : Segment} (hpart : x.partTime = s.partTime) (hdist : x.drive.runDist = runDistance s)
  (hturn : x.drive.runTurn = runAngle s) (htime : x.drive.runTime = runTimeMs s)
  (hsuspended : x.drive.suspended = s.drive.suspended)
include hpart hdist hturn htime hsuspended

theorem basicEnd_none (h : ¬ BasicEnds s seg) : x.basicEnd seg = none := by
  unfold State.basicEnd
  split
  case h_1 => rfl
  case h_2 k hk =>
    by_cases hbasic : k.isBasic = true
    · have hkind := (isBasic_iff hk).1 hbasic
      have htimeUp : ¬ x.timeUp seg = true := fun hup =>
        h ⟨hkind, .inl ((timeUp_iff s seg).1 (by unfold State.timeUp at hup ⊢; rwa [hpart] at hup))⟩
      have hreached : ¬ (!x.drive.suspended && x.basicReached seg.fields) = true := fun hr => by
        rw [Bool.and_eq_true, basicReached_iff s hdist hturn htime, hsuspended, Bool.not_eq_true'] at hr
        exact h ⟨hkind, .inr hr⟩
      rw [if_neg (by simp [hbasic]), if_neg htimeUp, if_neg hreached]
    · rw [if_pos (by simpa using hbasic)]

theorem basicEnd_some (h : BasicEnds s seg) :
    x.basicEnd seg = some (if TimeUp s seg then .timeout else .reached) := by
  obtain ⟨hkind, hends⟩ := h
  obtain ⟨k, hk, hbasic⟩ := basic_kind? hkind
  have htimeUp : x.timeUp seg = true ↔ TimeUp s seg := by
    rw [← timeUp_iff, State.timeUp, State.timeUp, hpart]
  have hreached : (!x.drive.suspended && x.basicReached seg.fields) = true ↔
      s.drive.suspended = false ∧ Reached s seg.fields := by
    rw [Bool.and_eq_true, basicReached_iff s hdist hturn htime, hsuspended, Bool.not_eq_true']
  unfold State.basicEnd
  rw [hk]
  simp only [hbasic, Bool.not_true, Bool.false_eq_true, if_false, htimeUp]
  split
  · rfl
  · rw [if_pos (hreached.2 (hends.resolve_left ‹_›))]

end

/-- Steps 1 to 3 find neither an escape nor an end. -/
theorem periodEnded_calm {t : Capture} {s : State}
    (h : ¬ (Strays s ∧ s.plan.applied.escapeLimit ≤ min 4294967295 (s.guard.escape + (meanTravel s).natAbs) / 256))
    (hends : ∀ seg, s.plan.active = some seg → ¬ BasicEnds s seg) : periodEnded t s = calmTravelled t s := by
  rw [periodEnded_eq, travelStep_calm h]
  have hplan : (calmTravelled t s).plan = s.plan := by rw [calmTravelled_eq]
  have hpart : (calmTravelled t s).partTime = s.partTime := by rw [calmTravelled_eq]
  have hdrive : (calmTravelled t s).drive = (periodTravelled t s).drive := by rw [calmTravelled_eq]
  unfold stepEnds
  rw [hplan]
  cases ha : s.plan.active with
  | none => rfl
  | some seg =>
    obtain ⟨hdist, hturn, htime, -, hsuspended⟩ := periodTravelled_run ha t
    rw [← hdrive] at hdist hturn htime hsuspended
    simp only [basicEnd_none hpart hdist hturn htime hsuspended (hends seg ha)]

/-! ### Step 4: the governor (R106..R114) -/

theorem slopeOf_eq (p r : Int) : slopeOf p r = max p.natAbs r.natAbs := by
  unfold slopeOf
  split <;> omega

theorem contributors_congr {s x : State} (hmax : x.word addrGlobalMax = s.word addrGlobalMax)
    (hplan : x.plan = s.plan) (hblade : x.blade = s.blade) (hmotion : x.drive.motion = s.drive.motion)
    (hsonar : x.contact.sonar = s.contact.sonar) (htrack : x.track = s.track) (hrun : x.dock.run = s.dock.run)
    (hloops : x.loops = s.loops) (slope : Nat) : x.contributors slope = s.contributors slope := by
  simp only [State.contributors, State.globalMax, hmax, hplan, hblade, hmotion, hsonar, htrack, hrun, hloops]

/-- What the governor reads stands over steps 1 to 3 without an end or a trip. -/
theorem contributors_calm (t : Capture) (s : State) (slope : Nat) :
    (calmTravelled t s).contributors slope = s.contributors slope := by
  have hmotion : (periodTravelled t s).drive.motion = s.drive.motion := by
    have hpose := periodTravelled_pose t s
    simp only [pose, Prod.mk.injEq] at hpose
    exact hpose.2.2.2.2
  have h := calmTravelled_eq t s
  refine contributors_congr ?_ ?_ ?_ ?_ ?_ ?_ ?_ ?_ slope
  case refine_4 => exact (congrArg (fun x : State => x.drive.motion) h).trans hmotion
  all_goals rw [h]
  rfl

theorem sonarSpeed_eq (r : Nat) : sonarSpeed r = 120 + (max r 300 - 300) * 680 / 700 := by
  have hmax : (if r < 300 then 300 else r) = max r 300 := by split <;> omega
  rw [sonarSpeed, hmax]

/-- The seven contributors of a state at a slope, value by value (R108..R114). -/
theorem contributors_eq (s : State) (sl : Nat) : s.contributors sl =
    { global := some (max 100 (min 800 (s.word 0x060).toNat))
      slope := if sl ≤ s.plan.applied.slopeSoft then none
               else if s.plan.applied.slopeHard ≤ sl then some s.plan.applied.slopeFloor
               else some (800 - (sl - s.plan.applied.slopeSoft) * (800 - s.plan.applied.slopeFloor) /
                 (s.plan.applied.slopeHard - s.plan.applied.slopeSoft))
      blade := if s.blade.state = .cutting ∧ s.plan.applied.loadSoft < s.blade.load then
                 some (800 - (s.blade.load - s.plan.applied.loadSoft) * 560 / (100 - s.plan.applied.loadSoft)) else none
      sonar := if s.drive.motion = .forward then
                 (match s.contact.sonar.left.range, s.contact.sonar.right.range with
                  | none, none => none
                  | some l, none => if l < 1000 then some (120 + (max l 300 - 300) * 680 / 700) else none
                  | none, some r => if r < 1000 then some (120 + (max r 300 - 300) * 680 / 700) else none
                  | some l, some r =>
                    if min l r < 1000 then some (120 + (max (min l r) 300 - 300) * 680 / 700) else none) else none
      wire := if 0 < s.track.published then some 200 else none
      jam := if s.blade.state = .jammed then some 0 else none
      dock := match s.dock.run with
              | .dock _ => if s.loops.stationNear then some s.plan.applied.dockSpeed else none
              | .undock _ => none
              | .none => none } := by
  have hmax : s.globalMax = max 100 (min 800 (s.word 0x060).toNat) := clampN_eq (by decide) _
  have hblade : bladeValue s.blade.state s.blade.load s.plan.applied.loadSoft =
      if s.blade.state = .cutting ∧ s.plan.applied.loadSoft < s.blade.load then
        some (800 - (s.blade.load - s.plan.applied.loadSoft) * 560 / (100 - s.plan.applied.loadSoft)) else none :=
    if_congr (by simp) rfl rfl
  simp only [State.contributors, hmax, hblade, slopeValue, sonarValue, wireValue, jamValue, dockValue, DockRun.isDock]
  congr 1
  · cases s.contact.sonar.left.range <;> cases s.contact.sonar.right.range <;>
      simp only [nearestRange, sonarSpeed_eq, minN_eq]
  · cases s.dock.run <;> simp

/-- Settles O16: the period's parts one by one. -/
theorem controlPeriodAdvances : Obligations.ControlPeriodAdvances := by
  unfold Obligations.ControlPeriodAdvances
  intro t pitch roll s hr
  refine ⟨exec_controlPeriod_early hr, fun hd => ?_⟩
  intro dl dr turn m k top rise p q
  have hran := exec_controlPeriod_due (t := t) (pitch := pitch) (roll := roll) hr hd
  obtain ⟨htime, hpart, hrecv, -, -, hdrive, -, hgov, -, -, -, -, -, hpins⟩ := hran.blocks
  have hpose := (carried_periodSettled t pitch roll (stamped t s)).drive.trans (periodTravelled_pose t (stamped t s))
  simp only [pose, Prod.mk.injEq] at hpose
  obtain ⟨htimer, hx, hy, hheading, -⟩ := hpose
  have hperiod := controlPeriod_drive t pitch roll (stamped t s)
  have hboth (w : Two WheelState) (h : ∀ i, (w.get i).count = 0) : w.left.count = 0 ∧ w.right.count = 0 :=
    ⟨h .left, h .right⟩
  have hcount (i : LR) : ((controlPeriod t pitch roll (stamped t s)).drive.wheels.get i).count = 0 := by
    obtain ⟨target, duty, request, hwheel, -⟩ := controlPeriod_wheel_from t pitch roll (stamped t s) i
    rw [hwheel, driveBy_eq_update]
    rfl
  obtain ⟨hleft, hright⟩ := hboth (controlPeriod t pitch roll (stamped t s)).drive.wheels hcount
  have hrisen (v step : Int) : Machine.risen v step = rise v step := by
    unfold Machine.risen
    rw [clampPose_eq]
  have hslope : slopeOf p q = max p.natAbs q.natAbs := slopeOf_eq p q
  have hgoverned : (s.event (fun a => controlExpiry t pitch roll (a.atTime t))).gov = (periodEnded t (stamped t s)).governed pitch roll :=
    hgov.trans (controlPeriod_gov t pitch roll (stamped t s))
  refine ⟨_, rfl, htime.trans (by simp), hpart.trans (by simp), ?timer, hrecv.trans (by simp), hpins.trans (by simp), ?x, ?y,
    ?heading, ?left, ?right, ?pitch, ?roll, ?slope, capLaw_governed hgoverned, fun hends hcalm => ?table, ?motion⟩
  case timer => rw [hdrive, hperiod]; exact htimer
  case x => rw [hdrive, hperiod]; exact hx.trans (hrisen _ _)
  case y => rw [hdrive, hperiod]; exact hy.trans (hrisen _ _)
  case heading => rw [hdrive, hperiod]; exact hheading
  case left => rw [hdrive]; exact hleft
  case right => rw [hdrive]; exact hright
  case pitch => rw [hgoverned]; rfl
  case roll => rw [hgoverned]; rfl
  case slope => rw [hgoverned]; exact hslope
  case motion => rw [hdrive]; exact controlPeriod_motion t pitch roll (stamped t s)
  case table =>
    intro applied slope nearing
    have hstays : ¬ (Strays (stamped t s) ∧ (stamped t s).plan.applied.escapeLimit ≤
        min 4294967295 ((stamped t s).guard.escape + (meanTravel (stamped t s)).natAbs) / 256) := by
      rintro ⟨⟨harmed, hrecovery, hclass⟩, hlimit⟩
      rcases hcalm with h | h | h | h
      · exact h harmed
      · exact absurd (h.symm.trans hrecovery) nofun
      · exact h hclass
      · exact absurd hlimit (Nat.not_le.2 h)
    have htable : (s.event (fun a => controlExpiry t pitch roll (a.atTime t))).gov.table = s.contributors slope := by
      rw [hgoverned, periodEnded_calm hstays hends]
      refine (contributors_calm t (stamped t s) (slopeOf p q)).trans ?_
      rw [hslope]
      rfl
    rw [htable]
    exact contributors_eq s slope

end Sys2Proof.Proofs
end

section
/-! SUPPORT. A trip, and the control and blade periods that find one. -/

namespace Sys2Proof.Proofs

open Sys2Proof.Machine Sys2Proof.Safety

/-! ### A trip (R156, R166, R167) -/

/-- A source other than PLAN and DOCK hears nothing of a segment's end. -/
theorem post_get_other {r : Report} {a : Source} (h : a ≠ r.source) (s : State) : (post r s).notice.get a = s.notice.get a := by
  unfold post
  split
  · rfl
  · calc (setSource r.source _ s).notice.get a = (s.notice.set r.source _).get a := by cases a <;> rfl
      _ = s.notice.get a := Notices.get_set_other _ _ h

theorem abortPlan_notice_trip (s : State) {cause : EndCause} (hc : ∀ o, cause.continuation o = .toIdle) :
    (abortPlan cause s).notice.trip = s.notice.trip := by
  have hidle (t : State) : (becomeIdle t).notice = t.notice := by simp [becomeIdle, handStanding]
  have hend (seg : Segment) (t : State) : (postEnd seg cause t).notice.get .trip = t.notice.get .trip := by
    unfold postEnd
    split
    · rfl
    · split <;> exact post_get_other (show Source.trip ≠ .plan by decide) t
  have hclose (seg : Segment) (t : State) : (closeSegment seg cause t).notice.get .trip = t.notice.get .trip := by
    have hdock (x : State) : (endDock cause x).notice = x.notice := by
      unfold endDock
      split <;> rfl
    unfold closeSegment reportDocked
    split
    · exact (post_get_other (show Source.trip ≠ .dock by decide) _).trans (congrArg (Notices.get · .trip) (hdock _))
    · exact congrArg (Notices.get · .trip) (hdock _)
  cases ha : s.plan.active with
  | none =>
    have heq : abortPlan cause s = becomeIdle s := by simp [abortPlan, ha]
    rw [heq, hidle]
  | some seg =>
    rw [abortPlan_active ha hc, hidle]
    exact (hend seg _).trans (hclose seg s)

theorem leaveArmed_notice_trip (s : State) {cause : EndCause} (hc : ∀ o, cause.continuation o = .toIdle) (dest : MachineState) :
    (leaveArmed cause dest s).notice.trip = s.notice.trip := by
  have hplan : (leaveArmed cause dest s).notice = (abortPlan cause (setMachine dest s)).notice := by simp [leaveArmed]
  rw [hplan, abortPlan_notice_trip _ hc]
  simp

/-- The record's first word is its first cause. -/
theorem tripCells_first (m : Memory) {r : TripRecord} {c : TripCause} (h : r.first = some c) :
    (m.writeAll (tripCells r)).read 0x280 = c.code := by
  have hcells : tripCells r = [] ++ (0x280, tripCauseWord r.first) :: (tripCells r).drop 1 := rfl
  rw [hcells, h]
  refine read_writeAll_last m _ (by cases c <;> decide) fun x hx => ?_
  have hdrop : (tripCells r).drop 1 = cellsFrom 0x281 _ := rfl
  have hbounds := cellsFrom_bounds (hdrop ▸ hx)
  omega

theorem leaveArmed_pingTimer {cause : EndCause} {dest : MachineState} (s : State) :
    (leaveArmed cause dest s).contact.pingTimer = none := by
  unfold leaveArmed clearArmed pingOff
  rfl

theorem post_guard (r : Report) (s : State) : (post r s).guard = s.guard := by simp

/-- What a trip leaves, in the terms of the state it finds. -/
structure Tripped (c : TripCause) (s u : State) : Prop where
  guard : u.guard =
    { s.guard with machine := .tripped, recovery := false, escape := 0, silence := none, trip := s.tripRecord c }
  plan : u.plan.state = .idle ∧ u.plan.active = none ∧ u.plan.standing = .off
  targets : ∀ i, (u.drive.wheels.get i).target = 0
  suspended : u.drive.suspended = false
  pose : u.drive.x = s.drive.x ∧ u.drive.y = s.drive.y ∧ u.drive.heading = s.drive.heading
  blade : u.blade = (setMachine .tripped s).blade
  contact : u.contact.stage = .quiet ∧ u.contact.pinging = false ∧ u.contact.pingTimer = none
  notice : u.notice.trip = postedTo s .trip c.code [wordN s.blade.rpm]
  words : u.word 0x002 = 3 ∧ u.word 0x280 = c.code

/-- Writing the record moves no block but the memory. -/
theorem writeTripRecord_blocks (x : State) (g : Guard) :
    (writeTripRecord { x with guard := g }).plan = x.plan ∧ (writeTripRecord { x with guard := g }).blade = x.blade ∧
      (writeTripRecord { x with guard := g }).contact = x.contact ∧
      (writeTripRecord { x with guard := g }).notice = x.notice := ⟨rfl, rfl, rfl, rfl⟩

theorem tripping_blocks (c : TripCause) (s : State) :
    (writeTripRecord (tripping c s)).plan = (leaveArmed .guard .tripped s).plan ∧
      (writeTripRecord (tripping c s)).blade = (leaveArmed .guard .tripped s).blade ∧
      (writeTripRecord (tripping c s)).contact = (leaveArmed .guard .tripped s).contact ∧
      (writeTripRecord (tripping c s)).notice = (leaveArmed .guard .tripped s).notice := by
  unfold tripping
  exact writeTripRecord_blocks _ _

theorem writeTripRecord_mem (s : State) : (writeTripRecord s).mem = s.mem.writeAll (tripCells s.guard.trip) := rfl

theorem writeTripRecord_word (s : State) {a : Nat} (ha : a < 0x280 ∨ 0x2A0 ≤ a) : (writeTripRecord s).word a = s.word a :=
  Memory.read_writeAll_outside _ (tripCells_outside _ ha)

theorem tripping_words (c : TripCause) (s : State) {a : Nat} (ha : a < 0x010 ∨ 0x2A0 ≤ a) :
    (trip c s).word a = (leaveArmed .guard .tripped s).word a := by
  have hword : (tripping c s).word a = (leaveArmed .guard .tripped s).word a := by
    unfold tripping
    rfl
  rw [trip_eq, post_word _ _ (by omega), writeTripRecord_word _ (by omega), hword]

theorem trip_tripped (c : TripCause) (s : State) : Tripped c s (trip c s) := by
  have hplan := leaveArmed_plan (cause := .guard) (dest := .tripped) (fun _ => rfl) s
  obtain ⟨htargets, hsuspended⟩ := leaveArmed_drive .guard .tripped s
  obtain ⟨hpose, -, -⟩ := leaveArmed_pose .guard .tripped s
  obtain ⟨hstage, hpinging, -⟩ := leaveArmed_contact .guard .tripped s
  simp only [pose, Prod.mk.injEq] at hpose
  obtain ⟨-, hx, hy, hheading, -⟩ := hpose
  have hblocks (r : Report) (t : State) : (post r t).plan = t.plan ∧ (post r t).blade = t.blade ∧
      (post r t).contact = t.contact := ⟨by simp, by simp, by simp⟩
  obtain ⟨hplan', hblade', hcontact'⟩ := hblocks (.trip c s.blade.rpm) (writeTripRecord (tripping c s))
  obtain ⟨hplanOf, hbladeOf, hcontactOf, hnoticeOf⟩ := tripping_blocks c s
  refine ⟨trip_guard c s, ?_, ?_, ?_, ?_, ?_, ?_, ?_, ?_, ?_⟩
  · rw [trip_eq, hplan', hplanOf]
    exact hplan
  · rw [trip_drive]
    exact htargets
  · rw [trip_drive]
    exact hsuspended
  · rw [trip_drive]
    exact ⟨hx, hy, hheading⟩
  · rw [trip_eq, hblade', hbladeOf]
    exact leaveArmed_blade (fun _ => rfl) s (by decide)
  · rw [trip_eq, hcontact', hcontactOf]
    exact ⟨hstage, hpinging, leaveArmed_pingTimer s⟩
  · have hnotice : (writeTripRecord (tripping c s)).notice.trip = s.notice.trip := by
      rw [hnoticeOf, leaveArmed_notice_trip s (fun _ => rfl) .tripped]
    have henable : (writeTripRecord (tripping c s)).word 0x062 = s.word 0x062 := by
      rw [← hostWords_trip c s 0x062 (by decide) (by decide), trip_eq, post_word _ _ (.inr (by decide))]
    have hopen : (writeTripRecord (tripping c s)).noticesHeld = false := noticesHeld_unstarted (by
      have hguard : (post (.trip c s.blade.rpm) (writeTripRecord (tripping c s))).guard = _ := trip_guard c s
      rw [post_guard] at hguard
      rw [hguard]
      nofun)
    have hposts := posts_get (post_posts (.trip c s.blade.rpm) hopen rfl rfl)
    refine hposts.trans ?_
    simp only [postedTo, henable, Notices.get, hnotice]
    rfl
  · exact (tripping_words c s (.inl (by decide))).trans
      (leaveArmed_machineWord (fun _ => rfl) s (by decide))
  · rw [trip_eq, post_word _ _ (.inr (by decide)), State.word_eq, writeTripRecord_mem]
    have hfirst : (tripping c s).guard.trip.first = some c := by
      unfold tripping
      rfl
    exact tripCells_first (tripping c s).mem hfirst

/-- A blade that met its law is not driven after a trip, and brakes if it was (R121, R130). -/
theorem tripped_blade {s : State} (h : 0 < s.blade.duty → Driven s.blade.state) :
    (setMachine .tripped s).blade.duty = 0 ∧ ¬ Driven (setMachine .tripped s).blade.state ∧
      (Driven s.blade.state → (setMachine .tripped s).blade.state = .braking) ∧
      (setMachine .tripped s).blade.rpm = s.blade.rpm := by
  have hundriven : Undriven (setMachine .tripped s).blade := setMachine_undriven (by decide)
  have hread := (judgeBlade_readings
    { s with guard := { s.guard with machine := .tripped }, mem := s.mem.write addrMachineState MachineState.tripped.code }).2
  refine ⟨?_, hundriven.2, fun hd => (setMachine_braking (by decide) hd).1, hread⟩
  by_cases hd : Driven s.blade.state
  · exact (setMachine_braking (by decide) hd).2.1
  · rw [setMachine_blade_of_not_driven (by decide) hd]
    exact Nat.eq_zero_of_not_pos fun hpos => hd (h hpos)

/-! ### A trip in an event of its own (R162, R163, R165, R166) -/

/-- What an event that is a trip leaves, in the terms of the state before it. -/
def TripsAtOnce (cause : TripCause) (s u : State) : Prop :=
  u.timebase = s.timebase ∧ u.partTime = s.partTime ∧ u.recv = s.recv ∧ u.loops = s.loops ∧ u.gov = s.gov ∧
    u.guard.machine = .tripped ∧ u.plan.state = .idle ∧ u.plan.active = none ∧ u.plan.standing = .off ∧
    (∀ i, (u.drive.wheels.get i).target = 0) ∧ u.drive.x = s.drive.x ∧ u.drive.y = s.drive.y ∧
    u.drive.heading = s.drive.heading ∧ u.drive.suspended = false ∧
    u.blade.duty = 0 ∧ ¬ Driven u.blade.state ∧ (Driven s.blade.state → u.blade.state = .braking) ∧
    u.contact.stage = .quiet ∧ u.contact.pinging = false ∧ u.contact.pingTimer = none ∧
    u.guard.recovery = false ∧ u.guard.escape = 0 ∧ u.guard.silence = none ∧
    u.guard.trip = ⟨some cause, 0, s.partTime, Int.tdiv s.drive.x 256, Int.tdiv s.drive.y 256, s.drive.heading,
      s.blade.rpm, false, false, none⟩ ∧
    u.notice.trip = postedTo s .trip cause.code [wordN s.blade.rpm] ∧
    u.word 0x002 = 3 ∧ u.word 0x280 = cause.code ∧
    ∀ seg, s.plan.active = some seg →
      u.slotState seg.slot = slotCut ∧ u.word (slotBase seg.slot + 20) = 16 ∧ u.track.running = none

/-- The active segment's slot after a trip, and Track Steering's run (R52, R93). -/
theorem trip_slot {c : TripCause} {s : State} {seg : Segment} (ha : s.plan.active = some seg) :
    (trip c s).slotState seg.slot = slotCut ∧ (trip c s).word (slotBase seg.slot + 20) = 16 ∧
      (trip c s).track.running = none := by
  have hslot := slotBase_ge seg.slot
  obtain ⟨hstate, hcause⟩ := leaveArmed_slot (cause := .guard) (dest := .tripped) (fun _ => rfl) ha (by decide)
  have hplan : (setMachine .tripped s).plan.active = some seg := by rw [setMachine_plan (by decide), ha]
  obtain ⟨hrunning, -⟩ := abortPlan_over (cause := .guard) hplan (fun _ => rfl)
  have htrack : (trip c s).track = (abortPlan .guard (setMachine .tripped s)).track := by
    simp [trip_eq, tripping, leaveArmed]
  refine ⟨(tripping_words c s (.inr (by omega))).trans hstate, (tripping_words c s (.inr (by omega))).trans hcause, ?_⟩
  rw [htrack, hrunning]

theorem ran_trips {c : TripCause} {s s' u : State} {p : Pins} {g : Guard}
    (h : Ran s' (trip c { s with pins := p, guard := g, causes := Causes.none }) u)
    (hlaw : BladeLaw s) : TripsAtOnce c s u := by
  obtain ⟨hguard, ⟨hstate, hactive, hstanding⟩, htargets, hsuspended, ⟨hx, hy, hheading⟩, hblade, ⟨hstage, hpinging, hping⟩,
    hnotice, hmachine, hcause⟩ := trip_tripped c { s with pins := p, guard := g, causes := Causes.none }
  obtain ⟨hduty, hdriven, hbrakes, -⟩ :=
    tripped_blade (s := { s with pins := p, guard := g, causes := Causes.none }) hlaw.1
  obtain ⟨utime, upart, urecv, uloops, uplan, udrive, utrack, ugov, ublade, ucontact, uguard, -, unotice, -⟩ := h.blocks
  have hwords {a : Nat} (ha : a < 0x100 ∨ 0x280 ≤ a) := h.word a (by omega) (by omega) (by omega)
  unfold TripsAtOnce
  rw [utime, upart, urecv, uloops, uplan, udrive, utrack, ugov, ublade, ucontact, uguard, unotice, hguard, hblade,
    hwords (.inl (by decide)), hwords (.inr (by decide))]
  refine ⟨by simp, by simp, by simp, by simp, by simp, rfl, hstate, hactive, hstanding, htargets, hx, hy, hheading, hsuspended,
    hduty, hdriven, hbrakes, hstage, hpinging, hping, rfl, rfl, rfl, rfl, hnotice, hmachine, hcause, fun seg ha => ?_⟩
  obtain ⟨hslot, hend, hrunning⟩ := trip_slot (c := c) (s := { s with pins := p, guard := g, causes := Causes.none }) ha
  have hge := slotBase_ge seg.slot
  exact ⟨(hwords (.inr (by omega))).trans hslot, (hwords (.inr (by omega))).trans hend, hrunning⟩

theorem find_armed {c : TripCause} {s : State} (hm : s.guard.machine = .armed) : find c s = trip c s := by
  unfold find
  rw [hm]

/-! ### A trip in the course of a period (R132, R162, R164) -/

/-- What a period that trips the machine leaves. -/
def Found (cause : TripCause) (s u : State) : Prop :=
  u.partTime = s.partTime ∧ u.recv = s.recv ∧ u.loops = s.loops ∧
    u.guard.machine = .tripped ∧ u.plan.state = .idle ∧ u.plan.active = none ∧ u.plan.standing = .off ∧
    AtRest u ∧ u.drive.suspended = false ∧ u.blade.duty = 0 ∧ ¬ Driven u.blade.state ∧
    (Driven s.blade.state → u.blade.state = .braking) ∧ u.contact.stage = .quiet ∧ u.contact.pinging = false ∧
    u.contact.pingTimer = none ∧ u.guard.recovery = false ∧ u.guard.escape = 0 ∧ u.guard.silence = none ∧
    u.guard.trip.first = some cause ∧ u.guard.trip.time = s.partTime ∧
    u.guard.trip.x = Int.tdiv u.drive.x 256 ∧ u.guard.trip.y = Int.tdiv u.drive.y 256 ∧
    u.guard.trip.heading = u.drive.heading ∧ u.guard.trip.rpm = u.blade.rpm ∧ u.guard.trip.cleared = false ∧
    u.notice.trip = postedTo s .trip cause.code [wordN u.blade.rpm] ∧ u.word 0x002 = 3 ∧ u.word 0x280 = cause.code

/-- A trip out of a state that has the blade's state and duty, the loops and the TRIP source of the period's beginning. -/
theorem found_trip {c : TripCause} {s b : State} (hpart : b.partTime = s.partTime) (hrecv : b.recv = s.recv)
    (hloops : b.loops = s.loops) (hblade : (b.blade.state, b.blade.duty) = (s.blade.state, s.blade.duty))
    (hnotice : b.notice = s.notice) (henable : b.word 0x062 = s.word 0x062) (hlaw : BladeLaw s) : Found c s (trip c b) := by
  obtain ⟨hguard, ⟨hstate, hactive, hstanding⟩, htargets, hsuspended, ⟨hx, hy, hheading⟩, hbladeOf,
    ⟨hstage, hpinging, hping⟩, hposted, hmachine, hcause⟩ := trip_tripped c b
  obtain ⟨hbstate, hbduty⟩ := Prod.mk.inj hblade
  obtain ⟨hduty, hdriven, hbrakes, hrpm⟩ := tripped_blade (s := b) (by rw [hbstate, hbduty]; exact hlaw.1)
  have hposted' : postedTo b .trip c.code [wordN b.blade.rpm] = postedTo s .trip c.code [wordN b.blade.rpm] := by
    rw [postedTo, postedTo, hnotice, henable]
  unfold Found
  rw [hguard, hbladeOf, hrpm, hx, hy, hheading, ← hpart, ← hrecv, ← hloops, ← hbstate, ← hposted']
  exact ⟨by simp, by simp, by simp, rfl, hstate, hactive, hstanding, ⟨htargets .left, htargets .right⟩, hsuspended, hduty,
    hdriven, hbrakes, hstage, hpinging, hping, rfl, rfl, rfl, rfl, rfl, rfl, rfl, rfl, rfl, rfl, hposted, hmachine, hcause⟩

/-- What of the Guard the trip's account reads. -/
def tripAccount (g : Guard) := (g.machine, g.recovery, g.escape, g.silence, g.trip.first, g.trip.time, g.trip.x, g.trip.y,
  g.trip.heading, g.trip.rpm, g.trip.cleared)

/-- Steps after the trip that leave what its account reads. -/
structure AfterTrip (x u : State) : Prop where
  part : u.partTime = x.partTime
  recv : u.recv = x.recv
  loops : u.loops = x.loops
  plan : u.plan = x.plan
  guard : tripAccount u.guard = tripAccount x.guard
  drive : (u.drive.x, u.drive.y, u.drive.heading, u.drive.suspended) =
    (x.drive.x, x.drive.y, x.drive.heading, x.drive.suspended)
  rest : AtRest x → AtRest u
  blade : (u.blade.state, u.blade.duty, u.blade.rpm) = (x.blade.state, x.blade.duty, x.blade.rpm)
  contact : (u.contact.stage, u.contact.pinging, u.contact.pingTimer) =
    (x.contact.stage, x.contact.pinging, x.contact.pingTimer)
  notice : u.notice = x.notice
  words : u.word 0x002 = x.word 0x002 ∧ u.word 0x280 = x.word 0x280

theorem AfterTrip.refl (x : State) : AfterTrip x x := ⟨rfl, rfl, rfl, rfl, rfl, rfl, id, rfl, rfl, rfl, rfl, rfl⟩

theorem Found.after {c : TripCause} {s x u : State} (k : AfterTrip x u) (h : Found c s x) : Found c s u := by
  obtain ⟨hpart, hrecv, hloops, hplan, hguard, hdrive, hrest, hblade, hcontact, hnotice, hmachine, hcause⟩ := k
  simp only [tripAccount, Prod.mk.injEq] at hguard hdrive hblade hcontact
  obtain ⟨gmachine, grecovery, gescape, gsilence, gfirst, gtime, gx, gy, gheading, grpm, gcleared⟩ := hguard
  obtain ⟨dx, dy, dheading, dsuspended⟩ := hdrive
  obtain ⟨bstate, bduty, brpm⟩ := hblade
  obtain ⟨cstage, cpinging, cping⟩ := hcontact
  obtain ⟨h1, h2, h3, h4, h5, h6, h7, hatRest, h⟩ := h
  unfold Found
  rw [hpart, hrecv, hloops, hplan, gmachine, grecovery, gescape, gsilence, gfirst, gtime, gx, gy, gheading, grpm, gcleared,
    dx, dy, dheading, dsuspended, bstate, bduty, brpm, cstage, cpinging, cping, hnotice, hmachine, hcause]
  exact ⟨h1, h2, h3, h4, h5, h6, h7, hrest hatRest, h⟩

theorem Ran.afterTrip {s b u : State} (h : Ran s b u) : AfterTrip b u := by
  obtain ⟨-, upart, urecv, uloops, uplan, udrive, -, -, ublade, ucontact, uguard, -, unotice, -⟩ := h.blocks
  refine ⟨upart, urecv, uloops, uplan, by rw [uguard], by rw [udrive], fun hr => ?_, by rw [ublade], by rw [ucontact],
    unotice, h.word _ (by decide) (by decide) (by decide), h.word _ (by decide) (by decide) (by decide)⟩
  rw [AtRest, udrive]
  exact hr

end Sys2Proof.Proofs
end

section
/-! SUPPORT. The periods that find a trip (R132, R162, R164), and the Guard after a period without one. -/

namespace Sys2Proof.Proofs

open Sys2Proof.Machine Sys2Proof.Safety

/-! ### The blade period that finds BLADE_RUNAWAY (R132) -/

theorem judgeBlade_faults (s : State) : (judgeBlade s).blade.runaway = s.blade.runaway ∧
    (judgeBlade s).blade.lastFault = s.blade.lastFault := by
  rw [(judgeBlade_eq_act s).1]
  unfold actOnDirective
  split <;> exact ⟨rfl, rfl⟩

/-- The state in which a runaway blade is reported: the first period of a runaway writes the record. -/
def runawayNoted (s : State) : State :=
  if s.blade.runaway then s else setBlade { s.blade with runaway := true, lastFault := .runaway } s

theorem runawayNoted_eq (s : State) : runawayNoted s = { s with
    blade := { s.blade with runaway := true, lastFault := if s.blade.runaway then s.blade.lastFault else .runaway }
    mem := (runawayNoted s).mem } := by
  unfold runawayNoted
  cases h : s.blade.runaway with
  | true =>
    have hblade : s.blade = { s.blade with runaway := true } := by rw [← h]
    simp only [if_true]
    rw [← hblade]
  | false => rfl

theorem runawayNoted_enable (s : State) : (runawayNoted s).word 0x062 = s.word 0x062 := by
  unfold runawayNoted
  split
  · rfl
  · exact setBlade_word _ _ (.inl (by decide))

theorem runawayStep_finds {s : State} (h : 6000 < s.blade.rpm) : runawayStep s = find .bladeRunaway (runawayNoted s) :=
  if_pos h

theorem bladePeriod_trips {t : Capture} {s : State} (hm : s.guard.machine = .armed) (hrpm : 6000 < (s.blade.measure t).rpm)
    (hturns : (s.blade.measure t).stopped t = false) :
    Machine.bladePeriod t s = publishBlade (trip .bladeRunaway (runawayNoted (measured t s))) := by
  have hmachine : (runawayNoted (measured t s)).guard.machine = .armed := by
    rw [runawayNoted_eq]
    exact hm
  have hundriven : ¬ Driven (trip .bladeRunaway (runawayNoted (measured t s))).blade.state := by
    rw [(trip_tripped _ _).blade]
    exact (setMachine_undriven (by decide)).2
  have hstill : bladeAction s.bladeTarget false (trip .bladeRunaway (runawayNoted (measured t s))) =
      trip .bladeRunaway (runawayNoted (measured t s)) := by
    refine bladeAction_none ?_
    generalize (trip .bladeRunaway (runawayNoted (measured t s))).blade = b at hundriven ⊢
    cases hb : b.state with
    | spinup => exact absurd (.inl hb) hundriven
    | cutting => exact absurd (.inr hb) hundriven
    | _ => simp
  rw [bladePeriod_eq, runawayStep_finds (s := measured t s) hrpm, find_armed hmachine, hturns, hstill]

theorem afterTrip_load (x : State) (n : Nat) : AfterTrip x { x with blade := { x.blade with load := n } } :=
  { AfterTrip.refl x with }

/-! ### The steps of a control period after a trip -/

theorem requestStep_idle {s : State} (h : s.plan.active = none) (cap : Nat) : requestStep cap s = (s, .nothing) := by
  simp [requestStep, kindRequest, h]

theorem reflexStep_quiet {s : State} (h : s.contact.stage = .quiet) (cap : Nat) (v : Travel) :
    reflexStep cap v s = ⟨s, none, false⟩ := by simp [reflexStep, h]

/-- With the machine out of ARMED step 5 chooses nothing to drive for (R72). -/
theorem chooseStep_resting {s : State} (hm : s.guard.machine ≠ .armed) (ha : s.plan.active = none)
    (hq : s.contact.stage = .quiet) (v : Travel) : chooseStep v s = aimWheels .zero (0, 0) s := by
  rw [chooseStep_eq]
  simp only [periodChosen, requestStep_idle ha, reflexStep_quiet hq, choose_zero (.inl hm), ReflexOut.settled]
  rfl

theorem judgeStall_resting {s : State} (hm : s.guard.machine ≠ .armed) (i : LR) : judgeStall i s = setStall i none s := by
  simp [judgeStall, State.armed, hm]

theorem judgePinging_resting {s : State} (hm : s.guard.machine ≠ .armed) (hp : s.contact.pinging = false) :
    judgePinging s = s := by simp [judgePinging, State.armed, hm, hp]

/-- The wheels put at rest. -/
def restingDrive (s : State) : Drive := (motionStep (dutyStep (aimWheels .zero (0, 0) s))).drive

theorem restingDrive_eq (s : State) : (restingDrive s).x = s.drive.x ∧ (restingDrive s).y = s.drive.y ∧
    (restingDrive s).heading = s.drive.heading ∧ (restingDrive s).suspended = s.drive.suspended ∧
    (restingDrive s).wheels.left.target = 0 ∧ (restingDrive s).wheels.right.target = 0 := by
  have htarget (w : WheelState) : ((w.aim s.accel 0).drivenBy s.plan.applied.kf s.plan.applied.ki).target = 0 := by
    rw [drivenBy_target, aim_target]
    rfl
  unfold restingDrive
  rw [motionStep_drive]
  exact ⟨rfl, rfl, rfl, rfl, htarget _, htarget _⟩

theorem drivePart_resting {s : State} (hm : s.guard.machine ≠ .armed) (ha : s.plan.active = none)
    (hq : s.contact.stage = .quiet) (hp : s.contact.pinging = false) (v : Travel) :
    latch (judgeStall .right (judgeStall .left (motionStep (dutyStep (chooseStep v s))))) =
      latch { s with drive := restingDrive s, contact := { s.contact with stall := ⟨none, none⟩ } } := by
  have hmotion : motionStep (dutyStep (aimWheels .zero (0, 0) s)) = { s with drive := restingDrive s } := by
    unfold restingDrive motionStep
    rw [judgePinging_resting (by exact hm) (by exact hp)]
    rfl
  rw [chooseStep_resting hm ha hq, hmotion, judgeStall_resting (s := { s with drive := restingDrive s }) hm .left,
    judgeStall_resting (s := setStall .left none { s with drive := restingDrive s }) hm .right]
  rfl

theorem Found.resting {c : TripCause} {s x : State} (h : Found c s x) (v : Travel) :
    Found c s (latch (judgeStall .right (judgeStall .left (motionStep (dutyStep (chooseStep v x)))))) := by
  have hfound := h
  obtain ⟨-, -, -, hmachine, -, hactive, -, -, -, -, -, -, hquiet, hpinging, -⟩ := h
  obtain ⟨hx, hy, hheading, hsuspended, hleft, hright⟩ := restingDrive_eq x
  rw [drivePart_resting (by rw [hmachine]; nofun) hactive hquiet hpinging]
  exact hfound.after (k := { AfterTrip.refl x with
    drive := by
      show ((restingDrive x).x, (restingDrive x).y, (restingDrive x).heading, (restingDrive x).suspended) = _
      rw [hx, hy, hheading, hsuspended]
    rest := fun _ => ⟨hleft, hright⟩ })

/-- A further cause leaves the trip's account. -/
theorem find_afterTrip {c further : TripCause} {x : State} (hm : x.guard.machine = .tripped)
    (hfirst : x.guard.trip.first = some c) (hword : x.word 0x280 = c.code) (hne : x.guard.trip.first ≠ some further) :
    AfterTrip x (find further x) := by
  have hmachine : x.mem.writeAll (tripCells (furthered further x.guard)) = (find further x).mem := by rw [find_joins hm hne]
  have hstate : (find further x).word 0x002 = x.word 0x002 :=
    ((find_words (s := x) (by rw [hm]; nofun)).1 ⟨hm, hne⟩).2 0x002 (.inl (by decide))
  have hcode : (find further x).word 0x280 = x.word 0x280 := by
    rw [hword, State.word_eq, ← hmachine, furthered_joins hm hne]
    exact tripCells_first x.mem hfirst
  rw [State.word_eq, ← hmachine] at hstate hcode
  rw [find_joins hm hne]
  generalize x.mem.writeAll (tripCells (furthered further x.guard)) = m at hstate hcode ⊢
  rw [furthered_joins hm hne]
  exact { AfterTrip.refl x with words := ⟨hstate, hcode⟩ }

/-- TILT found after the trip at most joins its further causes. -/
theorem Found.tilted {c : TripCause} {s x : State} (h : Found c s x) : Found c s (judgeTilt x) := by
  have hmachine : x.guard.machine = .tripped := h.2.2.2.1
  have htilt (start : Option Time) : AfterTrip x { x with guard := { x.guard with tiltStart := start } } :=
    { AfterTrip.refl x with }
  unfold judgeTilt
  split
  · exact h.after (k := htilt _)
  · split
    · exact h.after (k := htilt _)
    · split
      · by_cases hf : x.guard.trip.first = some .tilt
        · rw [find_stands (by rw [hmachine]; nofun) (.inr hf)]
          exact h
        · have hfound := h
          obtain ⟨-, -, -, -, -, -, -, -, -, -, -, -, -, -, -, -, -, -, hfirst, -, -, -, -, -, -, -, -, hcode⟩ := hfound
          exact h.after (k := find_afterTrip hmachine hfirst hcode hf)
      · exact h

end Sys2Proof.Proofs
end

section
/-! SUPPORT. The findings of the Guard while ARMED (O29). -/

namespace Sys2Proof.Proofs

open Sys2Proof.Machine Sys2Proof.Safety

/-! ### The Guard over steps 4 to 7 (R75, R78, R141, R162) -/

theorem controlPeriod_chooses (t : Capture) (pitch roll : Byte) (s : State) : controlPeriod t pitch roll s =
    latch (judgeStall .right (judgeStall .left (motionStep (dutyStep (chooseStep (periodTravel t s)
      (periodJudged t pitch roll s)))))) := rfl

theorem controlPeriod_guard (t : Capture) (pitch roll : Byte) (s : State) :
    (controlPeriod t pitch roll s).guard = (periodSettled t pitch roll s).guard := by
  rw [controlPeriod_parts]
  exact (contacted_periodStalls _).guard.trans (by simp)

/-- What steps 5 to 7 leave of the Guard's judgement. -/
theorem controlPeriod_guards (t : Capture) (pitch roll : Byte) (s : State) :
    (controlPeriod t pitch roll s).guard.machine = (periodJudged t pitch roll s).guard.machine ∧
      (controlPeriod t pitch roll s).guard.tiltStart = (periodJudged t pitch roll s).guard.tiltStart ∧
      ((periodJudged t pitch roll s).stageGen = (periodJudged t pitch roll s).plan.appliedGen →
        (controlPeriod t pitch roll s).guard = (periodJudged t pitch roll s).guard) := by
  have hsteady := steady_settled (periodTravel t s) (periodJudged t pitch roll s)
  rw [controlPeriod_guard]
  exact ⟨(settled_machine_wheels _ _).1, hsteady.tilt, fun hstaged => (hsteady.staged hstaged).1⟩

/-! ### TILT (R162) -/

theorem judgeTilt_level {s : State} (h : s.gov.slope < s.plan.applied.slopeTrip) :
    judgeTilt s = { s with guard := { s.guard with tiltStart := none } } := if_pos h

theorem judgeTilt_begins {s : State} (h : s.plan.applied.slopeTrip ≤ s.gov.slope) (hn : s.guard.tiltStart = none) :
    judgeTilt s = { s with guard := { s.guard with tiltStart := some s.partTime } } := by
  rw [judgeTilt, if_neg (Nat.not_lt.2 h), hn]

theorem judgeTilt_stands {s : State} {a : Time} (h : s.plan.applied.slopeTrip ≤ s.gov.slope)
    (hn : s.guard.tiltStart = some a) (hlong : 1000 ≤ since s.partTime a) : judgeTilt s = find .tilt s := by
  rw [judgeTilt, if_neg (Nat.not_lt.2 h), hn]
  exact if_pos hlong

/-- The state that step 4 leaves to the Guard when steps 2 and 3 found nothing. -/
def calmGoverned (t : Capture) (pitch roll : Byte) (s : State) : State :=
  { calmTravelled t s with gov := (calmTravelled t s).governed pitch roll }

theorem calmGoverned_blocks (t : Capture) (pitch roll : Byte) (s : State) :
    (calmGoverned t pitch roll s).gov.slope = slopeAt pitch roll ∧ (calmGoverned t pitch roll s).plan = s.plan ∧
      (calmGoverned t pitch roll s).guard = { s.guard with
        escape := if Strays s then min 4294967295 (s.guard.escape + (meanTravel s).natAbs) else s.guard.escape } ∧
      (calmGoverned t pitch roll s).partTime = s.partTime ∧ (calmGoverned t pitch roll s).mem = s.mem := by
  refine ⟨slopeOf_eq _ _, ?_⟩
  unfold calmGoverned
  rw [calmTravelled_eq]
  exact ⟨rfl, rfl, rfl, rfl⟩

section
variable {t : Capture} {pitch roll : Byte} {s : State}
  (hcalm : ¬ (Strays s ∧ s.plan.applied.escapeLimit ≤ min 4294967295 (s.guard.escape + (meanTravel s).natAbs) / 256))
  (hends : ∀ seg, s.plan.active = some seg → ¬ BasicEnds s seg)
include hcalm hends

theorem periodJudged_calm : periodJudged t pitch roll s = judgeTilt (calmGoverned t pitch roll s) := by
  unfold periodJudged periodGoverned calmGoverned
  rw [periodEnded_calm hcalm hends]

theorem controlPeriod_tilts (hm : s.guard.machine = .armed) (hlaw : BladeLaw s)
    (hslope : s.plan.applied.slopeTrip ≤ slopeAt pitch roll) {a : Time} (ha : s.guard.tiltStart = some a)
    (hlong : 1000 ≤ since s.partTime a) : Found .tilt s (controlPeriod t pitch roll s) := by
  obtain ⟨hgov, hplan, hguard, hpart, hmem⟩ := calmGoverned_blocks t pitch roll s
  have hjudged : periodJudged t pitch roll s = trip .tilt (calmGoverned t pitch roll s) := by
    rw [periodJudged_calm hcalm hends, judgeTilt_stands (by rw [hgov, hplan]; exact hslope) (by rw [hguard]; exact ha)
      (by rw [hpart]; exact hlong), find_armed (by rw [hguard]; exact hm)]
  have hfound : Found .tilt s (trip .tilt (calmGoverned t pitch roll s)) := by
    have heq := calmTravelled_eq t s
    exact found_trip hpart (by unfold calmGoverned; rw [heq]) (by unfold calmGoverned; rw [heq])
      (by unfold calmGoverned; rw [heq]) (by unfold calmGoverned; rw [heq])
      (by rw [State.word_eq, hmem, ← State.word_eq]) hlaw
  rw [controlPeriod_chooses, hjudged]
  exact hfound.resting _

theorem controlPeriod_leans (hslope : s.plan.applied.slopeTrip ≤ slopeAt pitch roll) (hn : s.guard.tiltStart = none) :
    (controlPeriod t pitch roll s).guard.tiltStart = some s.partTime ∧
      (controlPeriod t pitch roll s).guard.machine = s.guard.machine := by
  obtain ⟨hgov, hplan, hguard, hpart, -⟩ := calmGoverned_blocks t pitch roll s
  obtain ⟨hmachine, htilt, -⟩ := controlPeriod_guards t pitch roll s
  rw [hmachine, htilt, periodJudged_calm hcalm hends, judgeTilt_begins (by rw [hgov, hplan]; exact hslope)
    (by rw [hguard]; exact hn), hguard, hpart]
  exact ⟨rfl, rfl⟩

theorem controlPeriod_level (hslope : slopeAt pitch roll < s.plan.applied.slopeTrip) :
    (controlPeriod t pitch roll s).guard.tiltStart = none ∧
      (controlPeriod t pitch roll s).guard.machine = s.guard.machine ∧
      (s.word 0x0BF = s.plan.appliedGen → (controlPeriod t pitch roll s).guard.escape =
        if Strays s then min 4294967295 (s.guard.escape + (meanTravel s).natAbs) else s.guard.escape) := by
  obtain ⟨hgov, hplan, hguard, hpart, hmem⟩ := calmGoverned_blocks t pitch roll s
  obtain ⟨hmachine, htilt, hstaged⟩ := controlPeriod_guards t pitch roll s
  have hjudged := (periodJudged_calm (t := t) (pitch := pitch) (roll := roll) hcalm hends).trans
    (judgeTilt_level (by rw [hgov, hplan]; exact hslope))
  rw [hjudged] at hmachine htilt hstaged
  refine ⟨htilt, hmachine.trans (by rw [hguard]), fun hgen => ?_⟩
  have hstageGen : (calmGoverned t pitch roll s).stageGen = (calmGoverned t pitch roll s).plan.appliedGen := by
    rw [hplan, State.stageGen, State.word_eq, hmem]
    exact hgen
  rw [hstaged hstageGen, hguard]

end

/-! ### ESCAPED (R164) -/

/-- Step 2's escape finding, with what it leaves of the period's beginning. -/
theorem escapeStep_trips {v : Travel} {s : State} (hs : Strays s)
    (hlimit : s.plan.applied.escapeLimit ≤ min 4294967295 (s.guard.escape + v.mean.natAbs) / 256) :
    escapeStep v s = trip .escaped { s with guard := { s.guard with
      escape := min 4294967295 (s.guard.escape + v.mean.natAbs) } } := by
  rw [← satAdd_eq_min] at hlimit ⊢
  unfold escapeStep
  rw [if_pos ((strays_iff s).2 hs)]
  exact (if_pos hlimit).trans (find_armed hs.1)

theorem stepEnds_idle {s : State} (h : s.plan.active = none) : stepEnds s = s := by
  unfold stepEnds
  rw [h]

theorem Found.governed {c : TripCause} {s x : State} (h : Found c s x) (g : Governor) : Found c s { x with gov := g } :=
  h.after (k := { AfterTrip.refl x with })

/-- The drive, and step 2's readers of its travel, before the Guard's. -/
def readersTravelled (t : Capture) (s : State) : State :=
  reflexTravel (periodTravel t s) (dockTravel (periodTravel t s) (periodTravelled t s))

theorem periodEnded_readers (t : Capture) (s : State) :
    periodEnded t s = stepEnds (escapeStep (periodTravel t s) (readersTravelled t s)) := periodEnded_eq t s

theorem readersTravelled_blocks (t : Capture) (s : State) : (readersTravelled t s).guard = s.guard ∧
    (readersTravelled t s).loops = s.loops ∧ (readersTravelled t s).plan = s.plan ∧
    (readersTravelled t s).partTime = s.partTime ∧ (readersTravelled t s).recv = s.recv ∧
    (readersTravelled t s).blade = s.blade ∧ (readersTravelled t s).notice = s.notice ∧
    (readersTravelled t s).mem = s.mem := by
  unfold readersTravelled
  rw [reflexTravel_eq_update, dockTravel_eq_update, periodTravelled_eq_update]
  exact ⟨rfl, rfl, rfl, rfl, rfl, rfl, rfl, rfl⟩

theorem controlPeriod_escapes {t : Capture} {pitch roll : Byte} {s : State} (hs : Strays s) (hlaw : BladeLaw s)
    (hlimit : s.plan.applied.escapeLimit ≤ min 4294967295 (s.guard.escape + (meanTravel s).natAbs) / 256) :
    Found .escaped s (controlPeriod t pitch roll s) := by
  have hended : Found .escaped s (periodEnded t s) := by
    obtain ⟨hguard, hloops, hplan, hpart, hrecv, hblade, hnotice, hmem⟩ := readersTravelled_blocks t s
    have hmean : (periodTravel t s).mean = meanTravel s := by rw [periodTravel_eq]
    have htrip := escapeStep_trips (v := periodTravel t s) (s := readersTravelled t s) (by rw [Strays, hguard, hloops]; exact hs)
      (by rw [hplan, hguard, hmean]; exact hlimit)
    rw [periodEnded_readers, htrip, stepEnds_idle (trip_tripped _ _).plan.2.1]
    exact found_trip hpart hrecv hloops (by rw [hblade]) hnotice (by rw [State.word_eq, hmem, ← State.word_eq]) hlaw
  rw [controlPeriod_chooses]
  exact ((hended.governed _).tilted).resting _

/-! ### BLADE_RUNAWAY (R132) -/

theorem bladePeriod_found {t : Capture} {s : State} (hm : s.guard.machine = .armed) (hlaw : BladeLaw s)
    (hrpm : 6000 < (s.blade.measure t).rpm) (hturns : (s.blade.measure t).stopped t = false) :
    Found .bladeRunaway s (Machine.bladePeriod t s) ∧ (Machine.bladePeriod t s).blade.runaway = true ∧
      (Machine.bladePeriod t s).blade.rpm = (s.blade.measure t).rpm ∧
      (s.blade.runaway = false → (Machine.bladePeriod t s).blade.lastFault = .runaway) := by
  have hnoted := runawayNoted_eq (measured t s)
  have hmeasured : ((measured t s).blade.state, (measured t s).blade.duty) = (s.blade.state, s.blade.duty) ∧
      (measured t s).blade.runaway = s.blade.runaway := by
    unfold measured
    rw [measure_eq_update]
    exact ⟨rfl, rfl⟩
  have henable : (runawayNoted (measured t s)).word 0x062 = s.word 0x062 := runawayNoted_enable _
  generalize hx : runawayNoted (measured t s) = x at hnoted henable
  have hfound : Found .bladeRunaway s (trip .bladeRunaway x) := by
    refine found_trip ?_ ?_ ?_ ?_ ?_ henable hlaw
    case refine_4 => rw [hnoted]; exact hmeasured.1
    all_goals rw [hnoted]; rfl
  have hblade : (trip .bladeRunaway x).blade.runaway = x.blade.runaway ∧
      (trip .bladeRunaway x).blade.lastFault = x.blade.lastFault := by
    rw [(trip_tripped _ _).blade]
    exact judgeBlade_faults _
  have hmachine : (trip .bladeRunaway x).guard.machine ≠ .start := by
    rw [(trip_tripped _ _).guard]
    nofun
  have hrpmOf : (trip .bladeRunaway x).blade.rpm = (s.blade.measure t).rpm := by
    rw [(trip_tripped _ _).blade, (tripped_blade (s := x) ?_).2.2.2, hnoted]
    · rfl
    · obtain ⟨hstate, hduty⟩ := Prod.mk.inj hmeasured.1
      rw [hnoted]
      exact fun hdriving => hstate ▸ hlaw.1 (hduty ▸ hdriving)
  rw [bladePeriod_trips hm hrpm hturns, hx, publishBlade_unstarted hmachine]
  refine ⟨hfound.after (k := afterTrip_load _ _), ?_, hrpmOf, fun hr => ?_⟩
  · exact hblade.1.trans (by rw [hnoted])
  · refine hblade.2.trans ?_
    rw [hnoted, hmeasured.2, hr]
    rfl

/-! ### The obligation -/

/-- A finding that first writes a field of the Guard alone. -/
theorem trips_at_expiry {c : TripCause} {s b : State} {f : State → State} {g : Guard} (hr : s.resetting = none)
    (hm : g.machine = .armed) (hlaw : BladeLaw s) (hb : b = { s with guard := g, causes := Causes.none })
    (hf : f { s with causes := Causes.none } = find c b) : TripsAtOnce c s (s.event f) := by
  have hran := event_ran hr (hf.trans (find_armed (by rw [hb]; exact hm)))
  rw [hb] at hran
  exact ran_trips (p := s.pins) hran hlaw

/-- Settles O29: the inputs and timers, the control period's ESCAPED and TILT, and the blade period's runaway. -/
theorem findingTrips : Obligations.FindingTrips := by
  unfold Obligations.FindingTrips
  intro c cause s hr hm hlaw
  refine ⟨?inputs, fun t pitch roll hc hd => ⟨fun hs hlimit hcause => ?escapes, fun hends hcalm =>
    ⟨fun hslope a ha hlong hcause => ?tilts, fun hslope hn => ?leans, fun hslope => ?level⟩⟩,
    fun t lp p hc hcause hd hlp hp hsince hrpm => ?runaway⟩
  case inputs =>
    rintro (⟨rfl, rfl⟩ | ⟨i, e, rfl, rfl, he, hd⟩ | ⟨e, rfl, rfl, he, hd⟩ | ⟨e, rfl, rfl, he, hd⟩)
    · exact ⟨_, rfl, ran_trips (g := s.guard) (event_ran (s := setStopPin .closing s) hr (find_armed (by exact hm))) hlaw⟩
    · exact ⟨_, rfl, trips_at_expiry hr (by exact hm) hlaw rfl (if_pos (dueOpt_true (by exact he) hd))⟩
    · exact ⟨_, rfl, trips_at_expiry hr (by exact hm) hlaw rfl (if_pos (dueOpt_true (by exact he) hd))⟩
    · exact ⟨_, rfl, trips_at_expiry hr (by exact hm) hlaw rfl (if_pos (dueOpt_true (by exact he) hd))⟩
  case escapes =>
    subst hc hcause
    have hfound := controlPeriod_escapes (t := t) (pitch := pitch) (roll := roll) (s := stamped t s) ⟨hm, hs⟩ hlaw hlimit
    exact ⟨_, rfl, hfound.after (k := (exec_controlPeriod_due hr hd).afterTrip)⟩
  case tilts =>
    subst hc hcause
    have hfound := controlPeriod_tilts (t := t) (s := stamped t s) (fun h => hcalm ⟨h.1.2, h.2⟩) hends hm hlaw hslope ha hlong
    exact ⟨_, rfl, hfound.after (k := (exec_controlPeriod_due hr hd).afterTrip)⟩
  case leans =>
    subst hc
    obtain ⟨htilt, hmachine⟩ := controlPeriod_leans (t := t) (s := stamped t s) (fun h => hcalm ⟨h.1.2, h.2⟩) hends hslope hn
    obtain ⟨-, -, -, -, -, -, -, -, -, -, hguard, -⟩ := (exec_controlPeriod_due (pitch := pitch) (roll := roll) hr hd).blocks
    exact ⟨_, rfl, by rw [hguard, htilt], by rw [hguard, hmachine]; exact hm⟩
  case level =>
    subst hc
    obtain ⟨htilt, hmachine, hescape⟩ :=
      controlPeriod_level (t := t) (s := stamped t s) (fun h => hcalm ⟨h.1.2, h.2⟩) hends hslope
    obtain ⟨-, -, -, -, -, -, -, -, -, -, hguard, -⟩ := (exec_controlPeriod_due (pitch := pitch) (roll := roll) hr hd).blocks
    refine ⟨_, rfl, by rw [hguard, htilt], by rw [hguard, hmachine]; exact hm, fun hgen => ?_⟩
    rw [hguard, hescape hgen]
    exact if_congr (and_iff_right hm) rfl rfl
  case runaway =>
    subst hc hcause
    have hmeasure := measure_rpm hlp hp hsince
    have hturns : (s.blade.measure t).stopped t = false := by
      rw [Bool.eq_false_iff, Ne, measure_stopped_iff]
      intro hstopped
      exact absurd (hstopped.1 lp hlp) (by omega)
    obtain ⟨hfound, hrunaway, hspeed, hfault⟩ := bladePeriod_found (t := t)
      (s := { s with timebase := t, causes := Causes.none }) hm hlaw (by rw [← hmeasure] at hrpm; exact hrpm) hturns
    have hran := exec_bladePeriod_due (t := t) hr hd
    obtain ⟨-, -, -, -, -, -, -, -, hblade, -⟩ := hran.blocks
    refine ⟨_, rfl, hfound.after (k := hran.afterTrip), ?_, ?_, fun hr => ?_⟩
    · rw [hblade, hrunaway]
    · rw [hblade, hspeed]
      exact hmeasure
    · rw [hblade, hfault hr]

end Sys2Proof.Proofs
end

section
/-! SUPPORT. A control period in which the Guard finds nothing: what step 5 begins with, and what follows from its choice. -/

namespace Sys2Proof.Proofs

open Sys2Proof.Machine Sys2Proof.Safety

/-! ### What step 5 begins with (R71, R78, R162, R164) -/

/-- Steps 1 to 4 of a period without an end or a finding. -/
structure CalmBegun (t : Capture) (s y : State) : Prop where
  leaves : y = { s with
    drive := (periodTravelled t s).drive
    dock := (calmTravelled t s).dock
    contact := (calmTravelled t s).contact
    guard := y.guard
    gov := y.gov }
  machine : y.guard.machine = s.guard.machine

theorem judgeTilt_calm {s : State} (h : s.gov.slope < s.plan.applied.slopeTrip ∨
    ∀ a, s.guard.tiltStart = some a → since s.partTime a < 1000) :
    ∃ start, judgeTilt s = { s with guard := { s.guard with tiltStart := start } } := by
  unfold judgeTilt
  split
  · exact ⟨_, rfl⟩
  case isFalse hslope =>
    cases ha : s.guard.tiltStart with
    | none => exact ⟨_, rfl⟩
    | some a =>
      refine ⟨some a, (if_neg ?_).trans (by rw [← ha])⟩
      exact Nat.not_le.2 (h.resolve_left hslope a ha)

theorem calmTravelled_leaves (t : Capture) (s : State) : ∃ g : Guard, calmTravelled t s = { s with
    drive := (periodTravelled t s).drive
    dock := (calmTravelled t s).dock
    contact := (calmTravelled t s).contact
    guard := g } ∧ g.machine = s.guard.machine ∧ g.tiltStart = s.guard.tiltStart := by
  refine ⟨{ s.guard with
    escape := if Strays s then min 4294967295 (s.guard.escape + (meanTravel s).natAbs) else s.guard.escape }, ?_, rfl, rfl⟩
  have h := calmTravelled_eq t s
  generalize calmTravelled t s = x at h ⊢
  generalize (periodTravelled t s).drive = d at h ⊢
  rw [h]

theorem calmBegun {t : Capture} {pitch roll : Byte} {s : State} (h : CalmPeriod s pitch roll)
    (hends : ∀ seg, s.plan.active = some seg → ¬ BasicEnds s seg) :
    CalmBegun t (stamped t s) (periodJudged t pitch roll (stamped t s)) := by
  obtain ⟨-, -, -, hclass, htilt⟩ := h
  have hcalm : ¬ (Strays (stamped t s) ∧ (stamped t s).plan.applied.escapeLimit ≤
      min 4294967295 ((stamped t s).guard.escape + (meanTravel (stamped t s)).natAbs) / 256) := by
    rintro ⟨⟨-, hrecovery, hout⟩, -⟩
    rcases hclass with hne | hrec
    · exact hne hout
    · exact absurd (hrec.symm.trans hrecovery) nofun
  obtain ⟨hgov, hplan, hguard, hpart, -⟩ := calmGoverned_blocks t pitch roll (stamped t s)
  obtain ⟨start, hjudged⟩ := judgeTilt_calm (s := calmGoverned t pitch roll (stamped t s))
    (by rw [hgov, hplan, hguard, hpart]; exact htilt)
  obtain ⟨g, hleaves, hmachine, -⟩ := calmTravelled_leaves t (stamped t s)
  rw [periodJudged_calm hcalm hends, hjudged]
  refine ⟨?_, by rw [hguard]⟩
  unfold calmGoverned
  generalize (calmTravelled t (stamped t s)).dock = d at hleaves ⊢
  generalize (calmTravelled t (stamped t s)).contact = c at hleaves ⊢
  generalize (periodTravelled t (stamped t s)).drive = e at hleaves ⊢
  rw [hleaves]

/-! ### The stalls of a period without a contact, and with no segment (R141, R143) -/

/-- A wheel that did not stand at the period before notes the time at most. -/
theorem judgeStall_first {i : LR} {s : State} (h : s.contact.stall.get i = none) :
    ∃ start, judgeStall i s = setStall i start s := by
  unfold judgeStall
  dsimp only
  split
  · rw [h]
    exact ⟨_, rfl⟩
  · exact ⟨_, rfl⟩

theorem startsReflex_none {s : State} (h : s.plan.active = none) : s.startsReflex = false := by
  simp [State.startsReflex, State.activeKind, h]

/-- With no segment and no reflex a contact is listed and discarded. -/
theorem formContact_idle {s : State} (ha : s.plan.active = none) (hq : s.contact.stage = .quiet) (src : Sources)
    (range : Option Nat) : ∃ c k, formContact src range s = { s with contact := c, causes := k } ∧ c.stage = .quiet := by
  have happend : ∃ c k, appendContact (s.entryOf src range) s = { s with contact := c, causes := k } ∧ c.stage = .quiet := by
    have hcount : countContact (setList (appendEntry (s.entryOf src range) s.contact.list) s) =
        setList (appendEntry (s.entryOf src range) s.contact.list) s := by
      have hplan : ({ s.plan with
          active := s.plan.active.map (fun seg => { seg with contacts := satAdd 65535 seg.contacts 1 }) } : Plan) = s.plan := by
        rw [show s.plan.active.map _ = s.plan.active by rw [ha]; rfl]
      exact congrArg (fun p => { setList (appendEntry (s.entryOf src range) s.contact.list) s with plan := p }) hplan
    have hkind : (setList (appendEntry (s.entryOf src range) s.contact.list) s).activeKind = none := by
      simp [State.activeKind, setList, ha]
    rw [appendContact, hcount, dispose, if_neg (not_not.2 (by exact hq)), if_neg (by rw [hkind]; nofun),
      startsReflex_none (by exact ha)]
    exact ⟨_, _, rfl, hq⟩
  unfold formContact
  split
  · split
    · unfold foldContact
      dsimp only
      rw [hq, startsReflex_none (by exact ha)]
      exact ⟨_, _, rfl, hq⟩
    · exact happend
  · exact happend

theorem judgeStall_idle {i : LR} {s : State} (ha : s.plan.active = none) (hq : s.contact.stage = .quiet) :
    ∃ c k, judgeStall i s = { s with contact := c, causes := k } ∧ c.stage = .quiet := by
  unfold judgeStall
  dsimp only
  split
  · split
    · exact ⟨_, _, rfl, hq⟩
    · split
      · obtain ⟨c, k, heq⟩ := formContact_idle (s := setStall i none s) ha hq (stallSource i) none
        exact ⟨c, k, heq.1, heq.2⟩
      · exact ⟨_, _, rfl, hq⟩
  · exact ⟨_, _, rfl, hq⟩

/-! ### What follows from a choice (R72, R74, R75, R78) -/

/-- The blocks that the wheels and the stalls leave to step 5. -/
structure SameBlocks (z u : State) : Prop where
  plan : u.plan = z.plan
  track : u.track = z.track
  dock : u.dock = z.dock
  notice : u.notice = z.notice
  guard : u.guard = z.guard
  blade : u.blade = z.blade
  loops : u.loops = z.loops
  words : ∀ a, a ≠ 0x100 → a ≠ 0x180 → a ≠ 0x200 → u.word a = z.word a

theorem SameBlocks.trans {x y z : State} (h : SameBlocks x y) (k : SameBlocks y z) : SameBlocks x z :=
  ⟨k.plan.trans h.plan, k.track.trans h.track, k.dock.trans h.dock, k.notice.trans h.notice, k.guard.trans h.guard,
    k.blade.trans h.blade, k.loops.trans h.loops, fun a h1 h2 h3 => (k.words a h1 h2 h3).trans (h.words a h1 h2 h3)⟩

theorem Ran.same {s b u : State} (h : Ran s b u) : SameBlocks b u := by
  obtain ⟨-, -, -, hloops, hplan, -, htrack, -, hblade, -, hguard, hdock, hnotice, -⟩ := h.blocks
  exact ⟨hplan, htrack, hdock, hnotice, hguard, hblade, hloops, h.word⟩

/-- The state in which the stalls are judged. -/
def periodDriven (t : Capture) (pitch roll : Byte) (s : State) : State :=
  motionStep (dutyStep (aimWheels (periodChoice t pitch roll s).1 (periodChoice t pitch roll s).2 (periodSettled t pitch roll s)))

theorem controlPeriod_driven (t : Capture) (pitch roll : Byte) (s : State) : controlPeriod t pitch roll s =
    latch (judgeStall .right (judgeStall .left (periodDriven t pitch roll s))) := controlPeriod_parts t pitch roll s

theorem aimed_blocks (c : Choice) (p : Pair) (z : State) : SameBlocks z (motionStep (dutyStep (aimWheels c p z))) where
  plan := by simp
  track := by simp
  dock := by simp
  notice := by simp
  guard := by simp
  blade := by simp
  loops := by simp
  words a _ _ _ := by rw [State.word_eq, State.word_eq]; simp

/-- Pinging is judged; the list, the reflex and the stalls stand. -/
theorem aimed_contact (c : Choice) (p : Pair) (z : State) :
    let x := motionStep (dutyStep (aimWheels c p z))
    x.contact.list = z.contact.list ∧ x.contact.stage = z.contact.stage ∧ x.contact.record = z.contact.record ∧
      x.contact.stall = z.contact.stall ∧ x.drive.suspended = z.drive.suspended := by
  unfold motionStep judgePinging
  dsimp only
  split
  · exact ⟨rfl, rfl, rfl, rfl, rfl⟩
  · split <;> exact ⟨rfl, rfl, rfl, rfl, rfl⟩

theorem periodDriven_contact (t : Capture) (pitch roll : Byte) (s : State) :
    (periodDriven t pitch roll s).contact.list = (periodSettled t pitch roll s).contact.list ∧
      (periodDriven t pitch roll s).contact.stage = (periodSettled t pitch roll s).contact.stage ∧
      (periodDriven t pitch roll s).contact.record = (periodSettled t pitch roll s).contact.record ∧
      (periodDriven t pitch roll s).contact.stall = (periodSettled t pitch roll s).contact.stall ∧
      (periodDriven t pitch roll s).drive.suspended = (periodSettled t pitch roll s).drive.suspended := by
  unfold periodDriven
  exact aimed_contact _ _ _

theorem periodDriven_blocks (t : Capture) (pitch roll : Byte) (s : State) :
    SameBlocks (periodSettled t pitch roll s) (periodDriven t pitch roll s) := by
  unfold periodDriven
  exact aimed_blocks _ _ _

theorem stalls_first {x : State} (h : x.contact.stall = ⟨none, none⟩) :
    ∃ stall p, latch (judgeStall .right (judgeStall .left x)) = { x with contact := { x.contact with stall := stall }, port := p } := by
  obtain ⟨left, hleft⟩ := judgeStall_first (i := .left) (s := x) (by rw [h]; rfl)
  obtain ⟨right, hright⟩ := judgeStall_first (i := .right) (s := setStall .left left x) (by
    show (x.contact.stall.set .left left).get .right = none
    rw [h]
    rfl)
  rw [hleft, hright]
  exact ⟨_, _, rfl⟩

theorem stalls_idle {x : State} (ha : x.plan.active = none) (hq : x.contact.stage = .quiet) :
    ∃ c k p, latch (judgeStall .right (judgeStall .left x)) = { x with contact := c, causes := k, port := p } ∧
      c.stage = .quiet := by
  obtain ⟨c, k, hleft, hc⟩ := judgeStall_idle (i := .left) ha hq
  obtain ⟨d, j, hright, hd⟩ := judgeStall_idle (i := .right) (s := { x with contact := c, causes := k }) ha hc
  rw [hleft, hright]
  exact ⟨_, _, _, rfl, hd⟩

theorem sameBlocks_stalled (x : State) (c : Contact) (k : Causes) (p : Port) :
    SameBlocks x { x with contact := c, causes := k, port := p } :=
  ⟨rfl, rfl, rfl, rfl, rfl, rfl, rfl, fun _ _ _ _ => rfl⟩

/-- A period after its choice `c` out of the state `z` that step 5 leaves. -/
structure Driving (s z u : State) (c : Choice × Pair) : Prop where
  gov : u.gov = z.gov
  guard : u.guard = z.guard
  drive : u.drive = { z.drive with
    choice := c.1, wheels := u.drive.wheels, motion := u.drive.motion, suspended := u.drive.suspended }
  target : ∀ i, (u.drive.wheels.get i).target =
    limited (max 5 (min 100 (s.word 0x061).toNat)) (pairOf c.2 i) (z.drive.wheels.get i).target
  speed : ∀ i, (u.drive.wheels.get i).measured = (z.drive.wheels.get i).measured

/-- A period whose stalls form no contact that a segment hears of. -/
structure Undisturbed (z u : State) : Prop extends SameBlocks z u where
  suspended : u.drive.suspended = z.drive.suspended
  stage : u.contact.stage = z.contact.stage

section
variable {t : Capture} {pitch roll : Byte} {s b u : State}

theorem driving (hran : Ran b (controlPeriod t pitch roll s) u) :
    Driving s (periodSettled t pitch roll s) u (periodChoice t pitch roll s) := by
  obtain ⟨-, -, -, -, -, hdrive, -, hgov, -, -, hguard, -⟩ := hran.blocks
  constructor
  case gov =>
    rw [hgov, controlPeriod_parts]
    simp
  case guard => rw [hguard, controlPeriod_guard]
  case drive =>
    have hperiod := controlPeriod_drive t pitch roll s
    have hmotion := driven_motion hperiod
    rw [hdrive]
    generalize (controlPeriod t pitch roll s).drive = d at hperiod hmotion ⊢
    rw [← hmotion] at hperiod
    exact hperiod
  case target =>
    intro i
    rw [hdrive, controlPeriod_wheel, driveBy_eq_update, ← accel_eq]
    exact rateLimit_limited _ _ _
  case speed =>
    intro i
    rw [hdrive, controlPeriod_wheel]
    exact (driveBy_speed _ _ _ _ _).1

theorem undisturbed_of_stalls {c : Contact} {k : Causes} {p : Port} (hran : Ran b (controlPeriod t pitch roll s) u)
    (hstalls : latch (judgeStall .right (judgeStall .left (periodDriven t pitch roll s))) =
      { periodDriven t pitch roll s with contact := c, causes := k, port := p })
    (hstage : c.stage = (periodSettled t pitch roll s).contact.stage) : Undisturbed (periodSettled t pitch roll s) u := by
  obtain ⟨-, -, -, -, hsuspended⟩ := periodDriven_contact t pitch roll s
  obtain ⟨-, -, -, -, -, hdrive, -, -, -, hcontact, -⟩ := hran.blocks
  have hsame : SameBlocks (periodDriven t pitch roll s) (controlPeriod t pitch roll s) := by
    rw [controlPeriod_driven, hstalls]
    exact sameBlocks_stalled _ _ _ _
  refine ⟨((periodDriven_blocks t pitch roll s).trans hsame).trans hran.same, ?_, ?_⟩
  · rw [hdrive, controlPeriod_driven, hstalls]
    exact hsuspended
  · rw [hcontact, controlPeriod_driven, hstalls]
    exact hstage

/-- No wheel stood at the period before. -/
theorem undisturbed_first (hran : Ran b (controlPeriod t pitch roll s) u)
    (h : (periodSettled t pitch roll s).contact.stall = ⟨none, none⟩) : Undisturbed (periodSettled t pitch roll s) u ∧
      u.contact.list = (periodSettled t pitch roll s).contact.list ∧
      u.contact.record = (periodSettled t pitch roll s).contact.record := by
  obtain ⟨hlist, hstage, hrecord, hstall, -⟩ := periodDriven_contact t pitch roll s
  obtain ⟨stall, p, heq⟩ := stalls_first (x := periodDriven t pitch roll s) (hstall.trans h)
  obtain ⟨-, -, -, -, -, -, -, -, -, hcontact, -⟩ := hran.blocks
  refine ⟨undisturbed_of_stalls (k := (periodDriven t pitch roll s).causes) hran heq hstage, ?_⟩
  rw [hcontact, controlPeriod_driven, heq]
  exact ⟨hlist, hrecord⟩

/-- Step 5 has left no segment and no reflex. -/
theorem undisturbed_idle (hran : Ran b (controlPeriod t pitch roll s) u)
    (ha : (periodSettled t pitch roll s).plan.active = none)
    (hq : (periodSettled t pitch roll s).contact.stage = .quiet) : Undisturbed (periodSettled t pitch roll s) u := by
  obtain ⟨-, hstage, -⟩ := periodDriven_contact t pitch roll s
  obtain ⟨c, k, p, heq, hc⟩ := stalls_idle (x := periodDriven t pitch roll s)
    ((congrArg Plan.active (periodDriven_blocks t pitch roll s).plan).trans ha) (hstage.trans hq)
  exact undisturbed_of_stalls hran heq (hc.trans hq.symm)

end

/-! ### The choice (R72) -/

theorem choose_pair {z : State} (hm : z.guard.machine = .armed) (ha : z.plan.active.isSome = true)
    (hs : z.drive.suspended = false) (cap : Nat) (p : Pair) (b : Bool) :
    z.choose cap none (.pair p b) = if cap = 0 then (.zero, (0, 0)) else (if b then .backoff else .kind, p) := by
  simp [State.choose, State.armed, hm, ha, hs]

theorem choose_pair_request {z : State} (hm : z.guard.machine = .armed) (ha : z.plan.active.isSome = true)
    (hs : z.drive.suspended = false) (cap : Nat) (p : Pair) (b : Bool) :
    (z.choose cap none (.pair p b)).2 = if cap = 0 then (0, 0) else p := by
  rw [choose_pair hm ha hs]
  split <;> rfl

theorem choose_rest {z : State} {r : Request} (h : r = .nothing ∨ r = .ended ∨ z.plan.active = none) (cap : Nat) :
    z.choose cap none r = (.zero, (0, 0)) := by
  unfold State.choose
  split
  · rfl
  · rcases h with rfl | rfl | ha
    · rfl
    · rfl
    · cases r <;> simp [ha]

theorem limited_zero (accel : Nat) (old : Int) : limited accel 0 old = 0 := by simp [limited]

theorem Driving.takes {s z u : State} {c : Choice × Pair} {q : Pair} (h : Driving s z u c)
    (hw : ∀ i, (z.drive.wheels.get i).target = (s.drive.wheels.get i).target)
    (hp : c.2 = if z.gov.cap = 0 then (0, 0) else q) : Takes s u q := by
  have hside (i : LR) : (u.drive.wheels.get i).target = if u.gov.cap = 0 then 0
      else limited (max 5 (min 100 (s.word 0x061).toNat)) (pairOf q i) (s.drive.wheels.get i).target := by
    rw [h.target, hw, h.gov, hp]
    split
    · cases i <;> exact limited_zero _ _
    · rfl
  exact ⟨hside .left, hside .right⟩

theorem Driving.rests {s z u : State} {c : Choice × Pair} (h : Driving s z u c) (hp : c.2 = (0, 0)) : AtRest u := by
  have hside (i : LR) : (u.drive.wheels.get i).target = 0 := by
    rw [h.target, hp]
    cases i <;> exact limited_zero _ _
  exact ⟨hside .left, hside .right⟩

/-! ### A calm period without a reflex -/

theorem calmTravelled_reflex (t : Capture) (s : State) : (calmTravelled t s).contact =
    { s.contact with record := (calmTravelled t s).contact.record } := by
  have h := calmTravelled_eq t s
  generalize calmTravelled t s = x at h ⊢
  rw [h]

theorem CalmBegun.wheel {t : Capture} {s y : State} (h : CalmBegun t s y) (i : LR) :
    (y.drive.wheels.get i).target = (s.drive.wheels.get i).target := by
  rw [h.leaves]
  exact (congrArg WheelState.target (periodTravelled_wheel t s i)).trans (measure_target _ _ _)

theorem quiet_choice {t : Capture} {pitch roll : Byte} {s z : State} {r : Request}
    (hq : (periodJudged t pitch roll s).contact.stage = .quiet)
    (h : requestStep (periodJudged t pitch roll s).gov.cap (periodJudged t pitch roll s) = (z, r)) :
    periodSettled t pitch roll s = z ∧ periodChoice t pitch roll s = z.choose z.gov.cap none r := by
  have hz : z = (requestStep (periodJudged t pitch roll s).gov.cap (periodJudged t pitch roll s)).1 := by rw [h]
  have hgov : z.gov = (periodJudged t pitch roll s).gov := by rw [hz]; simp
  have hstage : z.contact.stage = .quiet := by rw [hz]; simpa using hq
  unfold periodSettled periodChoice periodChosen
  simp only [h, reflexStep_quiet hstage, ReflexOut.settled, hgov]
  exact ⟨rfl, trivial⟩

/-- A period without a reflex, by what the active kind requests of the state `y` that step 5 begins with. -/
def FromRequest (s y u : State) : Prop :=
  ∀ z r, requestStep y.gov.cap y = (z, r) → Driving s z u (z.choose z.gov.cap none r) ∧
    ((s.contact.stall = ⟨none, none⟩ ∨ z.plan.active = none) → Undisturbed z u)

/-- A calm period without a reflex. -/
theorem exec_calm_quiet {t : Capture} {pitch roll : Byte} {s : State} (h : CalmPeriod s pitch roll)
    (hends : ∀ seg, s.plan.active = some seg → ¬ BasicEnds s seg) (hq : s.contact.stage = .quiet) :
    ∃ y u, exec (.controlPeriod t pitch roll) s = .next u ∧ CalmBegun t (stamped t s) y ∧
      u.gov = y.gov ∧ u.drive.heading = y.drive.heading ∧ u.guard.machine = s.guard.machine ∧
      FromRequest s y u := by
  have hbegun := calmBegun (t := t) h hends
  have hran := exec_controlPeriod_due (t := t) (pitch := pitch) (roll := roll) h.1 h.2.1
  have hcontact : (periodJudged t pitch roll (stamped t s)).contact =
      { s.contact with record := (calmTravelled t (stamped t s)).contact.record } := by
    have hleaves := congrArg State.contact hbegun.leaves
    exact hleaves.trans (calmTravelled_reflex t (stamped t s))
  obtain ⟨hmachine, -, hgov⟩ := settled_machine_wheels (periodTravel t (stamped t s)) (periodJudged t pitch roll (stamped t s))
  have hpose := (steady_settled (periodTravel t (stamped t s)) (periodJudged t pitch roll (stamped t s))).drive
  simp only [pose, Prod.mk.injEq] at hpose
  have hdriven := driving hran
  have hheading := congrArg Drive.heading hdriven.drive
  refine ⟨periodJudged t pitch roll (stamped t s), _, rfl, hbegun, hdriven.gov.trans hgov, hheading.trans hpose.2.2.2.1,
    (congrArg Guard.machine hdriven.guard).trans (hmachine.trans hbegun.machine), fun z r hrequest => ?_⟩
  have hstays : z.contact = (periodJudged t pitch roll (stamped t s)).contact := by
    have hz : z = (requestStep (periodJudged t pitch roll (stamped t s)).gov.cap (periodJudged t pitch roll (stamped t s))).1 := by
      rw [hrequest]
    rw [hz]
    simp
  obtain ⟨hsettled, hchoice⟩ := quiet_choice (by rw [hcontact]; exact hq) hrequest
  have hdriving := driving hran
  rw [hsettled, hchoice] at hdriving
  refine ⟨{ hdriving with }, fun hfree => ?_⟩
  rw [← hsettled] at hstays hfree ⊢
  rcases hfree with hstall | ha
  · exact (undisturbed_first hran (by rw [hstays, hcontact]; exact hstall)).1
  · exact undisturbed_idle hran ha (by rw [hstays, hcontact]; exact hq)

end Sys2Proof.Proofs
end

section
/-! SUPPORT. The end of a segment with no next slot (R52, R53), and the basic kinds' periods (O19). -/

namespace Sys2Proof.Proofs

open Sys2Proof.Machine Sys2Proof.Safety

/-! ### A segment is closed (R52, R93, R174) -/

/-- The Dock Unit after an end: its run is over, with the outcome of its cause. -/
def endedDock (cause : EndCause) (s : State) : Dock :=
  if s.dock.run = .none then s.dock
  else { s.dock with
    run := .none
    phase := none
    bumpPending := false
    record := { s.dock.record with
      outcome := endOutcome s.dock.run cause s.dock.record.outcome
      dockTime := endDockTime s.dock.run cause s.partTime s.dock.record.dockTime } }

theorem endDock_dock (cause : EndCause) (s : State) : (endDock cause s).dock = endedDock cause s := by
  unfold endDock endedDock
  split <;> rfl

theorem closeSegment_dock (seg : Segment) (cause : EndCause) (s : State) :
    (closeSegment seg cause s).dock = endedDock cause s := by
  have hreport (t : State) : (reportDocked cause t).dock = t.dock := by simp
  exact (hreport _).trans ((endDock_dock _ _).trans rfl)

theorem endedDock_run (cause : EndCause) (s : State) : (endedDock cause s).run = .none := by
  unfold endedDock
  split
  · assumption
  · rfl

/-- A segment whose end has been written and posted. -/
abbrev closed (seg : Segment) (cause : EndCause) (s : State) : State := postEnd seg cause (closeSegment seg cause s)

/-- What the end of a segment leaves, whatever the plan does next. -/
structure Closed (seg : Segment) (cause : EndCause) (s u : State) : Prop where
  slot : u.slotState seg.slot = endState cause ∧ u.word (slotBase seg.slot + 20) = cause.code
  others : ∀ (n : Slot) (k : Nat), n ≠ seg.slot → k < 32 → u.word (slotBase n + k) = s.word (slotBase n + k)
  drive : u.drive = { s.drive with suspended := false }
  track : u.track = idleTrack
  dock : u.dock = endedDock cause s
  frame : u.contact = s.contact ∧ u.guard = s.guard ∧ u.loops = s.loops ∧ u.gov = s.gov ∧ u.partTime = s.partTime ∧
    u.recv = s.recv ∧ u.timebase = s.timebase

theorem closed_closed (seg : Segment) (cause : EndCause) (s : State) : Closed seg cause s (closed seg cause s) := by
  have hword {a : Nat} (ha : 0x400 ≤ a) : (closed seg cause s).word a =
      (s.mem.writeAll (resultCells seg cause s.segmentMm (s.partTime - seg.start))).read a :=
    (postEnd_word _ _ _ (.inr (by omega))).trans (closeSegment_word _ _ _ (.inr ha))
  have hslot := slotBase_ge seg.slot
  obtain ⟨htrack, hdrive, -⟩ := closeSegment_owner seg cause s
  refine ⟨⟨(hword hslot).trans (resultCells_state _ _ _ _ _), (hword (by omega)).trans (resultCells_cause _ _ _ _ _)⟩,
    fun n k hn hk => ?_, by simp [closed, hdrive], by simp [closed, htrack], by simp [closed, closeSegment_dock], by simp [closed]⟩
  have hbase := slotBase_ge n
  exact (hword (by omega)).trans (Memory.read_writeAll_outside _ (resultCells_other hn hk))

theorem Closed.over {seg : Segment} {cause : EndCause} {s u : State} (h : Closed seg cause s u) (ha : u.plan.active = none) :
    Over u seg (endState cause) cause.code := by
  refine ⟨ha, h.slot.1, h.slot.2, by rw [h.track]; rfl, by rw [h.dock]; exact endedDock_run _ _, by rw [h.drive]⟩

/-- Steps that leave what the end of a segment wrote. -/
theorem Closed.after {seg : Segment} {cause : EndCause} {s x u : State} (h : Closed seg cause s x)
    (hwords : ∀ a, 0x400 ≤ a → u.word a = x.word a) (hdrive : u.drive = x.drive) (htrack : u.track = x.track)
    (hdock : u.dock = x.dock) (hframe : u.contact = x.contact ∧ u.guard = x.guard ∧ u.loops = x.loops ∧ u.gov = x.gov ∧
      u.partTime = x.partTime ∧ u.recv = x.recv ∧ u.timebase = x.timebase) : Closed seg cause s u := by
  obtain ⟨hcontact, hguard, hloops, hgov, hpart, hrecv, htime⟩ := hframe
  obtain ⟨xcontact, xguard, xloops, xgov, xpart, xrecv, xtime⟩ := h.frame
  have hslot := slotBase_ge
  refine ⟨⟨(hwords _ (hslot _)).trans h.slot.1, (hwords _ ?_).trans h.slot.2⟩, fun n k hn hk => (hwords _ ?_).trans (h.others n k hn hk),
    hdrive.trans h.drive, htrack.trans h.track, hdock.trans h.dock,
    ⟨hcontact.trans xcontact, hguard.trans xguard, hloops.trans xloops, hgov.trans xgov, hpart.trans xpart, hrecv.trans xrecv,
      htime.trans xtime⟩⟩
  · have := hslot seg.slot
    omega
  · have := hslot n
    omega

theorem Closed.becomeIdle {seg : Segment} {cause : EndCause} {s x : State} (h : Closed seg cause s x) :
    Closed seg cause s (becomeIdle x) :=
  h.after (fun _ ha => becomeIdle_word _ (.inr ha)) (by simp) (by simp) (by simp) (by simp)

theorem Closed.post {seg : Segment} {cause : EndCause} {s x : State} (h : Closed seg cause s x) (r : Report) :
    Closed seg cause s (post r x) :=
  h.after (fun _ ha => post_word _ _ (.inr (by omega))) (by simp) (by simp) (by simp) (by simp)

/-! ### No next slot (R53) -/

theorem slotOfWord_beyond {w : Word} (h : 47 < w.toNat) : slotOfWord (clampNext w) = none := by
  have hcount : Config.slotCount = 48 := rfl
  have hclamp : clampNext w = 255 := if_neg (by omega)
  rw [hclamp]
  rfl

/-- An end with no next slot leaves the plan IDLE. -/
theorem settleEnd_last {s : State} {seg : Segment} {cause : EndCause} (ha : s.plan.active = some seg)
    (hnext : 47 < seg.fields.next.toNat) (hc : cause.continuation seg.fields.onContact? = .advance) :
    settleEnd cause s = (post (.planEnd seg.slot seg.fields.tag cause) (becomeIdle (closed seg cause s)), none) := by
  unfold settleEnd continuePlan
  rw [ha]
  simp only [hc, slotOfWord_beyond hnext]

theorem endActive_last {s : State} {seg : Segment} {cause : EndCause} (ha : s.plan.active = some seg)
    (hnext : 47 < seg.fields.next.toNat) (hc : cause.continuation seg.fields.onContact? = .advance) :
    endActive cause s = post (.planEnd seg.slot seg.fields.tag cause) (becomeIdle (closed seg cause s)) := by
  rw [endActive, settleEnd_last ha hnext hc]
  rfl

theorem last_closed (seg : Segment) (cause : EndCause) (s : State) :
    Closed seg cause s (post (.planEnd seg.slot seg.fields.tag cause) (becomeIdle (closed seg cause s))) :=
  ((closed_closed seg cause s).becomeIdle).post _

theorem last_plan (seg : Segment) (cause : EndCause) (s : State) :
    (post (.planEnd seg.slot seg.fields.tag cause) (becomeIdle (closed seg cause s))).plan = idled s.plan := by
  have hpost (r : Report) (x : State) : (post r x).plan = x.plan := by simp
  have hend : (closed seg cause s).plan = (closeSegment seg cause s).plan := by simp [closed]
  rw [hpost, becomeIdle_idled, hend, closeSegment_plan]
  rfl

/-- The end of the active segment, with no next slot. -/
theorem endActive_ends {s : State} {seg : Segment} {cause : EndCause} (ha : s.plan.active = some seg)
    (hnext : 47 < seg.fields.next.toNat) (hc : cause.continuation seg.fields.onContact? = .advance) :
    Closed seg cause s (endActive cause s) ∧ (endActive cause s).plan = idled s.plan := by
  rw [endActive_last ha hnext hc]
  exact ⟨last_closed _ _ _, last_plan _ _ _⟩

/-- A segment that step 5 left over is over after the period. -/
theorem over_undisturbed {z u : State} {seg : Segment} {a b : Word} (h : Over z seg a b) (k : Undisturbed z u) :
    Over u seg a b := by
  obtain ⟨ha, hstate, hcause, htrack, hrun, hsuspended⟩ := h
  have hslot := slotBase_ge seg.slot
  refine ⟨by rw [k.plan, ha], (k.words _ ?_ ?_ ?_).trans hstate, (k.words _ ?_ ?_ ?_).trans hcause, by rw [k.track, htrack],
    by rw [k.dock, hrun], by rw [k.suspended, hsuspended]⟩ <;> omega

/-! ### A basic kind that runs on (R81, R84, R85, R87) -/

theorem rollPair_basic {x s u : State} {f : Fields} (hk : f.kind = 1) (hplan : x.plan = s.plan)
    (href : x.drive.headingRef = s.drive.headingRef) (hheading : x.drive.heading = u.drive.heading) :
    x.rollPair f u.gov.cap = basicPair s u f := by
  have hhold : x.headingHold x.drive.headingRef = holdTo s.plan.applied s.drive.headingRef u.drive.heading := by
    rw [State.headingHold, clampI_eq (by omega), hplan, href, hheading]
    rfl
  have hreversed : (f.reversed = true) = ¬ f.reverse = 0 := by simp [Fields.reversed]
  rw [basicPair, if_pos hk]
  simp only [State.rollPair, hhold, minN_eq, hreversed, ite_not]
  rfl

theorem spinPair_spin (speed cap : Nat) (angle : Int) : spinPair speed cap angle = spin speed cap angle := by
  simp only [spinPair, spin, minN_eq]
  by_cases h : angle < 0
  · rw [if_neg (by omega), if_pos h]
  · rw [if_pos (by omega), if_neg h]

theorem turnPair_basic {x s u : State} {f : Fields} (hk : f.kind = 2) (hplan : x.plan = s.plan) :
    x.turnPair f u.gov.cap = basicPair s u f := by
  have hne : ¬ f.kind = 1 := by
    rw [hk]
    decide
  rw [basicPair, if_neg hne, if_pos hk, State.turnPair]
  by_cases hr : f.radius.toInt = 0
  · rw [if_pos (show f.radiusMm = 0 from hr), if_pos hr]
    exact spinPair_spin _ _ _
  · rw [if_neg (show ¬ f.radiusMm = 0 from hr), if_neg hr]
    have hd : trunc ((minN f.speedMm u.gov.cap : Nat) * x.plan.applied.trackWidth) (2 * (f.radiusMm.natAbs : Int)) =
        Int.tdiv ((min f.speed.toNat u.gov.cap : Nat) * s.plan.applied.trackWidth) (2 * f.radius.toInt.natAbs) := by
      rw [minN_eq, hplan]
      rfl
    rw [State.arcPair]
    dsimp only
    rw [hd, minN_eq]
    by_cases hpos : 0 < f.radius.toInt
    · rw [if_pos (show 0 < f.radiusMm from hpos), if_pos hpos]
      rfl
    · rw [if_neg (show ¬ 0 < f.radiusMm from hpos), if_neg hpos, sub_neg_eq_add, ← sub_eq_add_neg]
      rfl

/-- The request of a basic kind (R72, R79). -/
theorem requestStep_basic {x s u : State} {seg : Segment} (ha : x.plan.active = some seg)
    (hk : seg.fields.kind = 1 ∨ seg.fields.kind = 2 ∨ seg.fields.kind = 3) (hplan : x.plan = s.plan)
    (href : x.drive.headingRef = s.drive.headingRef) (hheading : x.drive.heading = u.drive.heading) :
    requestStep u.gov.cap x =
      (x, if x.drive.suspended then .nothing else .pair (basicPair s u seg.fields) false) := by
  have hrequest : kindRequest false u.gov.cap x = (x, x.basicRequest (basicPair s u seg.fields)) := by
    unfold kindRequest
    rw [ha]
    rcases hk with hk | hk | hk
    · simp only [kind?_iff (k := .roll).2 hk, rollPair_basic hk hplan href hheading]
    · simp only [kind?_iff (k := .turn).2 hk, turnPair_basic hk hplan]
    · have hpair : basicPair s u seg.fields = (0, 0) := by
        rw [basicPair, hk]
        rfl
      simp only [kind?_iff (k := .pause).2 hk, hpair]
  unfold requestStep
  rw [hrequest]
  unfold State.basicRequest
  cases x.drive.suspended <;> rfl

/-- The run's accumulators after the period's choice (R78). -/
theorem calm_run {t : Capture} {s y : State} {seg : Segment} (h : CalmBegun t (stamped t s) y) (ha : s.plan.active = some seg) :
    y.drive.runDist = runDistance s ∧ y.drive.runTurn = runAngle s ∧ y.drive.runTime = runTimeMs s ∧
      y.drive.segDist = travelled s s.drive.segDist ∧ y.drive.suspended = s.drive.suspended ∧ y.plan = s.plan ∧
      y.drive.headingRef = s.drive.headingRef := by
  have hrun := periodTravelled_run (s := stamped t s) ha t
  have href : (periodTravelled t (stamped t s)).drive.headingRef = s.drive.headingRef := by
    unfold periodTravelled odometryStep
    dsimp only
    split <;> rfl
  obtain ⟨hdist, hturn, htime, hseg, hsuspended⟩ := hrun
  rw [h.leaves]
  exact ⟨hdist, hturn, htime, hseg, hsuspended, rfl, href⟩

/-- A basic kind's period without an end (R81, R84, R85, R87). -/
theorem rolls_on {t : Capture} {pitch roll : Byte} {s : State} {seg : Segment} (h : CalmPeriod s pitch roll)
    (ha : s.plan.active = some seg) (hk : seg.fields.kind = 1 ∨ seg.fields.kind = 2 ∨ seg.fields.kind = 3)
    (hq : s.contact.stage = .quiet) (hends : ¬ BasicEnds s seg) :
    ∃ u, exec (.controlPeriod t pitch roll) s = .next u ∧ u.guard.machine = .armed ∧
      u.drive.runDist = runDistance s ∧ u.drive.runTurn = runAngle s ∧ u.drive.runTime = runTimeMs s ∧
      u.drive.segDist = travelled s s.drive.segDist ∧
      (s.drive.suspended = false → Takes s u (basicPair s u seg.fields)) ∧ (s.drive.suspended = true → AtRest u) ∧
      (s.contact.stall = ⟨none, none⟩ → u.plan.active = some seg) := by
  have hnone : ∀ g, s.plan.active = some g → ¬ BasicEnds s g := fun g hg => by
    rw [ha] at hg
    cases hg
    exact hends
  obtain ⟨y, u, hexec, hbegun, hgov, hheading, hmachine, hruns⟩ := exec_calm_quiet (t := t) h hnone hq
  obtain ⟨hdist, hturn, htime, hseg, hsuspended, hplan, href⟩ := calm_run hbegun ha
  have hactive : y.plan.active = some seg := by rw [hplan, ha]
  have hrequest := requestStep_basic (u := u) hactive hk hplan href hheading.symm
  rw [hgov, hsuspended] at hrequest
  obtain ⟨hdriving, hundisturbed⟩ := hruns y _ hrequest
  have harmed : y.guard.machine = .armed := hbegun.machine.trans h.2.2.1
  refine ⟨u, hexec, hmachine.trans h.2.2.1, by rw [hdriving.drive]; exact hdist, by rw [hdriving.drive]; exact hturn,
    by rw [hdriving.drive]; exact htime, by rw [hdriving.drive]; exact hseg, fun hs => ?runs, fun hs => ?rests, fun hstall => ?stays⟩
  case runs =>
    rw [hs, if_neg Bool.false_ne_true] at hdriving
    exact hdriving.takes hbegun.wheel (choose_pair_request harmed (by rw [hactive]; rfl) (hsuspended.trans hs) _ _ _)
  case rests =>
    rw [hs, if_pos rfl, choose_rest (.inl rfl)] at hdriving
    exact hdriving.rests rfl
  case stays => rw [(hundisturbed (.inl hstall)).plan, hactive]

/-! ### A basic kind's end in step 3 (R71, R80) -/

/-- The end of a basic kind: TIMEOUT before REACHED. -/
abbrev basicCause (s : State) (seg : Segment) : EndCause := if TimeUp s seg then .timeout else .reached

theorem periodEnded_ends {t : Capture} {s : State} {seg : Segment}
    (hcalm : ¬ (Strays s ∧ s.plan.applied.escapeLimit ≤ min 4294967295 (s.guard.escape + (meanTravel s).natAbs) / 256))
    (ha : s.plan.active = some seg) (hends : BasicEnds s seg) :
    periodEnded t s = endActive (basicCause s seg) (calmTravelled t s) := by
  obtain ⟨g, hleaves, -⟩ := calmTravelled_leaves t s
  have hplan : (calmTravelled t s).plan = s.plan := by rw [hleaves]
  have hpart : (calmTravelled t s).partTime = s.partTime := by rw [hleaves]
  have hdrive : (calmTravelled t s).drive = (periodTravelled t s).drive := by rw [calmTravelled_eq]
  obtain ⟨hdist, hturn, htime, -, hsuspended⟩ := periodTravelled_run ha t
  rw [← hdrive] at hdist hturn htime hsuspended
  rw [periodEnded_eq, travelStep_calm hcalm]
  unfold stepEnds
  rw [hplan, ha]
  simp only [basicEnd_some hpart hdist hturn htime hsuspended hends]

/-- The step after such an end: nothing is active, nothing is requested. -/
theorem ended_settles {t : Capture} {pitch roll : Byte} {s z : State} (hz : periodJudged t pitch roll s = z)
    (ha : z.plan.active = none) (hq : z.contact.stage = .quiet) :
    periodSettled t pitch roll s = z ∧ periodChoice t pitch roll s = (.zero, (0, 0)) := by
  obtain ⟨hsettled, hchoice⟩ := quiet_choice (t := t) (pitch := pitch) (roll := roll) (s := s) (z := z) (r := .nothing)
    (by rw [hz]; exact hq) (by rw [hz]; exact requestStep_idle ha _)
  exact ⟨hsettled, hchoice.trans (choose_rest (.inl rfl) _)⟩

theorem basicCause_codes (s : State) (seg : Segment) :
    endState (basicCause s seg) = (if TimeUp s seg then slotCut else slotDone) ∧
      (basicCause s seg).code = (if TimeUp s seg then 6 else 1) ∧
      ∀ o, (basicCause s seg).continuation o = .advance := by
  unfold basicCause
  split <;> exact ⟨rfl, rfl, fun _ => rfl⟩

/-- A state over which the Guard's and the governor's steps pass stays over. -/
theorem over_judged {x : State} {seg : Segment} {a b : Word} (h : Over x seg a b) (g : Governor) (d : Guard) :
    Over { x with gov := g, guard := d } seg a b := h

theorem rolls_over {t : Capture} {pitch roll : Byte} {s : State} {seg : Segment} (h : CalmPeriod s pitch roll)
    (ha : s.plan.active = some seg) (hq : s.contact.stage = .quiet) (hends : BasicEnds s seg) (hnext : seg.fields.next = 255) :
    ∃ u, exec (.controlPeriod t pitch roll) s = .next u ∧ u.guard.machine = .armed ∧ u.plan.state = .idle ∧
      Over u seg (if TimeUp s seg then slotCut else slotDone) (if TimeUp s seg then 6 else 1) ∧ AtRest u := by
  obtain ⟨hr, hd, hm, hclass, htilt⟩ := h
  have hran := exec_controlPeriod_due (t := t) (pitch := pitch) (roll := roll) hr hd
  have hcalm : ¬ (Strays (stamped t s) ∧ (stamped t s).plan.applied.escapeLimit ≤
      min 4294967295 ((stamped t s).guard.escape + (meanTravel (stamped t s)).natAbs) / 256) := by
    rintro ⟨⟨-, hrecovery, hout⟩, -⟩
    rcases hclass with hne | hrec
    · exact hne hout
    · exact absurd (hrec.symm.trans hrecovery) nofun
  have hended := periodEnded_ends (t := t) hcalm (s := stamped t s) ha hends
  obtain ⟨g, hleaves, hmachine, hstart⟩ := calmTravelled_leaves t (stamped t s)
  obtain ⟨hstate, hcode, hadvance⟩ := basicCause_codes s seg
  obtain ⟨hclosed, hplan⟩ := endActive_ends (s := calmTravelled t (stamped t s)) (seg := seg)
    (cause := basicCause (stamped t s) seg) (by rw [hleaves]; exact ha) (by rw [hnext]; decide) (hadvance _)
  obtain ⟨hcontact, hguard, -, -, hpart, -⟩ := hclosed.frame
  generalize hx : endActive (basicCause (stamped t s) seg) (calmTravelled t (stamped t s)) = x at *
  have hguards : x.guard.machine = s.guard.machine ∧ x.guard.tiltStart = s.guard.tiltStart ∧ x.partTime = s.partTime ∧
      x.plan.applied = s.plan.applied := by
    rw [hguard, hpart, hplan, hleaves]
    exact ⟨hmachine, hstart, rfl, rfl⟩
  obtain ⟨xmachine, xstart, xpart, xapplied⟩ := hguards
  obtain ⟨start, htilted⟩ := judgeTilt_calm (s := { x with gov := x.governed pitch roll }) (by
    rw [xapplied, xstart, xpart]
    exact htilt.imp (fun hlow => lt_of_eq_of_lt (slopeOf_eq _ _) hlow) id)
  have hjudged : periodJudged t pitch roll (stamped t s) =
      { x with gov := x.governed pitch roll, guard := { x.guard with tiltStart := start } } := by
    rw [← htilted]
    unfold periodJudged periodGoverned
    rw [hended]
  have hnone : x.plan.active = none := by rw [hplan]; rfl
  have hstage : x.contact.stage = .quiet := by
    rw [hcontact, calmTravelled_reflex]
    exact hq
  obtain ⟨hsettled, hchoice⟩ := ended_settles hjudged hnone hstage
  have hdriving := driving hran
  have hundisturbed := undisturbed_idle hran (by rw [hsettled]; exact hnone) (by rw [hsettled]; exact hstage)
  rw [hsettled] at hdriving hundisturbed
  have hover : Over x seg (endState (basicCause s seg)) (basicCause s seg).code := hclosed.over hnone
  rw [hstate, hcode] at hover
  refine ⟨_, rfl, ?machine, ?state, over_undisturbed (over_judged hover _ _) hundisturbed, hdriving.rests (by rw [hchoice])⟩
  case machine =>
    rw [hundisturbed.guard]
    exact xmachine.trans hm
  case state =>
    rw [hundisturbed.plan]
    show x.plan.state = .idle
    rw [hplan]
    rfl

/-- Settles O19: the basic kinds run on in step 5 or end in step 3. -/
theorem rollDrives : Obligations.RollDrives := by
  unfold Obligations.RollDrives
  intro t pitch roll s seg h ha hk hq
  exact ⟨fun hends => rolls_on h ha hk hq hends, fun hends hnext => rolls_over h ha hq hends hnext⟩

end Sys2Proof.Proofs
end

section
/-! SUPPORT. Track Steering in a calm period (O46). -/

namespace Sys2Proof.Proofs

open Sys2Proof.Machine Sys2Proof.Safety

/-! ### Stage 1 (R92, R94, R95) -/

theorem stale_iff (s : State) (r : SubRecord) : r.stale s.partTime = true ↔ Stale s r := by
  unfold SubRecord.stale Stale
  cases r.lastFrame <;> simp

theorem wireHold_iff (s : State) (l r : SubRecord) : (l.stale s.partTime || r.stale s.partTime || decide (l.side = .unknown) ||
    decide (r.side = .unknown) || decide (l.amplitude.toNat + r.amplitude.toNat < s.plan.applied.ampMin)) = true ↔
      WireHold s l r := by
  simp only [Bool.or_eq_true, stale_iff, decide_eq_true_eq, or_assoc]

/-- What stage 1 reads, by the wire error. -/
def readingOf : Option Int → WireReading
  | none => .mixed
  | some e => .error e

theorem readWire_hold {s : State} {l r : SubRecord} (side : FollowSide) (h : WireHold s l r) :
    readWire side s.plan.applied.ampMin s.partTime l r = .hold := if_pos ((wireHold_iff s l r).2 h)

theorem readWire_known {s : State} {l r : SubRecord} (side : FollowSide) (h : ¬ WireHold s l r) :
    readWire side s.plan.applied.ampMin s.partTime l r = readingOf (wireError side l r) := by
  have hsides : l.side ≠ .unknown ∧ r.side ≠ .unknown := by
    constructor <;> intro hunknown <;> exact h (by simp [WireHold, hunknown])
  refine (if_neg (mt (wireHold_iff s l r).1 h)).trans ?_
  unfold wireError
  cases side <;> cases hl : l.side <;> cases hr : r.side <;> simp_all [readingOf, straddleError] <;> rfl

theorem wireReading_eq {s x : State} {n : Loop} {side : FollowSide} (hloop : s.track.loop = some n)
    (hside : s.track.side = some side) (htrack : x.track = s.track) (hloops : x.loops = s.loops) (hplan : x.plan = s.plan)
    (hpart : x.partTime = s.partTime) : x.wireReading =
      readWire side s.plan.applied.ampMin s.partTime (s.loops.recs.get n).coils.left (s.loops.recs.get n).coils.right := by
  unfold State.wireReading
  rw [htrack, hloop, hside, hloops, hplan, hpart]

/-! ### Stages 3 to 5 (R97, R98, R99) -/

theorem limited_clamped (accel : Nat) (x old : Int) : limited accel (clampSpeed x) old = limited accel x old := by
  have hclamp : max (-800) (min 800 (clampSpeed x)) = max (-800) (min 800 x) := by
    rw [clampSpeed_eq]
    omega
  unfold limited
  rw [hclamp]

/-- A request clamped beforehand leads to the same targets. -/
theorem takes_clamped {s u : State} {a b : Int} (h : Takes s u (clampSpeed a, clampSpeed b)) : Takes s u (a, b) := by
  simpa only [Takes, limited_clamped] using h

theorem takes_rests {s u : State} {p : Pair} (h : AtRest u) (hcap : u.gov.cap = 0) : Takes s u p := by
  simp only [Takes, hcap, if_true]
  exact h

theorem steerPair_steered {s x : State} {cap : Nat} (hcap : cap ≠ 0) (htrack : x.track = s.track) (hplan : x.plan = s.plan)
    (e : Int) : x.steerPair cap e = (clampSpeed (steered s.plan.applied s.track.speed cap e s.track.ePrev).1,
      clampSpeed (steered s.plan.applied s.track.speed cap e s.track.ePrev).2) := by
  unfold State.steerPair
  rw [if_neg hcap, htrack, hplan]
  simp only [steerDelta, steerMean, clampI_eq (show -(s.plan.applied.dMax : Int) ≤ s.plan.applied.dMax by omega), minN_eq]
  rfl

/-! ### The active kind's part of step 5 (R71, R72, R91) -/

theorem requestStep_pair {cap : Nat} {x z : State} {p : Pair} {b : Bool} (h : kindRequest false cap x = (z, .pair p b)) :
    requestStep cap x = (z, .pair p b) := by
  unfold requestStep
  rw [h]

theorem requestStep_ended {cap : Nat} {x z : State} (h : kindRequest false cap x = (z, .ended)) (ha : z.plan.active = none) :
    requestStep cap x = (z, .nothing) := by
  unfold requestStep
  rw [h]
  simp [kindRequest, ha]

/-- The kind ends its segment, and no slot follows. -/
theorem FromRequest.ends {s y x u : State} {seg : Segment} {cause : EndCause} (h : FromRequest s y u)
    (hend : kindRequest false y.gov.cap y = (endActive cause x, .ended)) (ha : x.plan.active = some seg)
    (hnext : seg.fields.next = 255) (hc : ∀ o, cause.continuation o = .advance) :
    u.plan.state = .idle ∧ Over u seg (endState cause) cause.code ∧ AtRest u ∧ u.dock = endedDock cause x := by
  obtain ⟨hclosed, hplan⟩ := endActive_ends (cause := cause) ha (by rw [hnext]; decide) (hc _)
  have hnone : (endActive cause x).plan.active = none := by rw [hplan]; rfl
  obtain ⟨hdriving, hundisturbed⟩ := h _ _ (requestStep_ended hend hnone)
  have hsame := hundisturbed (.inr hnone)
  refine ⟨?_, over_undisturbed (hclosed.over hnone) hsame, hdriving.rests (by rw [choose_rest (.inl rfl)]),
    hsame.dock.trans hclosed.dock⟩
  rw [hsame.plan, hplan]
  rfl

/-- The kind hands a pair, and its segment runs on. -/
theorem FromRequest.hands {s y z u : State} {seg : Segment} {p q : Pair} {b : Bool} (h : FromRequest s y u)
    (hpair : kindRequest false y.gov.cap y = (z, .pair p b)) (ha : z.plan.active = some seg)
    (hm : z.guard.machine = .armed) (hs : z.drive.suspended = false) (hstall : s.contact.stall = ⟨none, none⟩)
    (hw : ∀ i, (z.drive.wheels.get i).target = (s.drive.wheels.get i).target)
    (hp : z.gov.cap ≠ 0 → p = q) :
    Undisturbed z u ∧ Takes s u q ∧ (0 < u.gov.cap → u.drive.choice = if b then .backoff else .kind) := by
  obtain ⟨hdriving, hundisturbed⟩ := h _ _ (requestStep_pair hpair)
  have hchoose := choose_pair hm (by rw [ha]; rfl) hs z.gov.cap p b
  refine ⟨hundisturbed (.inl hstall), hdriving.takes hw ?_, fun hcap => ?_⟩
  · rw [hchoose]
    split
    · rfl
    · exact hp ‹_›
  · rw [hdriving.gov] at hcap
    have hchoice := congrArg Drive.choice hdriving.drive
    rw [hchoose, if_neg (by omega)] at hchoice
    exact hchoice

/-! ### TRACK and DOCK (R91, R101, R175) -/

theorem timeUp_calm {t : Capture} {s y : State} (h : CalmBegun t (stamped t s) y) (seg : Segment) :
    y.timeUp seg = true ↔ TimeUp s seg := by
  rw [← timeUp_iff s seg, h.leaves]
  rfl

/-- A steered kind's time limit ends it (R80). -/
theorem kindRequest_timeout {y : State} {seg : Segment} (ha : y.plan.active = some seg)
    (hk : seg.fields.kind = 4 ∨ seg.fields.kind = 5 ∨ seg.fields.kind = 6) (hup : y.timeUp seg = true) (cap : Nat) :
    kindRequest false cap y = (endActive .timeout y, .ended) := by
  unfold kindRequest
  rw [ha]
  rcases hk with hk | hk | hk
  · simp [kind?_iff (k := .track).2 hk, trackRequest, hup]
  · simp [kind?_iff (k := .dock).2 hk, dockRequest, hup]
  · simp [kind?_iff (k := .undock).2 hk, undockRequest, hup]

section
variable {y : State} {seg : Segment} (ha : y.plan.active = some seg) (hup : ¬ y.timeUp seg = true)
  (hs : y.drive.suspended = false)
include ha hup hs

theorem kindRequest_track (hk : seg.fields.kind = 4) (cap : Nat) : kindRequest false cap y =
    if 0 < seg.fields.distance.toInt ∧ seg.fields.distance.toInt ≤ (y.drive.runDist / 256 : Nat)
      then (endActive .reached y, .ended) else steer false cap y := by
  have hreached : y.trackReached seg.fields = true ↔
      0 < seg.fields.distance.toInt ∧ seg.fields.distance.toInt ≤ (y.drive.runDist / 256 : Nat) := by
    have hmm : seg.fields.distanceMm = seg.fields.distance.toInt.toNat := rfl
    simp only [State.trackReached, hmm, mmOf, Bool.and_eq_true, decide_eq_true_eq]
    omega
  unfold kindRequest
  rw [ha]
  simp only [kind?_iff (k := .track).2 hk, trackRequest, hup, hs, Bool.not_false, Bool.true_and, Bool.false_eq_true, if_false]
  exact if_congr hreached rfl rfl

theorem kindRequest_dock (hk : seg.fields.kind = 5) (cap : Nat) : kindRequest false cap y = dockPhaseRequest false cap y := by
  unfold kindRequest
  rw [ha]
  simp [kind?_iff (k := .dock).2 hk, dockRequest, hup, hs]

end

/-! ### The Dock Unit's distances in a period (R175, R179) -/

/-- The Dock Unit after the travel of a period. -/
def advancedDock (s : State) : Dock :=
  match s.dock.run, s.dock.phase with
  | .dock _, some .near => { s.dock with near := travelled s s.dock.near }
  | .dock _, some .backoff => { s.dock with back := if s.drive.choice = .backoff then travelled s s.dock.back else s.dock.back }
  | _, _ => s.dock

theorem calmTravelled_dock (t : Capture) (s : State) : (calmTravelled t s).dock = advancedDock s := by
  have hdock : (calmTravelled t s).dock = (dockTravel (periodTravel t s) (periodTravelled t s)).dock := by
    unfold calmTravelled
    dsimp only
    rw [reflexTravel_eq_update]
  have hsame : (periodTravelled t s).dock = s.dock := by rw [periodTravelled_eq_update]
  have hchoice : (periodTravelled t s).drive.choice = s.drive.choice := by
    unfold periodTravelled odometryStep
    dsimp only
    split <;> rfl
  have htravelled (d : Nat) : satAdd distanceTop d (periodTravel t s).mean.natAbs = travelled s d := by
    rw [satAdd_eq_min, periodTravel_eq]
    rfl
  rw [hdock]
  unfold dockTravel advancedDock
  rw [hsame]
  cases hrun : s.dock.run with
  | none => exact hsame
  | undock a => exact hsame
  | dock a =>
    cases hphase : s.dock.phase with
    | none => exact hsame
    | some p =>
      cases p with
      | approach => exact hsame
      | near => simp only [htravelled, hrun, hphase]
      | backoff =>
        simp only [htravelled, hchoice, hrun, hphase]
        split
        · rfl
        · rw [hsame, ← hrun, ← hphase]
      | reverse => exact hsame
      | turn => exact hsame

/-! ### Steering (R91, R97, R98, R99) -/

theorem steer_hold {x : State} (h : x.wireReading = .hold) (cap : Nat) : steer false cap x =
    if x.plan.applied.weakLimit ≤ x.track.weak + 1 then (endActive .wireWeak x, .ended)
    else handPair cap x.track.ePrev (x.track.weak + 1) x := by
  unfold steer
  rw [h]
  simp

theorem steer_mixed {x : State} (h : x.wireReading = .mixed) (cap : Nat) :
    steer false cap x = (endActive .flipped x, .ended) := by
  unfold steer
  rw [h]
  rfl

theorem steer_error {x : State} {e : Int} (h : x.wireReading = .error e) (cap : Nat) :
    steer false cap x = handPair cap (e - x.track.offset) 0 x := by
  unfold steer
  rw [h]

/-- Track Steering after a pair is handed. -/
abbrev handed (tr : Track) (e : Int) (weak : Nat) : Track := { tr with e := e, ePrev := e, weak := weak, published := weak }

/-- A steered pair is handed, and the segment runs on. -/
theorem FromRequest.steers {s y x u : State} {seg : Segment} {e : Int} {weak : Nat} (h : FromRequest s y u)
    (hpair : kindRequest false y.gov.cap y = handPair y.gov.cap e weak x) (ha : x.plan.active = some seg)
    (hplan : x.plan = s.plan) (hm : x.guard.machine = .armed) (hs : x.drive.suspended = false) (hgov : x.gov = y.gov)
    (hstall : s.contact.stall = ⟨none, none⟩)
    (hw : ∀ i, (x.drive.wheels.get i).target = (s.drive.wheels.get i).target) (hu : u.gov = y.gov) :
    u.plan.active = some seg ∧ u.dock = x.dock ∧ u.notice = x.notice ∧ u.track = handed x.track e weak ∧
      Takes s u (steered s.plan.applied x.track.speed u.gov.cap e x.track.ePrev) := by
  obtain ⟨hsame, htakes, -⟩ := h.hands (seg := seg)
    (q := (clampSpeed (steered s.plan.applied x.track.speed u.gov.cap e x.track.ePrev).1,
      clampSpeed (steered s.plan.applied x.track.speed u.gov.cap e x.track.ePrev).2)) hpair ha hm hs hstall hw fun hcap => by
    have hcap' : y.gov.cap ≠ 0 := hgov ▸ hcap
    rw [hu]
    exact steerPair_steered (s := { s with track := x.track }) (x := x) hcap' rfl hplan e
  exact ⟨by rw [hsame.plan]; exact ha, hsame.dock, hsame.notice, hsame.track, takes_clamped htakes⟩

/-! ### The obligation -/

theorem CalmBegun.blocks {t : Capture} {s y : State} (h : CalmBegun t (stamped t s) y) : y.track = s.track ∧
    y.loops = s.loops ∧ y.partTime = s.partTime ∧ y.dock = advancedDock s ∧ y.notice = s.notice := by
  rw [h.leaves]
  exact ⟨rfl, rfl, rfl, (calmTravelled_dock t (stamped t s)).trans rfl, rfl⟩

theorem not_basicEnds {s : State} {seg : Segment} (hk : seg.fields.kind = 4 ∨ seg.fields.kind = 5 ∨ seg.fields.kind = 6) :
    ¬ BasicEnds s seg := by
  rintro ⟨hbasic, -⟩
  rcases hk with hk | hk | hk <;> rw [hk] at hbasic <;> revert hbasic <;> decide

/-- The segment whose kind is being steered (R91, R175). -/
abbrev Steers (s : State) (seg : Segment) : Prop :=
  seg.fields.kind = 4 ∧ (seg.fields.distance.toInt ≤ 0 ∨ (runDistance s / 256 : Nat) < seg.fields.distance.toInt) ∨
    seg.fields.kind = 5 ∧ s.dock.run = .dock seg.activation ∧ s.dock.bumpPending = false ∧
      (s.dock.phase = some .approach ∨
        s.dock.phase = some .near ∧ travelled s s.dock.near / 256 ≤ s.plan.applied.dockReach)

theorem dockPhaseRequest_steers {x : State} (hb : x.dock.bumpPending = false)
    (hphase : x.dock.phase = some .approach ∨ x.dock.phase = some .near ∧ x.dock.near / 256 ≤ x.plan.applied.dockReach)
    (cap : Nat) : dockPhaseRequest false cap x = steer false cap x := by
  unfold dockPhaseRequest
  rw [hb, if_neg Bool.false_ne_true]
  rcases hphase with hphase | ⟨hphase, hnear⟩
  · rw [hphase]
  · rw [hphase]
    exact if_neg (Nat.not_lt.2 hnear)

/-- The state that step 5 begins with in a period that steers. -/
structure SteersFrom (s y : State) (seg : Segment) : Prop where
  active : y.plan.active = some seg
  plan : y.plan = s.plan
  track : y.track = s.track
  loops : y.loops = s.loops
  part : y.partTime = s.partTime
  dock : y.dock = advancedDock s
  suspended : y.drive.suspended = false
  run : y.drive.runDist = runDistance s
  timeUp : y.timeUp seg = true ↔ TimeUp s seg

theorem CalmBegun.steersFrom {t : Capture} {s y : State} {seg : Segment} (h : CalmBegun t (stamped t s) y)
    (ha : s.plan.active = some seg) (hs : s.drive.suspended = false) : SteersFrom s y seg := by
  obtain ⟨hdist, -, -, -, hsuspended, hplan, -⟩ := calm_run h ha
  obtain ⟨htrack, hloops, hpart, hdock, -⟩ := h.blocks
  exact ⟨by rw [hplan, ha], hplan, htrack, hloops, hpart, hdock, hsuspended.trans hs, hdist, timeUp_calm h seg⟩

theorem SteersFrom.steer {s y : State} {seg : Segment} (h : SteersFrom s y seg) (hup : ¬ TimeUp s seg) (hsteers : Steers s seg)
    (cap : Nat) : kindRequest false cap y = steer false cap y := by
  have hnot : ¬ y.timeUp seg = true := mt h.timeUp.1 hup
  rcases hsteers with ⟨hk, hdist⟩ | ⟨hk, hrun, hbump, hphase⟩
  · rw [kindRequest_track h.active hnot h.suspended hk, h.run, if_neg (by omega)]
  · rw [kindRequest_dock h.active hnot h.suspended hk]
    refine dockPhaseRequest_steers ?_ ?_ cap
    · rw [h.dock]
      unfold advancedDock
      split <;> exact hbump
    · rw [h.dock, h.plan]
      unfold advancedDock
      rcases hphase with hphase | ⟨hphase, hnear⟩
      · rw [hrun, hphase]
        exact .inl hphase
      · rw [hrun, hphase]
        exact .inr ⟨hphase, hnear⟩

theorem SteersFrom.reading {s y : State} {seg : Segment} (h : SteersFrom s y seg) {n : Loop} {side : FollowSide}
    (hloop : s.track.loop = some n) (hside : s.track.side = some side) : y.wireReading =
      readWire side s.plan.applied.ampMin s.partTime (s.loops.recs.get n).coils.left (s.loops.recs.get n).coils.right :=
  wireReading_eq hloop hside h.track h.loops h.plan h.part

/-- Settles O46: by the time limit, the distance, and what stage 1 reads. -/
theorem trackSteering : Obligations.TrackSteering := by
  unfold Obligations.TrackSteering
  intro t pitch roll s seg n side h hstall hq hs ha hk hloop hside l r steers
  have hkind : seg.fields.kind = 4 ∨ seg.fields.kind = 5 ∨ seg.fields.kind = 6 := hk.imp id .inl
  obtain ⟨y, u, hexec, hbegun, hgov, -, hmachine, hruns⟩ := exec_calm_quiet (t := t) h (fun g hg => by
    rw [ha] at hg
    cases hg
    exact not_basicEnds hkind) hq
  have hfrom := hbegun.steersFrom ha hs
  have harmed : y.guard.machine = .armed := hbegun.machine.trans h.2.2.1
  have hreading := hfrom.reading hloop hside
  refine ⟨u, hexec, hmachine.trans h.2.2.1, ?_⟩
  intro ends goesOn
  have hends {slot code : Word} {cause : EndCause} (hcause : endState cause = slot ∧ cause.code = code)
      (hc : ∀ o, cause.continuation o = .advance) (hend : kindRequest false y.gov.cap y = (endActive cause y, .ended)) :
      ends slot code := fun hnext => by
    obtain ⟨hstate, hover, hrest, -⟩ := hruns.ends hend hfrom.active hnext hc
    rw [hcause.1, hcause.2] at hover
    exact ⟨hstate, hover, hrest⟩
  have hgoes {e : Int} {weak : Nat} (hpair : kindRequest false y.gov.cap y = handPair y.gov.cap e weak y) : goesOn e weak := by
    obtain ⟨hactive, -, -, htrack, htakes⟩ := hruns.steers hpair hfrom.active hfrom.plan harmed hfrom.suspended rfl hstall
      hbegun.wheel hgov
    rw [hfrom.track] at htrack htakes
    exact ⟨hactive, htrack, htakes⟩
  refine ⟨fun hup => ?timeout, fun hk4 hup hdist => ?reached, fun hsteers hup hhold => ⟨fun hweak => ?weakens, fun hweak => ?weak⟩,
    fun hsteers hup hknown => ⟨fun hmixed => ?flipped, fun raw hraw => ?steered⟩⟩
  case timeout =>
    exact hends ⟨rfl, rfl⟩ (fun _ => rfl) (kindRequest_timeout hfrom.active hkind (hfrom.timeUp.2 hup) _)
  case reached =>
    refine hends (cause := .reached) ⟨rfl, rfl⟩ (fun _ => rfl) ?_
    rw [kindRequest_track hfrom.active (mt hfrom.timeUp.1 hup) hfrom.suspended hk4, hfrom.run]
    refine if_pos ?_
    by_contra hno
    exact hdist (.inl ⟨hk4, by omega⟩)
  case weakens =>
    refine hgoes ?_
    rw [hfrom.steer hup hsteers, steer_hold (hreading.trans (readWire_hold side hhold)), hfrom.plan, hfrom.track,
      if_neg (by omega)]
  case weak =>
    refine hends (cause := .wireWeak) ⟨rfl, rfl⟩ (fun _ => rfl) ?_
    rw [hfrom.steer hup hsteers, steer_hold (hreading.trans (readWire_hold side hhold)), hfrom.plan, hfrom.track, if_pos hweak]
  case flipped =>
    refine hends (cause := .flipped) ⟨rfl, rfl⟩ (fun _ => rfl) ?_
    rw [hfrom.steer hup hsteers]
    exact steer_mixed (hreading.trans ((readWire_known side hknown).trans (by rw [hmixed]; rfl))) _
  case steered =>
    refine hgoes ?_
    rw [hfrom.steer hup hsteers, steer_error (hreading.trans ((readWire_known side hknown).trans (by rw [hraw]; rfl))),
      hfrom.track]

end Sys2Proof.Proofs
end

section
/-! SUPPORT. A DOCK's miss, and the Dock Unit's periods (O32). -/

namespace Sys2Proof.Proofs

open Sys2Proof.Machine Sys2Proof.Safety

/-! ### An end that holds the plan (R53) -/

theorem startHold_state (s : State) : (startHold s).plan.state = s.plan.state ∧ (startHold s).plan.active = s.plan.active ∧
    (startHold s).plan.heldSlot = s.plan.heldSlot ∧ (startHold s).plan.deferred = s.plan.deferred := by
  unfold startHold
  split
  · exact ⟨rfl, rfl, rfl, rfl⟩
  · split
    · rw [handStanding, judgeBlade_plan (.inl rfl)]
      exact ⟨rfl, rfl, rfl, rfl⟩
    · exact ⟨rfl, rfl, rfl, rfl⟩

theorem startHold_word (s : State) {a : Nat} (ha : a < 0x280 ∨ 0x400 ≤ a) : (startHold s).word a = s.word a := by
  unfold startHold
  split
  · rfl
  · split
    · exact judgeBlade_word _ ha
    · rfl

theorem Closed.startHold {seg : Segment} {cause : EndCause} {s x : State} (h : Closed seg cause s x) :
    Closed seg cause s (startHold x) :=
  h.after (fun _ ha => startHold_word _ (.inr ha)) (by simp) (by simp) (by simp) (by simp)

theorem endActive_holds {s : State} {seg : Segment} {cause : EndCause} (ha : s.plan.active = some seg)
    (hc : cause.continuation seg.fields.onContact? = .held) : Closed seg cause s (endActive cause s) ∧
      (endActive cause s).plan.state = .held ∧ (endActive cause s).plan.active = none ∧
      (endActive cause s).plan.heldSlot = some seg.slot := by
  have hheld : endActive cause s = Machine.post (.planHeld seg.slot seg.fields.tag cause) (Machine.startHold
      { closed seg cause s with plan := { (closed seg cause s).plan with state := .held, heldSlot := some seg.slot } }) := by
    rw [endActive, settleEnd, ha]
    simp only [continuePlan, hc]
    rfl
  have hactive : (closed seg cause s).plan.active = none := by
    have hplan : (closed seg cause s).plan = (closeSegment seg cause s).plan := by simp [closed]
    rw [hplan, closeSegment_plan]
  have hclosed : Closed seg cause s { closed seg cause s with
      plan := { (closed seg cause s).plan with state := .held, heldSlot := some seg.slot } } :=
    (closed_closed seg cause s).after (fun _ _ => rfl) rfl rfl rfl ⟨rfl, rfl, rfl, rfl, rfl, rfl, rfl⟩
  obtain ⟨hstate, hnone, hslot, -⟩ := startHold_state { closed seg cause s with
    plan := { (closed seg cause s).plan with state := .held, heldSlot := some seg.slot } }
  have hpost (r : Report) (x : State) : (post r x).plan = x.plan := by simp
  rw [hheld, hpost]
  exact ⟨hclosed.startHold.post _, hstate, hnone.trans hactive, hslot⟩

/-! ### A miss (R178) -/

/-- What a miss leaves, its distance in NEAR as given. -/
def Missed (s u : State) (seg : Segment) (near : Nat) : Prop :=
  (s.dock.tries + 1 = s.plan.applied.dockTries →
    u.plan.state = .held ∧ Over u seg slotCut 13 ∧ u.dock.record = { s.dock.record with
      tries := s.dock.tries + 1, outcome := .dockFailed }) ∧
  (s.dock.tries + 1 ≠ s.plan.applied.dockTries →
    u.dock = { s.dock with
      sense := u.dock.sense, senseStart := u.dock.senseStart, voltage := u.dock.voltage, timer := u.dock.timer
      phase := some .backoff, tries := s.dock.tries + 1, near := near, back := 0, backRef := u.drive.heading
      bumpPending := false, record := { s.dock.record with tries := s.dock.tries + 1 } } ∧
    u.plan.active.isSome = true ∧ u.notice.dock.status = 3 ∧
      u.notice.dock.details = [wordN (s.dock.tries + 1)])

theorem takeMiss_last {x : State} (h : x.dock.tries + 1 = x.plan.applied.dockTries) : takeMiss x =
    endActive .dockFailed { x with dock := { x.dock with
      tries := x.dock.tries + 1, record := { x.dock.record with tries := x.dock.tries + 1 } } } := if_pos h

theorem takeMiss_again {x : State} (h : x.dock.tries + 1 ≠ x.plan.applied.dockTries) : takeMiss x =
    post (.dockRetry (x.dock.tries + 1)) (writeDockRecord { x with dock := { x.dock with
      tries := x.dock.tries + 1, record := { x.dock.record with tries := x.dock.tries + 1 }
      phase := some .backoff, back := 0, backRef := x.drive.heading, bumpPending := false } }) := if_neg h

/-- The post of a report puts its status and details in force, unless a RESTART holds the notices (R198). -/
theorem post_status {r : Report} {s : State} (h : s.noticesHeld = false) : ((post r s).notice.get r.source).status = r.status ∧
    ((post r s).notice.get r.source).details = r.details := by
  have hget := posts_get (post_posts r (s := s) h rfl rfl)
  rw [hget]
  exact ⟨rfl, rfl⟩

theorem noticesHeld_armed {s : State} (h : s.guard.machine = .armed) : s.noticesHeld = false := by
  simp [State.noticesHeld, h]

/-- A miss of the Dock Unit's run, from a state that has the blocks of `s` but for the sense and the run's progress. -/
theorem takeMiss_missed {s x : State} {seg : Segment} {act : BitVec 16} {near back : Nat} {pending : Bool}
    (ha : x.plan.active = some seg) (hrun : s.dock.run = .dock act) (hm : x.guard.machine = .armed)
    (hplan : x.plan.applied = s.plan.applied)
    (hdock : x.dock = { s.dock with
      sense := x.dock.sense, senseStart := x.dock.senseStart, voltage := x.dock.voltage, timer := x.dock.timer
      near := near, back := back, bumpPending := pending }) : Missed s (takeMiss x) seg near := by
  have htries : x.dock.tries = s.dock.tries ∧ x.dock.record = s.dock.record ∧ x.dock.run = .dock act := by
    rw [hdock]
    exact ⟨rfl, rfl, hrun⟩
  obtain ⟨htries, hrecord, hrun⟩ := htries
  constructor
  · intro hlast
    obtain ⟨hclosed, hstate, hnone, -⟩ := endActive_holds (cause := .dockFailed)
      (s := { x with dock := { x.dock with
        tries := x.dock.tries + 1, record := { x.dock.record with tries := x.dock.tries + 1 } } }) ha rfl
    rw [takeMiss_last (by rw [htries, hplan]; exact hlast)]
    refine ⟨hstate, hclosed.over hnone, ?_⟩
    rw [hclosed.dock, endedDock, if_neg (by rw [hrun]; nofun), htries, hrecord, hrun]
    rfl
  · intro hagain
    have hblocks (r : Report) (y : State) : (post r (writeDockRecord y)).dock = y.dock ∧
        (post r (writeDockRecord y)).plan = y.plan ∧ (post r (writeDockRecord y)).drive = y.drive := by simp
    rw [takeMiss_again (by rw [htries, hplan]; exact hagain)]
    obtain ⟨hdock', hplan', hdrive'⟩ := hblocks (.dockRetry (x.dock.tries + 1)) { x with dock := { x.dock with
      tries := x.dock.tries + 1, record := { x.dock.record with tries := x.dock.tries + 1 }
      phase := some .backoff, back := 0, backRef := x.drive.heading, bumpPending := false } }
    obtain ⟨hstatus, hdetails⟩ := post_status (r := .dockRetry (x.dock.tries + 1)) (s := writeDockRecord { x with
      dock := { x.dock with
        tries := x.dock.tries + 1, record := { x.dock.record with tries := x.dock.tries + 1 }
        phase := some .backoff, back := 0, backRef := x.drive.heading, bumpPending := false } })
      (noticesHeld_armed (by simpa using hm))
    rw [hdock', hplan', hdrive']
    refine ⟨?_, by rw [ha]; rfl, hstatus, hdetails.trans (by rw [htries]; rfl)⟩
    rw [hdock]

/-- Steps that leave the plan, the wheels' suspension and the Dock Unit leave a miss. -/
theorem Missed.after {s z u : State} {seg : Segment} {near : Nat} (h : Missed s z seg near) (k : SameBlocks z u)
    (hs : u.drive.suspended = z.drive.suspended) (hheading : u.drive.heading = z.drive.heading) : Missed s u seg near := by
  have hslot := slotBase_ge seg.slot
  constructor
  · intro hlast
    obtain ⟨hstate, ⟨ha, hcut, hcause, htrack, hrun, hsuspended⟩, hrecord⟩ := h.1 hlast
    refine ⟨by rw [k.plan, hstate], ⟨by rw [k.plan, ha], (k.words _ ?_ ?_ ?_).trans hcut, (k.words _ ?_ ?_ ?_).trans hcause,
      by rw [k.track, htrack], by rw [k.dock, hrun], hs.trans hsuspended⟩, by rw [k.dock, hrecord]⟩ <;> omega
  · intro hagain
    obtain ⟨hdock, hactive, hstatus, hdetails⟩ := h.2 hagain
    rw [k.dock, k.plan, k.notice, hheading]
    exact ⟨hdock, hactive, hstatus, hdetails⟩

end Sys2Proof.Proofs
end

section
/-! SUPPORT. A DOCK's and an UNDOCK's calm period (O32). -/

namespace Sys2Proof.Proofs

open Sys2Proof.Machine Sys2Proof.Safety

/-! ### DOCK by phase (R175, R178, R179) -/

theorem dockPhaseRequest_pending {x : State} (h : x.dock.bumpPending = true) (cap : Nat) :
    dockPhaseRequest false cap x = (x, .pair (0, 0) false) := if_pos h

theorem dockPhaseRequest_near {x : State} (h : x.dock.bumpPending = false) (hp : x.dock.phase = some .near)
    (hfar : x.plan.applied.dockReach < x.dock.near / 256) (cap : Nat) :
    dockPhaseRequest false cap x = (takeMiss x, .nothing) := by
  unfold dockPhaseRequest
  rw [h, if_neg Bool.false_ne_true, hp]
  exact if_pos hfar

theorem dockPhaseRequest_backoff {x : State} (h : x.dock.bumpPending = false) (hp : x.dock.phase = some .backoff) (cap : Nat) :
    dockPhaseRequest false cap x = if 400 ≤ x.dock.back / 256 then steer false cap (leaveBackoff x)
      else (x, .pair (x.backoffPair cap) true) := by
  unfold dockPhaseRequest
  rw [h, if_neg Bool.false_ne_true, hp]
  rfl

/-- Out of BACKOFF: the phase, the NEAR distance and Track Steering's error before (R175, R179). -/
theorem leaveBackoff_blocks (x : State) : (leaveBackoff x).plan = x.plan ∧ (leaveBackoff x).loops = x.loops ∧
    (leaveBackoff x).partTime = x.partTime ∧ (leaveBackoff x).guard = x.guard ∧ (leaveBackoff x).drive = x.drive ∧
    (leaveBackoff x).gov = x.gov ∧ (leaveBackoff x).track = { x.track with ePrev := 0 } ∧
    (leaveBackoff x).dock = { x.dock with
      near := if x.loops.stationNear then 0 else x.dock.near
      phase := some (if x.loops.stationNear then .near else .approach) } := by
  unfold leaveBackoff
  dsimp only
  split
  case isTrue h =>
    have hnear : x.loops.stationNear = true := by simpa using h
    rw [hnear]
    simp [enterNear]
  case isFalse h =>
    have hnear : x.loops.stationNear = false := by simpa using h
    rw [hnear]
    simp

theorem headingHold_holdTo {x s u : State} (ref : BitVec 16) (hplan : x.plan = s.plan)
    (hheading : x.drive.heading = u.drive.heading) :
    x.headingHold ref = holdTo s.plan.applied ref u.drive.heading := by
  rw [State.headingHold, clampI_eq (by omega), hplan, hheading]
  rfl

theorem contactPresent_iff (s : State) : s.contactPresent = true ↔ OnContacts s := by
  unfold State.contactPresent
  cases hs : s.dock.sense <;> simp [OnContacts, hs, Sense.isPresent]

theorem rests_of_takes {s u : State} (h : Takes s u (0, 0)) : AtRest u := by
  simpa only [Takes, limited_zero, ite_self] using h

/-- An UNDOCK's part of step 5, by phase, contact and distance. -/
theorem kindRequest_undock {s y : State} {seg : Segment} (hfrom : SteersFrom s y seg) (hup : ¬ TimeUp s seg)
    (hk : seg.fields.kind = 6) (cap : Nat) : kindRequest false cap y =
    if y.dock.phase = some .turn then undockTurn cap seg.fields y
    else if OnContacts y ∧ 300 ≤ runDistance s / 256 then (endActive .stuckDocked y, .ended)
    else if ¬ OnContacts y ∧ seg.fields.distance.toInt ≤ (runDistance s / 256 : Nat) then
      undockTurn cap seg.fields (enterTurn y)
    else (y, .pair (y.undockPair seg.fields cap) false) := by
  have hpresent := contactPresent_iff y
  have hstuck : (y.contactPresent && decide (300 ≤ mmOf y.drive.runDist)) = true ↔
      OnContacts y ∧ 300 ≤ runDistance s / 256 := by
    rw [Bool.and_eq_true, hpresent, hfrom.run, decide_eq_true_eq, mmOf]
  have hfree : (!y.contactPresent && decide (seg.fields.distanceMm ≤ mmOf y.drive.runDist)) = true ↔
      ¬ OnContacts y ∧ seg.fields.distance.toInt ≤ (runDistance s / 256 : Nat) := by
    have hmm : seg.fields.distanceMm = seg.fields.distance.toInt.toNat := rfl
    rw [Bool.and_eq_true, Bool.not_eq_true', Bool.eq_false_iff, Ne, hpresent, hfrom.run, hmm, decide_eq_true_eq, mmOf]
    exact and_congr Iff.rfl (by omega)
  unfold kindRequest
  rw [hfrom.active]
  simp only [kind?_iff (k := .undock).2 hk, undockRequest, Bool.not_false, Bool.true_and, mt hfrom.timeUp.1 hup,
    hfrom.suspended, Bool.false_eq_true, if_false, hstuck, hfree]

section
variable {t : Capture} {pitch roll : Byte} {s y u : State} {seg : Segment} {act : BitVec 16}
  (hfrom : SteersFrom s y seg) (hruns : FromRequest s y u) (harmed : y.guard.machine = .armed)
  (hw : ∀ i, (y.drive.wheels.get i).target = (s.drive.wheels.get i).target) (hgov : u.gov = y.gov)
  (hheading : u.drive.heading = y.drive.heading) (hstall : s.contact.stall = ⟨none, none⟩) (hup : ¬ TimeUp s seg)
include hfrom hruns harmed hw hgov hheading hstall hup

/-- The period of a DOCK, in the words of the statement. -/
theorem dock_period (hk : seg.fields.kind = 5) (hrun : s.dock.run = .dock act) :
    let slow : Int := (min 200 u.gov.cap : Nat)
    let back := if s.drive.choice = .backoff then travelled s s.dock.back else s.dock.back
    let homing := holdTo s.plan.applied s.dock.backRef u.drive.heading
    (s.dock.bumpPending = true → AtRest u ∧ u.plan.active = some seg) ∧
    (s.dock.bumpPending = false → s.dock.phase = some .near →
      s.plan.applied.dockReach < travelled s s.dock.near / 256 →
      Missed s u seg (travelled s s.dock.near) ∧ AtRest u) ∧
    (s.dock.bumpPending = false → s.dock.phase = some .backoff →
      (back / 256 < 400 → u.plan.active = some seg ∧ Takes s u (-slow - homing, -slow + homing) ∧
        u.dock = { s.dock with back := back } ∧ (0 < u.gov.cap → u.drive.choice = .backoff)) ∧
      (400 ≤ back / 256 → ∀ n side, s.track.loop = some n → s.track.side = some side →
        let l := (s.loops.recs.get n).coils.left
        let r := (s.loops.recs.get n).coils.right
        ¬ WireHold s l r → ∀ raw, wireError side l r = some raw →
        u.plan.active = some seg ∧
          u.dock = { s.dock with
            back := back
            near := if s.loops.stationNear then 0 else s.dock.near
            phase := some (if s.loops.stationNear then .near else .approach) } ∧
          Takes s u (steered s.plan.applied s.track.speed u.gov.cap (raw - s.track.offset) 0))) := by
  intro slow back homing
  have hrequest := kindRequest_dock hfrom.active (mt hfrom.timeUp.1 hup) hfrom.suspended hk y.gov.cap
  have hpending : y.dock.bumpPending = s.dock.bumpPending := by
    rw [hfrom.dock]
    unfold advancedDock
    split <;> rfl
  refine ⟨fun hb => ?waits, fun hb hp hfar => ?missed, fun hb hp => ?backoff⟩
  case waits =>
    rw [dockPhaseRequest_pending (hpending.trans hb)] at hrequest
    obtain ⟨hsame, htakes, -⟩ := hruns.hands hrequest hfrom.active harmed hfrom.suspended hstall hw fun _ => rfl
    exact ⟨rests_of_takes htakes, by rw [hsame.plan]; exact hfrom.active⟩
  case missed =>
    have hdock : y.dock = { s.dock with near := travelled s s.dock.near } := by
      rw [hfrom.dock]
      unfold advancedDock
      rw [hrun, hp]
    rw [dockPhaseRequest_near (hpending.trans hb) (by rw [hdock]; exact hp) (by rw [hdock, hfrom.plan]; exact hfar)] at hrequest
    have hstep : requestStep y.gov.cap y = (takeMiss y, .nothing) := by
      unfold requestStep
      rw [hrequest]
    obtain ⟨hdriving, hundisturbed⟩ := hruns _ _ hstep
    have hsame := hundisturbed (.inl hstall)
    have hmissed := takeMiss_missed (s := s) (x := y) (near := travelled s s.dock.near) (back := s.dock.back)
      (pending := s.dock.bumpPending) hfrom.active hrun harmed (by rw [hfrom.plan]) (by rw [hdock])
    have hdrive := congrArg Drive.heading hdriving.drive
    exact ⟨hmissed.after hsame.toSameBlocks hsame.suspended hdrive, hdriving.rests (by rw [choose_rest (.inl rfl)])⟩
  case backoff =>
    have hdock : y.dock = { s.dock with back := back } := by
      rw [hfrom.dock]
      unfold advancedDock
      rw [hrun, hp]
    rw [dockPhaseRequest_backoff (hpending.trans hb) (by rw [hdock]; exact hp), hdock] at hrequest
    refine ⟨fun hnear => ?reverses, fun hfar => ?leaves⟩
    case reverses =>
      rw [if_neg (by exact Nat.not_le.2 hnear)] at hrequest
      have hpair : y.backoffPair y.gov.cap = (-slow - homing, -slow + homing) := by
        have hhold := headingHold_holdTo (x := y) (u := u) y.dock.backRef hfrom.plan hheading.symm
        have href : y.dock.backRef = s.dock.backRef := by rw [hdock]
        unfold State.backoffPair
        rw [hhold, href, minN_eq, ← hgov]
      obtain ⟨hsame, htakes, hchoice⟩ := hruns.hands hrequest hfrom.active harmed hfrom.suspended hstall hw fun _ => hpair
      exact ⟨by rw [hsame.plan]; exact hfrom.active, htakes, by rw [hsame.dock, hdock], hchoice⟩
    case leaves =>
      intro n side hloop hside l r hknown raw hraw
      obtain ⟨lplan, lloops, lpart, lguard, ldrive, lgov, ltrack, ldock⟩ := leaveBackoff_blocks y
      rw [if_pos (by exact hfar)] at hrequest
      have hreading : (leaveBackoff y).wireReading = .error raw := by
        have hsame : (leaveBackoff y).wireReading = y.wireReading := by
          unfold State.wireReading
          rw [ltrack, lloops, lplan, lpart]
        rw [hsame, hfrom.reading hloop hside, readWire_known side hknown, hraw]
        rfl
      rw [steer_error hreading] at hrequest
      obtain ⟨hactive, hdocked, -, -, htakes⟩ := hruns.steers hrequest (by rw [lplan]; exact hfrom.active)
        (lplan.trans hfrom.plan) (by rw [lguard]; exact harmed) (by rw [ldrive]; exact hfrom.suspended) lgov hstall
        (fun i => by rw [ldrive]; exact hw i) hgov
      refine ⟨hactive, ?_, ?_⟩
      · rw [hdocked, ldock, hdock, hfrom.loops]
      · rw [ltrack, hfrom.track] at htakes
        exact htakes

/-- The period of an UNDOCK, in the words of the statement. -/
theorem undock_period (hk : seg.fields.kind = 6) (hrun : s.dock.run = .undock act) (hturn : y.drive.runTurn = runAngle s)
    (href : y.drive.headingRef = s.drive.headingRef) :
    let v : Int := (min seg.fields.speed.toNat u.gov.cap : Nat)
    let hold := holdTo s.plan.applied s.drive.headingRef u.drive.heading
    let gone := runDistance s / 256
    let reverses : Prop := u.plan.active = some seg ∧ u.dock = s.dock ∧ Takes s u (-v - hold, -v + hold)
    let spins : Prop := u.plan.active = some seg ∧
      Takes s u (spin seg.fields.speed.toNat u.gov.cap seg.fields.angle.toInt)
    let reached : Prop := seg.fields.next = 255 → u.plan.state = .idle ∧ Over u seg slotDone 1 ∧
      u.dock.record.outcome = .undocked ∧ AtRest u
    (s.dock.phase = some .turn →
      (turnGoal seg.fields ≤ (runAngle s - s.dock.turnAtEntry).natAbs → reached) ∧
      ((runAngle s - s.dock.turnAtEntry).natAbs < turnGoal seg.fields → spins ∧ u.dock = s.dock)) ∧
    (s.dock.phase = some .reverse →
      (OnContacts s → 300 ≤ gone → seg.fields.next = 255 →
        u.plan.state = .idle ∧ Over u seg slotCut 11 ∧ u.dock.record.outcome = .stuckDocked ∧ AtRest u) ∧
      (OnContacts s → gone < 300 → reverses) ∧
      (¬ OnContacts s → (gone : Int) < seg.fields.distance.toInt → reverses) ∧
      (¬ OnContacts s → seg.fields.distance.toInt ≤ gone →
        (turnGoal seg.fields = 0 → reached) ∧
        (0 < turnGoal seg.fields → spins ∧
          u.dock = { s.dock with phase := some .turn, turnAtEntry := runAngle s }))) := by
  intro v hold gone reverses spins reached
  have hdock : y.dock = s.dock := by
    rw [hfrom.dock]
    unfold advancedDock
    rw [hrun]
  have hgoal : seg.fields.angleMagnitude = turnGoal seg.fields := minN_eq _ _
  have hrequest := kindRequest_undock hfrom hup hk y.gov.cap
  have hreached {x : State} (ha : x.plan.active = some seg) (hx : x.dock.run = .undock act)
      (hend : kindRequest false y.gov.cap y = (endActive .reached x, .ended)) : reached := fun hnext => by
    obtain ⟨hstate, hover, hrest, hdocked⟩ := hruns.ends hend ha hnext (fun _ => rfl)
    refine ⟨hstate, hover, ?_, hrest⟩
    rw [hdocked, endedDock, if_neg (by rw [hx]; nofun), hx]
    rfl
  have hspins {x : State} (hx : x.plan = y.plan ∧ x.guard = y.guard ∧ x.drive = y.drive ∧ x.gov = y.gov)
      (hpair : kindRequest false y.gov.cap y = (x, .pair (spinPair seg.fields.speedMm y.gov.cap seg.fields.angleAu) false)) :
      spins ∧ u.dock = x.dock := by
    obtain ⟨xplan, xguard, xdrive, xgov⟩ := hx
    obtain ⟨hsame, htakes, -⟩ := hruns.hands (q := spin seg.fields.speed.toNat u.gov.cap seg.fields.angle.toInt) hpair
      (by rw [xplan]; exact hfrom.active) (by rw [xguard]; exact harmed) (by rw [xdrive]; exact hfrom.suspended) hstall
      (fun i => by rw [xdrive]; exact hw i) (fun _ => by rw [spinPair_spin, ← hgov]; rfl)
    exact ⟨⟨by rw [hsame.plan, xplan]; exact hfrom.active, htakes⟩, hsame.dock⟩
  have hreverses (hpair : kindRequest false y.gov.cap y = (y, .pair (y.undockPair seg.fields y.gov.cap) false)) : reverses := by
    have hundock : y.undockPair seg.fields y.gov.cap = (-v - hold, -v + hold) := by
      have hheld := headingHold_holdTo (x := y) (u := u) y.drive.headingRef hfrom.plan hheading.symm
      unfold State.undockPair
      rw [hheld, href, minN_eq, ← hgov]
      rfl
    obtain ⟨hsame, htakes, -⟩ := hruns.hands hpair hfrom.active harmed hfrom.suspended hstall hw fun _ => hundock
    exact ⟨by rw [hsame.plan]; exact hfrom.active, by rw [hsame.dock, hdock], htakes⟩
  have hentered : (enterTurn y).plan = y.plan ∧ (enterTurn y).guard = y.guard ∧ (enterTurn y).drive = y.drive ∧
      (enterTurn y).gov = y.gov ∧
      (enterTurn y).dock = { y.dock with phase := some .turn, turnAtEntry := y.drive.runTurn } := by simp [enterTurn]
  obtain ⟨eplan, eguard, edrive, egov, edock⟩ := hentered
  have hphase : y.dock.phase = s.dock.phase := by rw [hdock]
  have hcontacts : OnContacts y ↔ OnContacts s := by rw [OnContacts, hdock]
  refine ⟨fun hp => ?turning, fun hp => ?reversing⟩
  case turning =>
    rw [if_pos (hphase.trans hp), undockTurn, hgoal, hturn, hdock] at hrequest
    refine ⟨fun hfar => hreached hfrom.active (by rw [hdock]; exact hrun) (hrequest.trans (if_pos hfar)), fun hnear => ?_⟩
    obtain ⟨hs, hd⟩ := hspins ⟨rfl, rfl, rfl, rfl⟩ (hrequest.trans (if_neg (by omega)))
    exact ⟨hs, hd.trans hdock⟩
  case reversing =>
    rw [if_neg (by rw [hphase, hp]; nofun)] at hrequest
    refine ⟨fun hon hfar hnext => ?stuck, fun hon hnear => ?presses, fun hoff hnear => ?backs, fun hoff hfar => ?turns⟩
    case stuck =>
      obtain ⟨hstate, hover, hrest, hdocked⟩ := hruns.ends (hrequest.trans (if_pos ⟨hcontacts.2 hon, hfar⟩)) hfrom.active hnext (fun _ => rfl)
      refine ⟨hstate, hover, ?_, hrest⟩
      rw [hdocked, endedDock, if_neg (by rw [hdock, hrun]; nofun), hdock, hrun]
      rfl
    case presses =>
      exact hreverses (hrequest.trans ((if_neg fun h => Nat.not_le.2 hnear h.2).trans (if_neg fun h => h.1 (hcontacts.2 hon))))
    case backs =>
      exact hreverses (hrequest.trans ((if_neg fun h => hoff (hcontacts.1 h.1)).trans (if_neg fun h => not_le.2 hnear h.2)))
    case turns =>
      have hzero : ((enterTurn y).drive.runTurn - (enterTurn y).dock.turnAtEntry).natAbs = 0 := by
        rw [edrive, edock]
        simp
      have hturns := hrequest.trans ((if_neg fun h => hoff (hcontacts.1 h.1)).trans (if_pos ⟨mt hcontacts.1 hoff, hfar⟩))
      rw [undockTurn, hgoal, hzero] at hturns
      refine ⟨fun hgoal0 => ?_, fun hpos => ?_⟩
      · exact hreached (by rw [eplan]; exact hfrom.active) (by rw [edock, hdock]; exact hrun)
          (hturns.trans (if_pos (by omega)))
      · obtain ⟨hs, hd⟩ := hspins ⟨eplan, eguard, edrive, egov⟩ (hturns.trans (if_neg (by omega)))
        exact ⟨hs, hd.trans (by rw [edock, hdock, hturn])⟩

end

end Sys2Proof.Proofs
end

section
/-! SUPPORT. A DOCK's contact and its bumps (O32). -/

namespace Sys2Proof.Proofs

open Sys2Proof.Machine Sys2Proof.Safety

theorem writeDockRecord_word (s : State) {a : Nat} (ha : a < 0x280 ∨ 0x400 ≤ a) : (writeDockRecord s).word a = s.word a :=
  Memory.read_writeAll_outside _ (dockCells_outside _ ha)

/-! ### The sample that ends a DOCK, and the one that misses it (R173, R176, R177) -/

/-- The Dock Unit's sample timer and voltage after a sample. -/
abbrev sampled (v : Byte) (s : State) : State := { s with dock := { s.dock with timer := s.dock.timer + 10, voltage := v } }

theorem senseSettled_iff (s : State) : s.senseSettled = true ↔ ∃ t, s.dock.senseStart = some t ∧ 200 ≤ since s.partTime t := by
  unfold State.senseSettled
  cases s.dock.senseStart <;> simp

theorem moveSense_arrives {v : Byte} {s : State} (hs : s.dock.sense = .rising) (hv : s.plan.applied.dockV ≤ v.toNat)
    (h : ∃ t, s.dock.senseStart = some t ∧ 200 ≤ since s.partTime t) :
    moveSense v s = contactArrived (setSense .present none s) := by
  simp [moveSense, hs, hv, (senseSettled_iff s).2 h]

theorem moveSense_fell {v : Byte} {s : State} (hs : s.dock.sense = .rising) (hv : ¬ s.plan.applied.dockV ≤ v.toNat) :
    moveSense v s = risingFell (setSense .absent none s) := by
  simp [moveSense, hs, hv]

theorem contactArrived_docks {s : State} {seg : Segment} (ha : s.plan.active = some seg)
    (hrun : s.dock.run = .dock seg.activation) : contactArrived s = endActive .docked (writeDockRecord s) := by
  unfold contactArrived
  have hrecord : (writeDockRecord s).dock.run = .dock seg.activation := hrun
  have hactive : (writeDockRecord s).plan.active = some seg := ha
  dsimp only
  rw [hrecord]
  simp only [endSegment, hactive, if_true]

theorem exec_sample_due {v : Byte} {s b : State} (hr : s.resetting = none) (hd : due s.partTime s.dock.timer = true)
    (hb : moveSense v (sampled v { s with causes := Causes.none }) = b) : Ran s b (s.event (sampleExpiry v)) :=
  event_ran hr ((if_pos (by exact hd)).trans hb)

/-- A DOCK on its contact ends DOCKED. -/
theorem sample_docks {v : Byte} {s : State} {seg : Segment} {rise : Time} (hr : s.resetting = none)
    (hd : due s.partTime s.dock.timer = true) (ha : s.plan.active = some seg) (hrun : s.dock.run = .dock seg.activation)
    (hnext : seg.fields.next = 255) (hs : s.dock.sense = .rising) (hrise : s.dock.senseStart = some rise)
    (hlong : 200 ≤ since s.partTime rise) (hv : s.plan.applied.dockV ≤ v.toNat) :
    ∃ u, exec (.contactSample v) s = .next u ∧ u.slotState seg.slot = slotDone ∧
      u.word (slotBase seg.slot + 20) = 4 ∧ u.plan.state = .idle ∧ u.plan.active = none ∧ u.dock.run = .none ∧
      u.dock.phase = none ∧ u.dock.sense = .present ∧ u.dock.record.outcome = .docked ∧
      u.dock.record.dockTime = some s.partTime ∧ u.track.running = none ∧ u.drive.suspended = false ∧
      u.drive.wheels = s.drive.wheels ∧ u.contact = s.contact ∧ u.recv = s.recv ∧
      (∀ n : Slot, n ≠ seg.slot → u.slotState n = s.slotState n) := by
  have hran := exec_sample_due (v := v) hr hd
    ((moveSense_arrives (s := sampled v { s with causes := Causes.none }) hs hv ⟨rise, hrise, hlong⟩).trans
      (contactArrived_docks ha hrun))
  generalize hx : writeDockRecord (setSense .present none (sampled v { s with causes := Causes.none })) = x at hran
  have hblocks : x.plan = s.plan ∧ x.drive = s.drive ∧ x.contact = s.contact ∧ x.recv = s.recv ∧ x.partTime = s.partTime ∧
      x.dock = { s.dock with timer := s.dock.timer + 10, voltage := v, sense := .present, senseStart := none } := by
    rw [← hx]
    exact ⟨rfl, rfl, rfl, rfl, rfl, rfl⟩
  obtain ⟨xplan, xdrive, xcontact, xrecv, xpart, xdock⟩ := hblocks
  have hslot := slotBase_ge
  have hother (n : Slot) : x.slotState n = s.slotState n := by
    rw [← hx]
    exact writeDockRecord_word _ (by have := hslot n; omega)
  obtain ⟨hclosed, hplan⟩ := endActive_ends (s := x) (seg := seg) (cause := .docked) (by rw [xplan, ha]) (by rw [hnext]; decide) rfl
  obtain ⟨hstate, hcause⟩ := hclosed.slot
  obtain ⟨hcontact, -, -, -, -, hrecv, -⟩ := hclosed.frame
  obtain ⟨-, -, urecv, -, uplan, udrive, utrack, -, -, ucontact, -, udock, -⟩ := hran.blocks
  have hword {a : Nat} (h : 0x400 ≤ a) := hran.word a (by omega) (by omega) (by omega)
  have hended : (endActive .docked x).dock = { x.dock with
      run := .none, phase := none, bumpPending := false
      record := { x.dock.record with outcome := .docked, dockTime := some s.partTime } } := by
    have hdocking : x.dock.run = .dock seg.activation := by rw [xdock]; exact hrun
    rw [hclosed.dock, endedDock, if_neg (by rw [hdocking]; nofun), hdocking, xpart]
    rfl
  refine ⟨_, rfl, (hword (hslot _)).trans hstate, (hword (by have := hslot seg.slot; omega)).trans hcause, ?_⟩
  rw [uplan, udock, utrack, udrive, ucontact, urecv, hplan, hended, hclosed.track, hclosed.drive, hcontact, hrecv, xdrive,
    xcontact, xrecv, xdock]
  refine ⟨rfl, rfl, rfl, rfl, rfl, rfl, rfl, rfl, rfl, rfl, rfl, rfl, fun n hn => ?_⟩
  exact (hword (hslot n)).trans ((hclosed.others n 0 hn (by decide)).trans (hother n))

/-- A sample that falls back with a bump waiting is the miss. -/
theorem sample_misses {v : Byte} {s : State} {seg : Segment} {act : BitVec 16} (hr : s.resetting = none)
    (hm : s.guard.machine = .armed) (hd : due s.partTime s.dock.timer = true) (ha : s.plan.active = some seg)
    (hrun : s.dock.run = .dock act) (hs : s.dock.sense = .rising) (hb : s.dock.bumpPending = true)
    (hv : v.toNat < s.plan.applied.dockV) :
    ∃ u, exec (.contactSample v) s = .next u ∧ u.dock.sense = .absent ∧ Missed s u seg s.dock.near := by
  have hfell : risingFell (setSense .absent none (sampled v { s with causes := Causes.none })) =
      takeMiss { setSense .absent none (sampled v { s with causes := Causes.none }) with
        dock := { (setSense .absent none (sampled v { s with causes := Causes.none })).dock with bumpPending := false } } :=
    if_pos hb
  have hran := exec_sample_due (v := v) hr hd ((moveSense_fell (s := sampled v { s with causes := Causes.none }) hs (Nat.not_le.2 hv)).trans hfell)
  have hmissed := takeMiss_missed (s := s) (x := { setSense .absent none (sampled v { s with causes := Causes.none }) with
      dock := { (setSense .absent none (sampled v { s with causes := Causes.none })).dock with bumpPending := false } })
    (near := s.dock.near) (back := s.dock.back) (pending := false) ha hrun hm rfl rfl
  obtain ⟨-, -, -, -, -, udrive, -, -, -, -, -, udock, -⟩ := hran.blocks
  refine ⟨_, rfl, ?_, hmissed.after hran.same (by rw [udrive]) (by rw [udrive])⟩
  rw [udock]
  simp [setSense]

/-! ### A bump in a DOCK (R137, R142, R143, R177) -/

/-- The first contact of an empty list is appended. -/
theorem formContact_first {s : State} (hl : s.contact.list = []) (src : Sources) (range : Option Nat) :
    formContact src range s = dispose (s.entryOf src range) (countContact (setList [s.entryOf src range] s)) := by
  unfold formContact
  rw [hl]
  simp [newest, appendContact, appendEntry, purgeOld, dropOldest, hl, Config.contactCapacity]

theorem bumpExpiry_due {i : LR} {s : State} {e : Time} (hm : s.guard.machine = .armed) (he : s.contact.bumpTimer.get i = some e)
    (hd : due s.partTime e = true) : bumpExpiry i s = formContact (bumpSource i) none (setBump i .closed none s) := by
  unfold bumpExpiry
  rw [if_pos (dueOpt_true he hd)]
  exact if_pos (decide_eq_true hm)

/-- What a DOCK's bump leaves to the Dock Unit: the one entry of the list, DOCK_RETRY. -/
structure DockBumped (s x : State) (seg : Segment) : Prop where
  list : ∃ entry, x.contact.list = [entry] ∧ entry.outcome = some .dockRetry
  stage : x.contact.stage = s.contact.stage
  active : ∃ n, x.plan.active = some { seg with contacts := n }
  applied : x.plan.applied = s.plan.applied
  drive : x.drive = s.drive
  dock : x.dock = s.dock
  machine : x.guard.machine = s.guard.machine

theorem bumpExpiry_docks {i : LR} {s : State} {e : Time} {seg : Segment} (hm : s.guard.machine = .armed)
    (he : s.contact.bumpTimer.get i = some e) (hd : due s.partTime e = true) (hl : s.contact.list = [])
    (hq : s.contact.stage = .quiet) (ha : s.plan.active = some seg) (hk : seg.fields.kind = 5) :
    ∃ x, bumpExpiry i s = dockBump x ∧ DockBumped s x seg := by
  have hmeets : (bumpSource i).meets bumpSources = true := by cases i <;> decide
  have hform := formContact_first (s := setBump i .closed none s) hl (bumpSource i) none
  have hkind : (countContact (setList [(setBump i .closed none s).entryOf (bumpSource i) none]
      (setBump i .closed none s))).activeKind = some .dock := by
    simp [State.activeKind, countContact, setList, setBump, ha, kind?_iff (k := .dock), kindWord, hk]
  rw [bumpExpiry_due hm he hd, hform, dispose, if_neg (not_not.2 (by exact hq)), if_pos ⟨hkind, hmeets⟩]
  refine ⟨_, rfl, ⟨_, rfl, rfl⟩, rfl, ⟨satAdd 65535 seg.contacts 1, ?_⟩, rfl, rfl, rfl, rfl⟩
  show s.plan.active.map _ = _
  rw [ha]
  rfl

theorem dockBump_absent {x : State} (hp : x.dock.phase = some .approach ∨ x.dock.phase = some .near)
    (hb : x.dock.bumpPending = false) (hs : x.dock.sense = .absent) : dockBump x = takeMiss x := by
  unfold dockBump
  rcases hp with hp | hp <;> simp [hp, hb, hs]

theorem dockBump_rising {x : State} (hp : x.dock.phase = some .approach ∨ x.dock.phase = some .near)
    (hb : x.dock.bumpPending = false) (hs : x.dock.sense = .rising) :
    dockBump x = { x with dock := { x.dock with bumpPending := true } } := by
  unfold dockBump
  rcases hp with hp | hp <;> simp [hp, hb, hs]

theorem dockBump_contacts {x : State} (hs : OnContacts x) : dockBump x = x := by
  unfold dockBump
  dsimp only
  split
  · rfl
  · rcases hs with hs | hs <;> rw [hs]

theorem dockBump_contact (x : State) : (dockBump x).contact = x.contact := by
  unfold dockBump
  dsimp only
  split
  · rfl
  · split
    · exact (takeMiss_frame x).2.2.2.2.2.2.1
    all_goals rfl

/-- A bump in a DOCK's approach, by the contact. -/
theorem bump_docks {i : LR} {s : State} {e : Time} {seg : Segment} {act : BitVec 16} (hr : s.resetting = none)
    (hm : s.guard.machine = .armed) (ha : s.plan.active = some seg) (hq : s.contact.stage = .quiet)
    (hk : seg.fields.kind = 5) (hrun : s.dock.run = .dock act) (he : s.contact.bumpTimer.get i = some e)
    (hd : due s.partTime e = true) (hl : s.contact.list = [])
    (hp : s.dock.phase = some .approach ∨ s.dock.phase = some .near) (hb : s.dock.bumpPending = false) :
    ∃ u entry, exec (.bumpDebounceExpiry i) s = .next u ∧ u.contact.list = [entry] ∧
      entry.outcome = some .dockRetry ∧ u.contact.stage = .quiet ∧
      (s.dock.sense = .absent → Missed s u seg s.dock.near) ∧
      (s.dock.sense = .rising → u.dock = { s.dock with bumpPending := true }) ∧
      (OnContacts s → u.dock = s.dock) := by
  obtain ⟨x, hexpiry, hbumped⟩ := bumpExpiry_docks (i := i) (s := { s with causes := Causes.none }) hm he hd hl hq ha hk
  have hran := event_ran hr hexpiry
  obtain ⟨entry, hlist, houtcome⟩ := hbumped.list
  obtain ⟨n, hactive⟩ := hbumped.active
  have hdock : x.dock = s.dock := hbumped.dock
  obtain ⟨-, -, -, -, -, udrive, -, -, -, ucontact, -, udock, -⟩ := hran.blocks
  refine ⟨_, entry, rfl, ?_, houtcome, ?_, fun hs => ?_, fun hs => ?_, fun hs => ?_⟩
  · rw [ucontact, dockBump_contact, hlist]
  · rw [ucontact, dockBump_contact, hbumped.stage]
    exact hq
  · have hmissed := takeMiss_missed (s := s) (x := x) (near := s.dock.near) (back := s.dock.back) (pending := s.dock.bumpPending)
      hactive hrun (hbumped.machine.trans hm) hbumped.applied (by rw [hdock])
    have hbump := dockBump_absent (x := x) (by rw [hdock]; exact hp) (by rw [hdock]; exact hb) (by rw [hdock]; exact hs)
    rw [hbump] at hran udrive
    exact hmissed.after hran.same (by rw [udrive]) (by rw [udrive])
  · rw [udock, dockBump_rising (by rw [hdock]; exact hp) (by rw [hdock]; exact hb) (by rw [hdock]; exact hs), hdock]
  · rw [udock, dockBump_contacts (by rw [OnContacts, hdock]; exact hs), hdock]

/-- Settles O32: the sample that docks, the misses, and the periods by phase. -/
theorem dockedEnds : Obligations.DockedEnds := by
  unfold Obligations.DockedEnds
  refine ⟨fun v s seg rise hr _ hd ha hrun hnext hs hrise hlong hv => sample_docks hr hd ha hrun hnext hs hrise hlong hv, ?_⟩
  intro t pitch roll s seg act hr hm ha hq missed
  refine ⟨fun hk hrun => ⟨fun i e he hd hl hp hb => bump_docks hr hm ha hq hk hrun he hd hl hp hb,
    fun v hd hs hb hv => sample_misses hr hm hd ha hrun hs hb hv⟩, fun hcalm hstall hs hup hk => ?_⟩
  obtain ⟨y, u, hexec, hbegun, hgov, hheading, hmachine, hruns⟩ := exec_calm_quiet (t := t) hcalm (fun g hg => by
    rw [ha] at hg
    cases hg
    exact not_basicEnds (.inr hk)) hq
  have hfrom := hbegun.steersFrom ha hs
  have harmed : y.guard.machine = .armed := hbegun.machine.trans hm
  obtain ⟨-, hturn, -, -, -, -, href⟩ := calm_run hbegun ha
  exact ⟨u, hexec, hmachine.trans hm,
    fun hk hrun => dock_period hfrom hruns harmed hbegun.wheel hgov hheading hstall hup hk hrun,
    fun hk hrun => undock_period hfrom hruns harmed hbegun.wheel hgov hheading hstall hup hk hrun hturn href⟩

end Sys2Proof.Proofs
end

section
/-! SUPPORT. What forming a contact makes of the contact list (R142..R145), and the echo of a window (O28). -/

namespace Sys2Proof.Proofs

open Sys2Proof.Machine Sys2Proof.Safety

/-! ### The newest entry (R142, R144) -/

theorem newest_eq (l : List Entry) : newest l = l.getLast? := by
  induction l using newest.induct with
  | case1 => rfl
  | case2 e => rfl
  | case3 d e es ih => rw [newest, ih, List.getLast?_cons_cons]

theorem mapNewest_concat (f : Entry → Entry) (l : List Entry) (e : Entry) : mapNewest f (l ++ [e]) = l ++ [f e] := by
  induction l with
  | nil => rfl
  | cons d l ih => cases l <;> simp_all [mapNewest]

theorem mapNewest_last (f : Entry → Entry) (l : List Entry) : (mapNewest f l).getLast? = l.getLast?.map f := by
  rcases List.eq_nil_or_concat l with rfl | ⟨l, e, rfl⟩
  · rfl
  · simp [mapNewest_concat]

/-- An entry without its outcome. -/
def unjudged (e : Entry) : Entry := { e with outcome := none }

/-- What of the Contact Unit is neither the list nor the reflex. -/
def sensors (c : Contact) := (c.bump, c.bumpTimer, c.pinging, c.nextSensor, c.pingTimer, c.sonar, c.stall)

/-- The entries stand but for their outcomes, and the sensors stand. -/
structure Relisted (s t : State) : Prop where
  entries : t.contact.list.map unjudged = s.contact.list.map unjudged
  sensors : sensors t.contact = sensors s.contact

theorem Relisted.refl (s : State) : Relisted s s := ⟨rfl, rfl⟩

theorem Relisted.after {s t u : State} (k : Relisted t u) (h : Relisted s t) : Relisted s u :=
  ⟨k.entries.trans h.entries, k.sensors.trans h.sensors⟩

theorem Relisted.of_contact {s t : State} (h : t.contact = s.contact) : Relisted s t := by
  constructor <;> rw [h]

theorem mapNewest_unjudged {f : Entry → Entry} (hf : ∀ e, unjudged (f e) = unjudged e) (l : List Entry) :
    (mapNewest f l).map unjudged = l.map unjudged := by
  rcases List.eq_nil_or_concat l with rfl | ⟨l, e, rfl⟩
  · rfl
  · simp [mapNewest_concat, hf]

theorem relisted_writeNewest (o : Option ContactOutcome) (s : State) : Relisted s (writeNewest o s) :=
  ⟨mapNewest_unjudged (f := fun e => { e with outcome := o }) (fun _ => rfl) _, rfl⟩

theorem relisted_writeEpisode (o : ContactOutcome) (s : State) : Relisted s (writeEpisode o s) := by
  have hjudge (e : Entry) : unjudged (if e.inEpisode s.contact.record.episodeStart then { e with outcome := some o } else e) =
      unjudged e := by split <;> rfl
  refine ⟨?_, rfl⟩
  unfold writeEpisode setList
  simp only [List.map_map]
  exact List.map_congr_left fun e _ => hjudge e

theorem planTrapped_contact (s : State) : (planTrapped s).contact = s.contact := by
  unfold planTrapped
  split
  · exact (endActive_frame _ _).2.2.2.2.2.2.1
  · split
    · simp
    · rfl

theorem takeTrap_contact (c : TrapCause) (s : State) : (takeTrap c s).contact.list.map unjudged = s.contact.list.map unjudged ∧
    (takeTrap c s).contact.stage = .quiet ∧
    (takeTrap c s).contact = { s.contact with stage := .quiet, list := (takeTrap c s).contact.list } := by
  have hpost (r : Report) (x : State) : (post r x).contact = x.contact := by simp
  have htrapped := planTrapped_contact { s with contact := { s.contact with stage := .quiet } }
  unfold takeTrap
  dsimp only
  rw [hpost]
  generalize planTrapped { s with contact := { s.contact with stage := .quiet } } = x at htrapped ⊢
  have hlist : x.contact.list = s.contact.list := by rw [htrapped]
  split
  · refine ⟨(relisted_writeEpisode .trapped x).entries.trans (by rw [hlist]), ?_, ?_⟩
    · show x.contact.stage = _
      rw [htrapped]
    · have hwrite : (writeEpisode .trapped x).contact = { x.contact with list := (writeEpisode .trapped x).contact.list } := rfl
      refine hwrite.trans ?_
      rw [htrapped]
  · refine ⟨(relisted_writeNewest (some .trapped) x).entries.trans (by rw [hlist]), ?_, ?_⟩
    · show x.contact.stage = _
      rw [htrapped]
    · have hwrite : (writeNewest (some .trapped) x).contact =
          { x.contact with list := (writeNewest (some .trapped) x).contact.list } := rfl
      refine hwrite.trans ?_
      rw [htrapped]

theorem relisted_takeTrap (c : TrapCause) (s : State) : Relisted s (takeTrap c s) := by
  obtain ⟨hentries, -, hcontact⟩ := takeTrap_contact c s
  exact ⟨hentries, by rw [hcontact]; rfl⟩

theorem relisted_joinReflex (e : Entry) (s : State) : Relisted s (joinReflex e s) := by
  have hrestart : Relisted s (restartOrTrap e s) := by
    unfold restartOrTrap
    dsimp only
    split
    · exact (relisted_takeTrap _ _).after ⟨rfl, rfl⟩
    · exact ⟨rfl, rfl⟩
  unfold joinReflex
  split
  · exact relisted_takeTrap _ _
  · split
    · exact ⟨rfl, rfl⟩
    · exact ⟨rfl, rfl⟩
    · exact hrestart
    · exact hrestart

theorem relisted_dispose (e : Entry) (s : State) : Relisted s (dispose e s) := by
  unfold dispose
  split
  · exact relisted_joinReflex e s
  · split
    · exact (Relisted.of_contact (dockBump_contact _)).after (relisted_writeNewest _ s)
    · split
      · unfold startOrTrap
        split
        · exact relisted_takeTrap _ _
        · exact ⟨rfl, rfl⟩
      · exact relisted_writeNewest _ s

/-! ### A contact is listed (R142, R144) -/

/-- The newest entry after a contact: it has the source, no greater range, and is no more than 50 ms old. -/
def Listed (src : Sources) (range : Option Nat) (now : Time) (l : List Entry) : Prop :=
  ∃ entry, l.getLast? = some entry ∧ entry.sources &&& src = src ∧
    (∀ mm, range = some mm → ∃ r, entry.range = some r ∧ r ≤ mm) ∧ since now entry.time ≤ 50 ∧ l.length ≤ 8

theorem Listed.relisted {src : Sources} {range : Option Nat} {now : Time} {l m : List Entry} (h : Listed src range now l)
    (k : m.map unjudged = l.map unjudged) : Listed src range now m := by
  obtain ⟨entry, hlast, hsources, hrange, htime, hlength⟩ := h
  have hlasts : m.getLast?.map unjudged = some (unjudged entry) := by
    rw [← List.getLast?_map, k, List.getLast?_map, hlast]
    rfl
  have hlengths : m.length = l.length := by simpa using congrArg List.length k
  cases hm : m.getLast? with
  | none => rw [hm] at hlasts; cases hlasts
  | some d =>
    rw [hm] at hlasts
    have hsame : unjudged d = unjudged entry := Option.some.inj hlasts
    have hfields : d.sources = entry.sources ∧ d.range = entry.range ∧ d.time = entry.time :=
      ⟨(congrArg Entry.sources hsame :), (congrArg Entry.range hsame :), (congrArg Entry.time hsame :)⟩
    obtain ⟨hs, hr, ht⟩ := hfields
    exact ⟨d, hm, by rw [hs, hsources], fun mm h => by rw [hr]; exact hrange mm h, by rw [ht]; exact htime, by omega⟩

theorem foldRange_le (entry : Option Nat) (mm : Nat) : ∃ r, foldRange entry (some mm) = some r ∧ r ≤ mm := by
  cases entry with
  | none => exact ⟨mm, rfl, le_rfl⟩
  | some r => exact ⟨minN r mm, rfl, by rw [minN_eq]; omega⟩

theorem or_and_self_right (a b : Sources) : (a ||| b) &&& b = b := by
  ext i
  simp
  tauto

theorem since_self (t : Time) : since t t = 0 := by simp [since]

/-- An appended contact is the newest entry. -/
theorem listed_append {e : Entry} {l : List Entry} {now : Time} (ht : e.time = now) (hl : l.length ≤ 8) :
    Listed e.sources e.range now (appendEntry e l) := by
  refine ⟨e, by simp [appendEntry], by simp, fun mm h => ⟨mm, h, le_rfl⟩, by rw [ht, since_self]; omega, appendEntry_length e hl⟩

/-- A fold changes the list by the fold itself, and outcomes. -/
theorem relisted_foldContact (e : Entry) (src : Sources) (range : Option Nat) (s : State) :
    Relisted (setList (mapNewest (fun d => d.folded src range) s.contact.list) s) (foldContact e src range s) := by
  unfold foldContact
  dsimp only
  split
  · split <;> exact ⟨rfl, rfl⟩
  · split <;> exact ⟨rfl, rfl⟩
  · exact ⟨rfl, rfl⟩
  · split
    · exact ⟨rfl, rfl⟩
    · split
      · exact (relisted_takeTrap _ _).after ⟨rfl, rfl⟩
      · have h := relisted_writeNewest none
          (noteContacts (setList (mapNewest (fun d => d.folded src range) s.contact.list) s))
        exact ⟨h.entries, rfl⟩

/-- A contact leaves the sensors. -/
theorem formContact_sensors (src : Sources) (range : Option Nat) (s : State) :
    sensors (formContact src range s).contact = sensors s.contact := by
  have happend : sensors (appendContact (s.entryOf src range) s).contact = sensors s.contact :=
    (relisted_dispose _ _).sensors.trans rfl
  unfold formContact
  split
  · split
    · exact (relisted_foldContact _ _ _ _).sensors.trans rfl
    · exact happend
  · exact happend

theorem formContact_listed {src : Sources} {range : Option Nat} {s : State} (hl : s.contact.list.length ≤ 8) :
    Listed src range s.partTime (formContact src range s).contact.list := by
  have happend : Listed src range s.partTime (appendContact (s.entryOf src range) s).contact.list := by
    unfold appendContact
    exact (listed_append (e := s.entryOf src range) rfl hl).relisted (relisted_dispose _ _).entries
  unfold formContact
  split
  case h_1 e hnewest =>
    split
    case isTrue hyoung =>
      rw [newest_eq] at hnewest
      have hfolded : Listed src range s.partTime (mapNewest (fun d => d.folded src range) s.contact.list) := by
        refine ⟨e.folded src range, by rw [mapNewest_last, hnewest]; rfl, or_and_self_right _ _, fun mm h => ?_, hyoung,
          by rw [mapNewest_length]; exact hl⟩
        rw [h]
        exact foldRange_le _ _
      exact hfolded.relisted (relisted_foldContact e src range s).entries
    case isFalse => exact happend
  case h_2 => exact happend

/-! ### The first contact of a segment (R143, R147) -/

/-- The state in which the first contact of an empty list starts a reflex: the list, and the segment's count. -/
def firstContact (src : Sources) (range : Option Nat) (s : State) : State :=
  countContact (setList [s.entryOf src range] s)

theorem trapFound_first {src : Sources} {range : Option Nat} {s : State} (h : 2 ≤ s.plan.applied.trapCount) (e : Entry) :
    (firstContact src range s).trapFound e = false := by
  have hone (p : Entry → Bool) (d : Entry) : ([d].filter p).length ≤ 1 := (List.length_filter_le p [d]).trans le_rfl
  have hlt := lt_of_le_of_lt (hone (trapCounts s.plan.applied.trapWindow s.plan.applied.trapRadius e) (s.entryOf src range))
    (show 1 < s.plan.applied.trapCount by omega)
  exact decide_eq_false (Nat.not_le.2 hlt)

/-- It starts a reflex of a ROLL, TURN, PAUSE or TRACK. -/
theorem formContact_starts {src : Sources} {range : Option Nat} {s : State} {seg : Segment} (hl : s.contact.list = [])
    (hq : s.contact.stage = .quiet) (hrun : s.plan.state = .running) (ha : s.plan.active = some seg)
    (hk : seg.fields.kind = 1) (htrap : 2 ≤ s.plan.applied.trapCount) :
    formContact src range s = startReflex (s.entryOf src range) (firstContact src range s) := by
  have hkind : (firstContact src range s).activeKind = some .roll := by
    simp [State.activeKind, firstContact, countContact, setList, ha, kind?_iff (k := .roll), kindWord, hk]
  have hstarts : (firstContact src range s).startsReflex = true := by
    unfold State.startsReflex
    rw [hkind, Bool.and_true]
    exact decide_eq_true hrun
  rw [formContact_first hl]
  show dispose _ (firstContact src range s) = _
  rw [dispose, if_neg (not_not.2 (by exact hq)), if_neg (by rw [hkind]; simp), if_pos hstarts, startOrTrap,
    trapFound_first htrap]
  rfl

/-! ### Echoes (R139, R140) -/

/-- A sensor whose ping is complete. -/
abbrev pinged (c : Sonar) (range : Option Nat) (close : Nat) : Sonar := { c with window := .idle, range := range, close := close }

/-- A range that is not close, or is the first close one, or finds no ARMED machine without a DOCK, is kept alone. -/
theorem completePing_keeps {i : LR} {range : Option Nat} {s : State}
    (h : s.isClose range = false ∨ (s.contact.sonar.get i).close = 0 ∨ s.activeKind = some .dock ∨ s.guard.machine ≠ .armed) :
    completePing i range s = setSonar i (pinged (s.contact.sonar.get i) range
      (if s.isClose range = true ∧ (s.contact.sonar.get i).close = 0 then 1 else 0)) s := by
  have hclose : (s.isClose range && decide ((s.contact.sonar.get i).close = 0)) = true ↔
      s.isClose range = true ∧ (s.contact.sonar.get i).close = 0 := by simp
  unfold completePing
  simp only [hclose]
  split
  case isFalse => rfl
  case isTrue hforms =>
    simp only [Bool.and_eq_true, Bool.not_eq_true', decide_eq_false_iff_not, decide_eq_true_eq] at hforms
    obtain ⟨⟨hnear, hsecond⟩, hkind⟩ := hforms
    rcases h with h | h | h | h
    · rw [hnear] at h
      cases h
    · exact absurd h hsecond
    · exact absurd h hkind
    · exact if_neg (mt of_decide_eq_true (by exact h))

theorem completePing_forms {i : LR} {range : Option Nat} {s : State} (hclose : s.isClose range = true)
    (hsecond : (s.contact.sonar.get i).close ≠ 0) (hkind : s.activeKind ≠ some .dock) (hm : s.guard.machine = .armed) :
    completePing i range s = formContact (sonarSource i) range (setSonar i (pinged (s.contact.sonar.get i) range 0) s) := by
  unfold completePing
  dsimp only
  rw [hclose, decide_eq_false hsecond, decide_eq_true hkind]
  exact if_pos (decide_eq_true hm)

theorem isClose_some (s : State) (mm : Nat) : s.isClose (some mm) = true ↔ mm < s.plan.applied.sonarStop := by
  simp [State.isClose]

theorem activeKind_dock {s : State} : s.activeKind = some .dock ↔ ∃ seg, s.plan.active = some seg ∧ seg.fields.kind = 5 := by
  rw [activeKind_iff]
  rfl

theorem echoEdge_range {i : LR} {t o : Capture} {s : State} (hw : (s.contact.sonar.get i).window = .listen o)
    (hlow : 1200 ≤ since t o) (hhigh : since t o ≤ 24000) :
    echoEdge i t s = completePing i (some (since t o * 343 / 2000)) s := by
  unfold echoEdge
  rw [hw]
  exact (if_neg (by omega)).trans (if_pos hhigh)

/-- An event that does no more than put a sensor in force. -/
theorem event_setSonar {i : LR} {t : Capture} {d : Sonar} {s : State} {f : State → State} (hr : s.resetting = none)
    (h : f (stamped t s) = setSonar i d (stamped t s)) : s.event (fun a => f (a.atTime t)) =
      { s with timebase := t, contact := { s.contact with sonar := s.contact.sonar.set i d } } :=
  event_timed f hr h { Unshown.refl s with } rfl

theorem setSonar_same (i : LR) (s : State) : setSonar i (s.contact.sonar.get i) s = s := by
  simp [setSonar]

theorem exec_keeps {i : LR} {t o : Capture} {s : State} (hr : s.resetting = none)
    (hw : (s.contact.sonar.get i).window = .listen o) (hlow : 1200 ≤ since t o) (hhigh : since t o ≤ 24000)
    (h : since t o * 343 / 2000 < s.plan.applied.sonarStop → (s.contact.sonar.get i).close = 0 ∨
      s.activeKind = some .dock ∨ s.guard.machine ≠ .armed) :
    exec (.echoEdge i t) s = .next { s with timebase := t, contact := { s.contact with
      sonar := s.contact.sonar.set i (pinged (s.contact.sonar.get i) (some (since t o * 343 / 2000))
        (if since t o * 343 / 2000 < s.plan.applied.sonarStop ∧ (s.contact.sonar.get i).close = 0 then 1 else 0)) } } := by
  have hkeeps := completePing_keeps (i := i) (range := some (since t o * 343 / 2000)) (s := stamped t s) (by
    by_cases hnear : since t o * 343 / 2000 < s.plan.applied.sonarStop
    · exact .inr (h hnear)
    · exact .inl (decide_eq_false hnear))
  simp only [isClose_some] at hkeeps
  exact congrArg Host.Outcome.next (event_setSonar hr ((echoEdge_range (by exact hw) hlow hhigh).trans hkeeps))

/-- The state in which the second close range in a row forms its contact. -/
abbrev heardClose (i : LR) (mm : Nat) (t : Capture) (s : State) : State :=
  setSonar i (pinged (s.contact.sonar.get i) (some mm) 0) (stamped t s)

/-- Settles O28, by the time of the echo, its range and the machine. -/
theorem echoWindow : Obligations.EchoWindow := by
  unfold Obligations.EchoWindow
  intro i t s hr c answer
  have hstill {f : State → State} (h : f (stamped t s) = stamped t s) :
      s.event (fun a => f (a.atTime t)) = answer c :=
    event_setSonar (d := c) hr (h.trans (setSonar_same i (stamped t s)).symm)
  refine ⟨fun hidle => ⟨congrArg Host.Outcome.next (hstill ?_), congrArg Host.Outcome.next (hstill ?_)⟩,
    fun o ho => ⟨fun hearly => congrArg Host.Outcome.next (hstill ?early), fun hlow hhigh => ?echo,
      fun hopen => congrArg Host.Outcome.next (hstill ?listens),
      fun hclosed => congrArg Host.Outcome.next (event_setSonar hr ?times)⟩⟩
  · unfold echoEdge
    rw [show (s.contact.sonar.get i).window = .idle from hidle]
  · unfold listenTimeout
    rw [show (s.contact.sonar.get i).window = .idle from hidle]
  case early =>
    unfold echoEdge
    rw [show (s.contact.sonar.get i).window = .listen o from ho]
    exact if_pos hearly
  case listens =>
    unfold listenTimeout
    rw [show (s.contact.sonar.get i).window = .listen o from ho]
    exact if_neg (by omega)
  case times =>
    unfold listenTimeout
    rw [show (s.contact.sonar.get i).window = .listen o from ho]
    exact (if_pos hclosed).trans (completePing_keeps (.inl rfl))
  case echo =>
    intro mm
    refine ⟨fun hfar => ?far, fun hnear hfirst => ?first, fun hnear hm => ?unarmed, fun hnear hsecond hdock => ?docking,
      fun hnear hsecond hm hkind hlength => ?forms⟩
    case far =>
      rw [exec_keeps hr ho hlow hhigh fun h => absurd h (Nat.not_lt.2 hfar), if_neg fun h => Nat.not_lt.2 hfar h.1]
    case first => rw [exec_keeps hr ho hlow hhigh fun _ => .inl hfirst, if_pos ⟨hnear, hfirst⟩]
    case unarmed =>
      rw [exec_keeps hr ho hlow hhigh fun _ => .inr (.inr hm),
        if_congr (and_iff_right (show since t o * 343 / 2000 < s.plan.applied.sonarStop from hnear)) rfl rfl]
    case docking =>
      rw [exec_keeps hr ho hlow hhigh fun _ => .inr (.inl (activeKind_dock.2 hdock)), if_neg fun h => hsecond h.2]
    case forms =>
      intro src
      have hsrc : sonarSource i = src := by cases i <;> rfl
      have hforms := completePing_forms (i := i) (range := some mm) (s := stamped t s) ((isClose_some _ mm).2 hnear) hsecond
        (fun h => by
          obtain ⟨seg, ha, hk⟩ := activeKind_dock.1 h
          exact hkind seg ha hk) hm
      have hran := event_ran (f := fun a => echoEdge i t (a.atTime t)) hr ((echoEdge_range (s := stamped t s) ho hlow hhigh).trans hforms)
      obtain ⟨entry, hlast, hsources, hrange, htime, hmost⟩ := formContact_listed (src := sonarSource i) (range := some mm)
        (s := heardClose i mm t s) hlength
      have hsensors := formContact_sensors (sonarSource i) (some mm)
        (heardClose i mm t s)
      simp only [sensors, Prod.mk.injEq] at hsensors
      obtain ⟨utimebase, upart, urecv, -, -, udrive, -, ugov, -, ucontact, uguard, -, -, upins⟩ := hran.blocks
      have hframe := formContact_frame (sonarSource i) (some mm)
        (heardClose i mm t s)
      obtain ⟨ftimebase, fpart, -, fpins, frecv, fgov, -, -, fmachine, -⟩ := hframe
      refine ⟨_, entry, rfl, by rw [ucontact]; exact hsensors.2.2.2.2.2.1, by rw [ucontact]; exact hlast, hsrc ▸ hsources,
        hrange mm rfl, htime, by rw [ucontact]; exact hmost, utimebase.trans ftimebase, upart.trans fpart, upins.trans fpins,
        urecv.trans frecv, ugov.trans fgov, (congrArg Guard.machine uguard).trans (fmachine.trans hm), fun hl hq hrun hroll htrap => ?_⟩
      obtain ⟨seg, ha, hk⟩ := hroll
      have hstarts := formContact_starts (src := sonarSource i) (range := some mm)
        (s := heardClose i mm t s) hl hq hrun ha hk htrap
      rw [hstarts] at hlast ucontact udrive
      have hentry : entry = (heardClose i mm t s).entryOf (sonarSource i) (some mm) :=
        (Option.some.inj hlast).symm
      rw [ucontact, udrive, hentry, hsrc]
      exact ⟨rfl, rfl, rfl, rfl, rfl⟩

end Sys2Proof.Proofs
end

section
/-! SUPPORT. The tests of an activation, in the words of the claims (R47, R48, R82, R83, R103). -/

namespace Sys2Proof.Proofs

open Sys2Proof.Machine Sys2Proof.Safety

/-! ### Words that name nothing (R47, R205) -/

theorem bladeDirective_isNone (w : Word) : (BladeDirective.ofWord w).isNone = true ↔ ¬ w.toNat ≤ 2 := by
  unfold BladeDirective.ofWord
  split <;> simp_all
  omega

theorem onContact_isNone (w : Word) : (OnContact.ofWord w).isNone = true ↔ ¬ w.toNat ≤ 2 := by
  unfold OnContact.ofWord
  split <;> simp_all
  omega

theorem followSide_isNone (w : Word) : (FollowSide.ofWord w).isNone = true ↔ ¬ w.toNat ≤ 1 := by
  unfold FollowSide.ofWord
  split <;> simp_all
  omega

theorem kind?_none {f : Fields} (h : f.kind? = none) : ¬ (1 ≤ f.kind.toNat ∧ f.kind.toNat ≤ 6) := by
  unfold Fields.kind? Kind.ofWord at h
  split at h <;> simp_all
  omega

/-- The loop a word names, if it names one. -/
theorem loopOfWord_some {w : Word} {n : Loop} : loopOfWord w = some n ↔ n.val = w.toNat := by
  unfold loopOfWord
  split
  case isTrue h => simp [Fin.ext_iff, eq_comm]
  case isFalse h =>
    constructor
    · nofun
    · intro hn
      have := n.isLt
      omega

theorem loopOfWord_none {w : Word} : loopOfWord w = none ↔ 4 ≤ w.toNat := by
  unfold loopOfWord
  split <;> simp_all

/-! ### A segment that cannot run (R47) -/

/-- The model's test of a loop word. -/
def loopFault (s : State) (w : Word) : Bool :=
  match loopOfWord w with
  | none => true
  | some n => s.loopUnused n

theorem loopFault_iff (s : State) (w : Word) : loopFault s w = true ↔ ¬ LoopInUse s w := by
  unfold loopFault
  cases hn : loopOfWord w with
  | none =>
    have := loopOfWord_none.1 hn
    simp [LoopInUse]
    omega
  | some n =>
    have hval := loopOfWord_some.1 hn
    have hlt := n.isLt
    simp only [State.loopUnused, decide_eq_true_eq, LoopInUse, not_and_or, not_forall, not_not]
    constructor
    · exact fun h => .inr ⟨n, hval, h⟩
    · rintro (h | ⟨m, hm, h⟩)
      · omega
      · rwa [show n = m from Fin.ext (hval.trans hm.symm)]

theorem badWire_iff (s : State) (f : Fields) : badWire s f = true ↔ ¬ (LoopInUse s f.loop ∧ f.side.toNat ≤ 1) := by
  have hloop : badWire s f = (loopFault s f.loop || f.side?.isNone) := by
    unfold badWire loopFault Fields.loop?
    cases loopOfWord f.loop <;> rfl
  rw [hloop, Bool.or_eq_true, loopFault_iff, Fields.side?, followSide_isNone]
  exact not_and_or.symm

theorem badEndOn_iff (s : State) (f : Fields) : badEndOn s f = true ↔ ¬ WatchSound s f := by
  have hloop : badEndOn s f = (match f.endOn? with
      | none => true
      | some .none => false
      | some .nearStation => s.loopUnused 3
      | some .loopPresent => loopFault s f.endLoop
      | some .loopCrossed => loopFault s f.endLoop) := by
    unfold badEndOn loopFault Fields.endLoop?
    cases loopOfWord f.endLoop <;> rfl
  rw [hloop]
  have hone : f.endOn = 1 ↔ f.endOn.toNat = 1 := by rw [← BitVec.toNat_inj]; rfl
  unfold Fields.endOn? EndOn.ofWord WatchSound
  rw [hone]
  split
  case h_1 h =>
    split at h <;> simp_all
    omega
  case h_2 h =>
    split at h <;> simp_all
  case h_3 h =>
    split at h <;> simp_all [State.loopUnused]
    rfl
  case h_4 h =>
    split at h <;> simp_all [loopFault_iff]
  case h_5 h =>
    split at h <;> simp_all [loopFault_iff]

theorem badSegment_iff (s : State) (f : Fields) : badSegment s f = true ↔ ¬ SoundSegment s f := by
  have hkinds (k : Kind) (h : f.kind? = some k) : f.kind = kindWord k := kind?_iff.1 h
  unfold badSegment SoundSegment
  rw [Bool.or_eq_true, Bool.or_eq_true, bladeDirective_isNone, Fields.onContact?, onContact_isNone]
  cases hk : f.kind? with
  | none =>
    have := kind?_none hk
    simp only [or_true, true_iff]
    tauto
  | some k =>
    have hwatch := badEndOn_iff s f
    have hwire := badWire_iff s f
    rw [hkinds k hk]
    generalize WatchSound s f = soundWatch at hwatch ⊢
    generalize (LoopInUse s f.loop ∧ f.side.toNat ≤ 1) = soundWire at hwire ⊢
    cases k <;> simp [kindWord, hwatch, hwire] <;> simp only [← Nat.not_le] <;> tauto

/-! ### The loop, the boundary and the watch (R48, R82, R83, R103) -/

theorem noLoop_iff (s : State) (f : Fields) : noLoop s f = true ↔ LoopLost s f := by
  have hsteered : noLoop s f = true ↔ (f.kind? = some .track ∨ f.kind? = some .dock) ∧
      ∃ n, f.loop? = some n ∧ (s.loops.recs.get n).state = .lost := by
    unfold noLoop
    cases hk : f.kind? with
    | none => simp
    | some k => cases k <;> cases hl : f.loop? <;> simp
  rw [hsteered, kind?_iff, kind?_iff]
  exact and_congr Iff.rfl (exists_congr fun n => and_congr loopOfWord_some Iff.rfl)

theorem posClass_out_iff (c : PosClass) : c.out = true ↔ c = .outsideFront ∨ c = .outsideAll := by
  cases c <;> simp [PosClass.out]

theorem testsBoundary_iff (f : Fields) : f.testsBoundary = true ↔
    f.stopAtBoundary ≠ 0 ∧ (f.kind = 1 ∧ f.reverse = 0 ∨ f.kind = 4 ∧ f.loop ≠ 0) := by
  have hzero : f.loop? = some 0 ↔ f.loop = 0 := by
    rw [Fields.loop?, loopOfWord_some, ← BitVec.toNat_inj]
    exact eq_comm
  unfold Fields.testsBoundary
  cases hk : f.kind? with
  | none =>
    have hne (k : Kind) : f.kind ≠ kindWord k := fun h => absurd (hk.symm.trans (kind?_iff.2 h)) nofun
    have h1 := hne .roll
    have h4 := hne .track
    constructor
    · nofun
    · rintro ⟨-, ⟨h, -⟩ | ⟨h, -⟩⟩
      · exact absurd h h1
      · exact absurd h h4
  | some k =>
    rw [kind?_iff.1 hk]
    cases k <;> simp [kindWord, Fields.stops, Fields.reversed, hzero]

theorem atBoundary_iff (s : State) (f : Fields) :
    (f.testsBoundary && s.loops.posClass.out) = true ↔ AtBoundary s f := by
  rw [Bool.and_eq_true, testsBoundary_iff, posClass_out_iff, AtBoundary, and_assoc]

theorem watched_iff (f : Fields) : (f.watched = .none ↔ ¬ ((f.kind = 1 ∨ f.kind = 4) ∧ 1 ≤ f.endOn.toNat ∧ f.endOn.toNat ≤ 3)) ∧
    (f.watched = .nearStation ↔ (f.kind = 1 ∨ f.kind = 4) ∧ f.endOn.toNat = 1) ∧
    (f.watched = .loopPresent ↔ (f.kind = 1 ∨ f.kind = 4) ∧ f.endOn.toNat = 2) ∧
    (f.watched = .loopCrossed ↔ (f.kind = 1 ∨ f.kind = 4) ∧ f.endOn.toNat = 3) := by
  have hkind : (f.kind = 1 ∨ f.kind = 4) ↔ ∃ k, f.kind? = some k ∧ k.watches = true := by
    constructor
    · rintro (h | h)
      · exact ⟨.roll, kind?_iff.2 h, rfl⟩
      · exact ⟨.track, kind?_iff.2 h, rfl⟩
    · rintro ⟨k, hk, hw⟩
      rw [kind?_iff.1 hk]
      cases k <;> simp_all [Kind.watches, kindWord]
  have hend : f.endOn?.getD .none = EndOn.none ∧ ¬ (1 ≤ f.endOn.toNat ∧ f.endOn.toNat ≤ 3) ∨
      f.endOn?.getD .none = .nearStation ∧ f.endOn.toNat = 1 ∨ f.endOn?.getD .none = .loopPresent ∧ f.endOn.toNat = 2 ∨
      f.endOn?.getD .none = .loopCrossed ∧ f.endOn.toNat = 3 := by
    unfold Fields.endOn? EndOn.ofWord
    split <;> simp_all
    omega
  rw [hkind]
  unfold Fields.watched
  cases hk : f.kind? with
  | none => simp
  | some k =>
    cases hw : k.watches with
    | false => simp [hw]
    | true =>
      rcases hend with ⟨he, hn⟩ | ⟨he, hn⟩ | ⟨he, hn⟩ | ⟨he, hn⟩ <;> simp [hw, he, hn]
      omega

/-! ### The end that the activation event meets, if any -/

theorem watchMet_started {s : State} {f : Fields} {w : Watch} (hw : s.recordWatch f = some w) :
    s.watchMet f w = true ↔ WatchMet s f := by
  obtain ⟨-, hnear, hpresent, hcrossed⟩ := watched_iff f
  have hone : f.endOn = 1 ↔ f.endOn.toNat = 1 := by rw [← BitVec.toNat_inj]; rfl
  have htwo : f.endOn = 2 ↔ f.endOn.toNat = 2 := by rw [← BitVec.toNat_inj]; rfl
  unfold WatchMet
  rw [hone, htwo]
  cases hf : f.watched with
  | none => simp [State.recordWatch, hf] at hw
  | nearStation =>
    obtain ⟨hkind, hend⟩ := hnear.1 hf
    simp only [State.watchMet, hf, hkind, hend, true_and]
    simp
  | loopPresent =>
    obtain ⟨hkind, hend⟩ := hpresent.1 hf
    have hloop (n : Loop) : f.endLoop? = some n ↔ n.val = f.endLoop.toNat := loopOfWord_some
    simp only [State.watchMet, hf, hkind, hend, true_and, ← hloop]
    cases f.endLoop? <;> simp [State.frontPresent]
  | loopCrossed =>
    obtain ⟨hkind, hend⟩ := hcrossed.1 hf
    simp only [State.recordWatch, hf, Option.some.injEq] at hw
    simp only [State.watchMet, hf, hend]
    cases hloop : f.endLoop? with
    | none => simp
    | some n =>
      rw [hloop] at hw
      simp [← hw]

theorem wireEnd_boundary {s : State} {f : Fields} (h : AtBoundary s f) : s.wireEnd f = some .boundary :=
  if_pos ((atBoundary_iff s f).2 h)

theorem wireEnd_met {s : State} {f : Fields} (hw : s.plan.watch = s.recordWatch f) (hb : ¬ AtBoundary s f)
    (h : WatchMet s f) : s.wireEnd f = some .loopEvent := by
  rw [State.wireEnd, if_neg (mt (atBoundary_iff s f).1 hb)]
  cases hrecorded : s.recordWatch f with
  | none =>
    obtain ⟨hnone, -⟩ := watched_iff f
    obtain ⟨hkind, hend⟩ := h
    have hunwatched : f.watched = .none := by
      unfold State.recordWatch at hrecorded
      split at hrecorded
      · assumption
      · cases hrecorded
    refine absurd ⟨hkind, ?_⟩ (hnone.1 hunwatched)
    rcases hend with ⟨hend, -⟩ | ⟨hend, -⟩ <;> simp [hend]
  | some w =>
    rw [hw, hrecorded]
    exact if_pos ((watchMet_started hrecorded).2 h)

theorem wireEnd_none {s : State} {f : Fields} (hw : s.plan.watch = s.recordWatch f) (hb : ¬ AtBoundary s f)
    (h : ¬ WatchMet s f) : s.wireEnd f = none := by
  rw [State.wireEnd, if_neg (mt (atBoundary_iff s f).1 hb), hw]
  cases hrecorded : s.recordWatch f with
  | none => rfl
  | some w => exact if_neg (mt (watchMet_started hrecorded).1 h)

theorem startEnd_docked {s : State} {f : Fields} (hk : f.kind = 5) (h : OnContacts s) : s.startEnd f = some .docked :=
  if_pos (Bool.and_eq_true_iff.2 ⟨decide_eq_true ((kind?_iff (k := .dock)).2 hk), (contactPresent_iff s).2 h⟩)

theorem startEnd_wire {s : State} {f : Fields} (h : ¬ (f.kind = 5 ∧ OnContacts s)) (hs : s.drive.suspended = false) :
    s.startEnd f = s.wireEnd f := by
  have hundocked : (decide (f.kind? = some .dock) && s.contactPresent) ≠ true := fun hdocked => by
    obtain ⟨hk, hp⟩ := Bool.and_eq_true_iff.1 hdocked
    exact h ⟨kind?_iff.1 (of_decide_eq_true hk), (contactPresent_iff s).1 hp⟩
  rw [State.startEnd, if_neg hundocked, hs]
  rfl

/-! ### The clamps leave the tests (R49) -/

theorem atBoundary_clampFields (s : State) (f : Fields) : AtBoundary s (clampFields f) ↔ AtBoundary s f := by
  have hflag (w : Word) : clampFlag w = 0 ↔ w = 0 := by
    unfold clampFlag
    split <;> simp_all
  show (clampFlag f.stopAtBoundary ≠ 0 ∧ (f.kind = 1 ∧ clampFlag f.reverse = 0 ∨ _) ∧ _) ↔ _
  rw [Ne, hflag, hflag]
  exact Iff.rfl

theorem next_clampFields {f : Fields} (h : 47 < f.next.toNat) : 47 < (clampFields f).next.toNat := by
  show 47 < (clampNext f.next).toNat
  rw [clampNext, if_neg (by simp only [Config.slotCount]; omega)]
  decide

end Sys2Proof.Proofs
end

section
/-! SUPPORT. What an activation leaves (R46, R49, R50, R62). -/

namespace Sys2Proof.Proofs

open Sys2Proof.Machine Sys2Proof.Safety

/-! ### The judgement of the directive (R120, R121, R122) -/

theorem bladeCells_within (b : Blade) {a : Nat} (ha : a < 0x2A0 ∨ 0x2A7 < a) : ∀ c ∈ bladeCells b, c.1 ≠ a := by
  intro c hc
  have hbounds := cellsFrom_bounds hc
  simp only [addrBladeRecord, List.length_append, List.length_cons, List.length_nil, timeWords_length] at hbounds
  omega

theorem dockCells_within (d : Dock) {a : Nat} (ha : a < 0x2C0 ∨ 0x2CC < a) : ∀ c ∈ dockCells d, c.1 ≠ a := by
  intro c hc
  have hbounds := cellsFrom_bounds hc
  simp only [addrDockRecord, List.length_append, List.length_cons, List.length_nil, timeWords_length] at hbounds
  omega

theorem judgeBlade_wordBeside (s : State) {a : Nat} (ha : a < 0x2A0 ∨ 0x2A7 < a) : (judgeBlade s).word a = s.word a := by
  have hrecord (b : Blade) (t : State) : (setBlade b t).word a = t.word a :=
    Memory.read_writeAll_outside _ (bladeCells_within b ha)
  rw [State.word_eq, (judgeBlade_eq_act s).2]
  unfold actOnDirective
  split
  · exact hrecord _ _
  · exact hrecord _ _
  · exact hrecord _ _
  · rfl

/-- The judged directive is the one in force after the judgement. -/
theorem judgeBlade_directive (s : State) : (judgeBlade s).effectiveDirective = s.effectiveDirective :=
  effectiveDirective_congr (by simp) (by simp) (by simp) (by simp)

theorem judgeBlade_judged {s x : State} (hb : x.blade = s.blade) (hp : x.partTime = s.partTime) :
    Judged s (judgeBlade x) := by
  have hact := (judgeBlade_eq_act x).1
  unfold Judged
  rw [judgeBlade_effective, judgeBlade_directive, hact]
  refine ⟨rfl, fun hs hd => ?spins, fun hs hd => ?brakes, fun hoff hdriven => ?noted⟩
  case spins =>
    rw [← hb] at hs
    rw [SpinsUp, hact, hd, ← hp]
    simp [actOnDirective, hs, enterSpinup]
  case brakes =>
    rw [← hb] at hs
    rw [← hp, hd]
    rcases hs with hs | hs <;> simp [actOnDirective, hs, enterBraking]
  case noted =>
    rw [← hb] at hoff hdriven ⊢
    cases hd : x.effectiveDirective with
    | off =>
      have hnoted := judgeBlade_of_not_driven hd fun h => hdriven ⟨h, hd⟩
      rwa [hact, hd] at hnoted
    | cut =>
      have hne : x.blade.state ≠ .off := fun h => hoff ⟨h, hd⟩
      cases hs : x.blade.state with
      | off => exact absurd hs hne
      | spinup => simp [actOnDirective, hs]
      | cutting => simp [actOnDirective, hs]
      | braking => simp [actOnDirective, hs]
      | jammed => simp [actOnDirective, hs]
      | lockedOut => simp [actOnDirective, hs]

/-- Of the plan a judgement marks at most the active segment's report (R122). -/
theorem judgeBlade_marks {s : State} {seg : Segment} (ha : s.plan.active = some seg) :
    ∃ b, (judgeBlade s).plan = { s.plan with active := some { seg with uncut := b } } := by
  have hact (t : State) : (actOnDirective t).plan = t.plan := by
    unfold actOnDirective
    split <;> rfl
  unfold judgeBlade reportUncut
  split
  · refine ⟨true, ?_⟩
    simp only [markUncut, hact, ha, Option.map_some]
  · refine ⟨seg.uncut, ?_⟩
    rw [hact, ← ha]

/-! ### The owner of a kind takes its segment (R50, R90, R174, R180) -/

theorem enterNear_word (s : State) {a : Nat} (h : a < 0x010 ∨ 0x040 ≤ a) (ha : a < 0x2C0 ∨ 0x2CC < a) :
    (enterNear s).word a = s.word a :=
  (post_word _ _ h).trans (Memory.read_writeAll_outside _ (dockCells_within _ ha))

theorem beginKind_eq_update (seg : Segment) (s : State) : beginKind seg s = { s with
    track := (beginKind seg s).track
    dock := (beginKind seg s).dock
    notice := (beginKind seg s).notice
    mem := (beginKind seg s).mem } := by
  have hnear (t : State) : enterNear t = { t with
      dock := (enterNear t).dock, notice := (enterNear t).notice, mem := (enterNear t).mem } := by
    rw [enterNear, post_eq_update]
    rfl
  unfold beginKind
  split
  case h_2 =>
    unfold beginDock
    dsimp only
    split
    · rfl
    · split
      · rw [hnear]
        rfl
      · rfl
  all_goals rfl

/-- Only the Dock Unit's kinds touch a word or a notice. -/
theorem beginKind_plain {seg : Segment} (s : State) (h : ¬ (seg.fields.kind = 5 ∨ seg.fields.kind = 6)) :
    (beginKind seg s).mem = s.mem ∧ (beginKind seg s).dock = s.dock := by
  have hdock : seg.fields.kind? ≠ some .dock := fun hk => h (.inl (kind?_iff.1 hk))
  have hundock : seg.fields.kind? ≠ some .undock := fun hk => h (.inr (kind?_iff.1 hk))
  unfold beginKind
  split
  case h_2 hk => exact absurd hk hdock
  case h_3 hk => exact absurd hk hundock
  all_goals exact ⟨rfl, rfl⟩

theorem beginKind_notice {seg : Segment} (s : State) (h : seg.fields.kind ≠ 5) :
    (beginKind seg s).notice = s.notice := by
  have hdock : seg.fields.kind? ≠ some .dock := fun hk => h (kind?_iff.1 hk)
  unfold beginKind
  split
  case h_2 hk => exact absurd hk hdock
  all_goals rfl

theorem beginKind_word (seg : Segment) (s : State) {a : Nat} (h : a < 0x010 ∨ 0x040 ≤ a) (ha : a < 0x2C0 ∨ 0x2CC < a) :
    (beginKind seg s).word a = s.word a := by
  unfold beginKind
  split
  case h_2 =>
    unfold beginDock
    dsimp only
    split
    · rfl
    · split
      · exact enterNear_word _ h ha
      · exact Memory.read_writeAll_outside _ (dockCells_within _ ha)
  case h_3 => exact Memory.read_writeAll_outside _ (dockCells_within _ ha)
  all_goals rfl

theorem beginKind_untracked {seg : Segment} (s : State) (h : ¬ (seg.fields.kind = 4 ∨ seg.fields.kind = 5)) :
    (beginKind seg s).track = s.track := by
  have htrack : seg.fields.kind? ≠ some .track := fun hk => h (.inl (kind?_iff.1 hk))
  have hdock : seg.fields.kind? ≠ some .dock := fun hk => h (.inr (kind?_iff.1 hk))
  unfold beginKind
  split
  case h_1 hk => exact absurd hk htrack
  case h_2 hk => exact absurd hk hdock
  all_goals rfl

/-- What Track Steering takes over (R90). -/
def begunTrack (act : BitVec 16) (f : Fields) : Track :=
  { running := some act, loop := f.loop?, side := f.side?, offset := f.offsetVal, speed := f.speedMm
    ePrev := 0, e := 0, weak := 0, published := 0 }

theorem beginKind_tracked {seg : Segment} (s : State) (h : seg.fields.kind = 4 ∨ seg.fields.kind = 5) :
    (beginKind seg s).track = begunTrack seg.activation seg.fields := by
  rcases h with h | h
  · rw [beginKind, (kind?_iff (k := .track)).2 h]
    rfl
  · rw [beginKind, (kind?_iff (k := .dock)).2 h]
    unfold beginDock
    dsimp only
    split
    · rfl
    · split <;> simp [beginTrack, begunTrack, writeDockRecord, State.putAll]

theorem beginKind_docks {seg : Segment} {s : State} (h : seg.fields.kind = 5) (hp : ¬ OnContacts s) :
    (beginKind seg s).dock = { s.dock with
      run := .dock seg.activation, phase := some (if s.loops.stationNear then .near else .approach), tries := 0
      bumpPending := false, near := 0, back := 0, record := { s.dock.record with tries := 0 } } := by
  have hpresent : s.dock.sense.isPresent = false := Bool.eq_false_iff.2 fun h => hp ((contactPresent_iff s).1 h)
  rw [beginKind, (kind?_iff (k := .dock)).2 h]
  cases hnear : s.loops.stationNear with
  | true => simp [beginDock, State.contactPresent, hpresent, beginTrack, hnear, enterNear, writeDockRecord, State.putAll]
  | false => simp [beginDock, State.contactPresent, hpresent, beginTrack, hnear, writeDockRecord, State.putAll]

theorem beginKind_undocks {seg : Segment} (s : State) (h : seg.fields.kind = 6) :
    (beginKind seg s).dock = { s.dock with run := .undock seg.activation, phase := some .reverse } := by
  rw [beginKind, (kind?_iff (k := .undock)).2 h]
  rfl

end Sys2Proof.Proofs
end

section
/-! SUPPORT. The activation of a segment that runs on, and of one that ends at once (R46..R50, R82, R83, R103, R174). -/

namespace Sys2Proof.Proofs

open Sys2Proof.Machine Sys2Proof.Safety

/-! ### The segment begins (R50, R62) -/

/-- The active segment goes to its owner, its directive to the blade, and its watch is started. -/
def begun (seg : Segment) (x : State) : State :=
  startWatch (handStanding (directiveAfter x.plan.standing seg.fields.blade) (beginKind seg x))

/-- What the beginning of the active segment leaves. -/
structure Begun (seg : Segment) (x u : State) : Prop where
  leaves : u = { x with
    plan := u.plan, track := (beginKind seg x).track, dock := (beginKind seg x).dock, blade := u.blade
    notice := (beginKind seg x).notice, mem := u.mem }
  plan : ∃ b, u.plan = { x.plan with
    active := some { seg with uncut := b }, standing := directiveAfter x.plan.standing seg.fields.blade
    watch := x.recordWatch seg.fields }
  judged : Judged x u
  word : ∀ a, a < 0x2A0 ∨ 0x2A7 < a → u.word a = (beginKind seg x).word a

theorem startWatch_eq {s : State} {seg : Segment} (ha : s.plan.active = some seg) :
    startWatch s = { s with plan := { s.plan with watch := s.recordWatch seg.fields } } := by
  rw [startWatch, ha]

theorem begun_begun {seg : Segment} {x : State} (ha : x.plan.active = some seg) : Begun seg x (begun seg x) := by
  have hkind := beginKind_eq_update seg x
  have hactive : (beginKind seg x).plan.active = some seg := by rw [hkind]; exact ha
  obtain ⟨b, hplan⟩ : ∃ b, (handStanding (directiveAfter x.plan.standing seg.fields.blade) (beginKind seg x)).plan =
      { x.plan with active := some { seg with uncut := b }, standing := directiveAfter x.plan.standing seg.fields.blade } := by
    obtain ⟨b, hb⟩ := judgeBlade_marks (s := { beginKind seg x with
      plan := { (beginKind seg x).plan with standing := directiveAfter x.plan.standing seg.fields.blade } }) hactive
    refine ⟨b, hb.trans ?_⟩
    rw [hkind]
  have hwatch : begun seg x = { handStanding (directiveAfter x.plan.standing seg.fields.blade) (beginKind seg x) with plan :=
      { (handStanding (directiveAfter x.plan.standing seg.fields.blade) (beginKind seg x)).plan with watch := x.recordWatch seg.fields } } := by
    rw [begun, startWatch_eq (seg := { seg with uncut := b }) (by rw [hplan])]
    have hsides : (handStanding (directiveAfter x.plan.standing seg.fields.blade) (beginKind seg x)).recordWatch seg.fields = x.recordWatch seg.fields := by
      unfold State.recordWatch
      split
      · rfl
      · congr 3
        funext n
        simp [State.frontSides]
    simp only [hsides]
  constructor
  case leaves =>
    rw [hwatch, handStanding, judgeBlade_eq_update, hkind]
  case plan => exact ⟨b, by rw [hwatch, hplan]⟩
  case judged =>
    have hjudged := judgeBlade_judged (s := x) (x := { beginKind seg x with
      plan := { (beginKind seg x).plan with standing := directiveAfter x.plan.standing seg.fields.blade } }) (by simp) (by simp)
    rw [hwatch]
    exact hjudged
  case word =>
    intro a h
    rw [hwatch]
    exact judgeBlade_wordBeside _ h

/-! ### The slot is captured and its copy clamped (R46, R49) -/

/-- The segment that the capture of a slot and the clamps make. -/
def takenSegment (h : Slot) (s : State) : Segment :=
  { slot := h, activation := s.plan.activation + 1, start := s.partTime, fields := clampFields (s.slotFields h)
    contacts := 0, clamped := decide (clampFields (s.slotFields h) ≠ s.slotFields h), uncut := false }

/-- The state with the slot captured and its copy clamped. -/
def taken (h : Slot) (s : State) : State := clampActive (captureSlot h s)

theorem taken_eq (h : Slot) {s : State} (hq : s.contact.stage = .quiet) : taken h s = { s with
    mem := (s.mem.writeAll (activationCells h s.partTime)).write (slotBase h + 28) (wordB (takenSegment h s).clamped)
    plan := { s.plan with
      state := .running, active := some (takenSegment h s), activation := s.plan.activation + 1
      waiting := none, deferred := none, heldSlot := none, holdTimer := none, waitTimer := none, watch := none }
    drive := { s.drive with
      segDist := 0, runDist := 0, runTurn := 0, runTime := 0, headingRef := s.drive.heading, suspended := false } } := by
  rw [taken, captureSlot, hq]
  rfl

theorem activationCells_within {h : Slot} {now : Time} {c : Nat × Word} (hc : c ∈ activationCells h now) :
    slotBase h ≤ c.1 ∧ c.1 < slotBase h + 30 := by
  simp only [activationCells, List.mem_append, List.mem_singleton, words32] at hc
  rcases hc with hc | rfl
  · have hbounds := cellsFrom_bounds hc
    simp only [List.length_append, List.length_cons, List.length_nil] at hbounds
    omega
  · omega

theorem slotWord_apart {h n : Slot} {k : Nat} (hn : n ≠ h) (hk : k < 32) :
    slotBase n + k < slotBase h ∨ slotBase h + 30 ≤ slotBase n + k := by
  have hne : n.val ≠ h.val := fun e => hn (Fin.ext e)
  unfold slotBase
  omega

theorem taken_word {h : Slot} {s : State} (hq : s.contact.stage = .quiet) {a : Nat}
    (ha : a < slotBase h ∨ slotBase h + 30 ≤ a) : (taken h s).word a = s.word a := by
  rw [taken_eq h hq]
  refine (Memory.read_write_other _ _ (by omega)).trans (Memory.read_writeAll_outside _ fun c hc => ?_)
  have := activationCells_within hc
  omega

theorem taken_slotState {h : Slot} {s : State} (hq : s.contact.stage = .quiet) : (taken h s).slotState h = slotActive := by
  rw [taken_eq h hq]
  exact (Memory.read_write_other _ _ (by omega)).trans (read_writeAll_last _ _ (by decide) (by simp))

theorem taken_results {h : Slot} {s : State} (hq : s.contact.stage = .quiet) (hm : MemoryCanonical s) {k : Nat}
    (h20 : 20 ≤ k) (h24 : k ≤ 24) : (taken h s).word (slotBase h + k) = 0 := by
  rw [taken_eq h hq]
  refine (Memory.read_write_other _ _ (by omega)).trans ?_
  rw [activationCells, writeAll_append]
  refine (Memory.read_writeAll_outside _ (by simp; omega)).trans ?_
  obtain ⟨j, rfl⟩ : ∃ j, k = 20 + j := ⟨k - 20, by omega⟩
  have hj : j < 5 := by omega
  have hread := Memory.read_writeAll_cellsFrom hm (slotBase h + 20) j
    ([0, 0, 0, 0, 0] ++ words32 (recordTime s.partTime) ++ [0, 0, 0]) (by simp [words32]; omega)
  rw [← Nat.add_assoc, hread]
  rcases j with _ | _ | _ | _ | _ | j
  · rfl
  · rfl
  · rfl
  · rfl
  · rfl
  · omega

/-! ### An activation (R45..R50) -/

theorem activateOne_captured {h : Slot} {s : State} (hm : s.guard.machine = .armed) (hslot : s.slotState h = slotQueued)
    (hstaged : s.word 0x0BF = s.plan.appliedGen) : activateOne h s = checkCaptured (captureSlot h s) := by
  have harmed : s.armed = true := decide_eq_true hm
  have happlied : applyIfStaged s = s := if_pos hstaged
  rw [activateOne, harmed, happlied, if_neg (by decide), if_neg (not_not_intro hslot)]

theorem activate_of_one {h : Slot} {s t : State} (h1 : activateOne h s = (t, none)) : activate h s = t := by
  rw [activate, activateChain, h1]

/-- The captured slot's segment before the clamps. -/
theorem captureSlot_active (h : Slot) (s : State) : (captureSlot h s).plan.active =
    some ⟨h, s.plan.activation + 1, s.partTime, s.slotFields h, 0, false, false⟩ := rfl

theorem checkCaptured_bad {h : Slot} {s : State} (hb : ¬ SoundSegment s (s.slotFields h)) :
    checkCaptured (captureSlot h s) = settleEnd .badSegment (captureSlot h s) := by
  rw [checkCaptured, captureSlot_active]
  exact if_pos ((badSegment_iff (captureSlot h s) _).2 hb)

theorem checkCaptured_lost {h : Slot} {s : State} (hs : SoundSegment s (s.slotFields h)) (hl : LoopLost s (s.slotFields h)) :
    checkCaptured (captureSlot h s) = settleEnd .noLoop (captureSlot h s) := by
  rw [checkCaptured, captureSlot_active]
  refine (if_neg ?_).trans (if_pos ((noLoop_iff (captureSlot h s) _).2 hl))
  exact fun hb => (badSegment_iff (captureSlot h s) _).1 hb hs

/-- The outcome of the tests of an activation event. -/
def metEnd (x : State) : Option EndCause → State × Option Slot
  | some cause => settleEnd cause x
  | none => (x, none)

/-- A captured segment that can run is handed on. -/
theorem checkCaptured_begins {h : Slot} {s : State} (hq : s.contact.stage = .quiet) (hs : SoundSegment s (s.slotFields h))
    (hl : ¬ LoopLost s (s.slotFields h)) : checkCaptured (captureSlot h s) =
      metEnd (begun (takenSegment h s) (taken h s))
        ((begun (takenSegment h s) (taken h s)).startEnd (clampFields (s.slotFields h))) := by
  have hactive : (clampActive (captureSlot h s)).plan.active = some (takenSegment h s) :=
    congrArg (fun x => x.plan.active) (taken_eq h hq)
  rw [checkCaptured, captureSlot_active]
  refine (if_neg fun hb => (badSegment_iff (captureSlot h s) _).1 hb hs).trans
    ((if_neg fun hb => hl ((noLoop_iff (captureSlot h s) _).1 hb)).trans ?_)
  rw [handOn]
  dsimp only
  rw [hactive]
  rfl

/-- The begun segment, and what its tests see. -/
theorem begun_taken {h : Slot} {s : State} (hq : s.contact.stage = .quiet) :
    Begun (takenSegment h s) (taken h s) (begun (takenSegment h s) (taken h s)) :=
  begun_begun (congrArg (fun x => x.plan.active) (taken_eq h hq))

/-- What the tests of the activation event see is what the event found. -/
theorem begun_sees {h : Slot} {s : State} (hq : s.contact.stage = .quiet) :
    (begun (takenSegment h s) (taken h s)).loops = s.loops ∧
      (OnContacts (begun (takenSegment h s) (taken h s)) ↔ OnContacts s) ∧
      (begun (takenSegment h s) (taken h s)).drive.suspended = false ∧
      (begun (takenSegment h s) (taken h s)).plan.watch =
        (begun (takenSegment h s) (taken h s)).recordWatch (clampFields (s.slotFields h)) := by
  obtain ⟨b, hplan⟩ := (begun_taken (h := h) hq).plan
  have hleaves := (begun_taken (h := h) hq).leaves
  generalize begun (takenSegment h s) (taken h s) = u at hplan hleaves ⊢
  have hloops : u.loops = s.loops := by
    rw [hleaves, taken_eq h hq]
  have hsense : u.dock.sense = s.dock.sense := by
    rw [hleaves, taken_eq h hq]
    simp
  refine ⟨hloops, ?contacts, ?suspended, ?watch⟩
  case contacts => rw [OnContacts, hsense]
  case suspended => rw [hleaves, taken_eq h hq]
  case watch =>
    have htaken : (taken h s).loops = s.loops := by rw [taken_eq h hq]
    have hsides (n : Loop) : u.frontSides n = (taken h s).frontSides n := by
      rw [State.frontSides, State.frontSides, hloops, htaken]
    rw [hplan]
    unfold State.recordWatch
    rw [show u.frontSides = (taken h s).frontSides from funext hsides]
    rfl

/-- The tests of an activation that may end its segment at once. -/
structure Activable (s : State) (h : Slot) : Prop where
  armed : s.guard.machine = .armed
  queued : s.slotState h = slotQueued
  quiet : s.contact.stage = .quiet
  staged : s.word 0x0BF = s.plan.appliedGen

/-- A segment that can run and whose loop is not LOST comes to the tests of its activation event. -/
theorem Activable.begins {s : State} {h : Slot} (ha : Activable s h) (hs : SoundSegment s (s.slotFields h))
    (hl : ¬ LoopLost s (s.slotFields h)) {o : Option EndCause}
    (ho : (begun (takenSegment h s) (taken h s)).startEnd (clampFields (s.slotFields h)) = o) :
    activateOne h s = metEnd (begun (takenSegment h s) (taken h s)) o := by
  rw [activateOne_captured ha.armed ha.queued ha.staged, checkCaptured_begins ha.quiet hs hl, ho]

theorem Activable.runs {s : State} {h : Slot} (ha : Activable s h) (hr : RunsOn s h) :
    activate h s = begun (takenSegment h s) (taken h s) := by
  obtain ⟨-, hs, hl, hdock, hb, hw⟩ := hr
  obtain ⟨hloops, hcontacts, hsuspended, hwatch⟩ := begun_sees (h := h) ha.quiet
  refine activate_of_one (ha.begins hs hl (o := none) ?_)
  generalize begun (takenSegment h s) (taken h s) = u at hloops hcontacts hsuspended hwatch ⊢
  rw [startEnd_wire (f := clampFields (s.slotFields h)) (fun hd => hdock ⟨hd.1, hcontacts.1 hd.2⟩) hsuspended]
  refine wireEnd_none hwatch (fun hab => hb ?_) (fun hmet => hw ?_)
  · rwa [atBoundary_clampFields, AtBoundary, hloops] at hab
  · rwa [WatchMet, hloops] at hmet

/-- An activation whose segment ends at once, at the end of its chain, is the end of that segment. -/
theorem activate_ends {s x : State} {h : Slot} {seg : Segment} {cause : EndCause}
    (hone : activateOne h s = settleEnd cause x) (ha : x.plan.active = some seg) (hnext : 47 < seg.fields.next.toNat)
    (hc : cause.continuation seg.fields.onContact? = .advance) :
    Closed seg cause x (activate h s) ∧ (activate h s).plan = idled x.plan := by
  have hsame : activate h s = endActive cause x := by
    rw [settleEnd_last ha hnext hc] at hone
    rw [activate_of_one hone, endActive_last ha hnext hc]
  rw [hsame]
  exact endActive_ends ha hnext hc

/-- A segment over at its activation: its slot's state and cause, the plan IDLE, the activation counted. -/
abbrev EndsAtOnce (s u : State) (h : Slot) (slot cause : Word) : Prop :=
  u.plan.state = .idle ∧ u.plan.active = none ∧ u.plan.activation = s.plan.activation + 1 ∧ u.slotState h = slot ∧
    u.word (slotBase h + 20) = cause

theorem Activable.ends_bad {s : State} {h : Slot} (ha : Activable s h) (hb : ¬ SoundSegment s (s.slotFields h))
    (hnext : 47 < (s.slotFields h).next.toNat) : EndsAtOnce s (activate h s) h slotCut 10 := by
  have hone := (activateOne_captured ha.armed ha.queued ha.staged).trans (checkCaptured_bad hb)
  obtain ⟨hclosed, hplan⟩ := activate_ends hone (captureSlot_active h s) hnext rfl
  obtain ⟨hstate, hcause⟩ := hclosed.slot
  rw [EndsAtOnce, hplan]
  exact ⟨rfl, rfl, rfl, hstate, hcause⟩

theorem Activable.ends_lost {s : State} {h : Slot} (ha : Activable s h) (hs : SoundSegment s (s.slotFields h))
    (hl : LoopLost s (s.slotFields h)) (hnext : 47 < (s.slotFields h).next.toNat) :
    EndsAtOnce s (activate h s) h slotCut 9 := by
  have hone := (activateOne_captured ha.armed ha.queued ha.staged).trans (checkCaptured_lost hs hl)
  obtain ⟨hclosed, hplan⟩ := activate_ends hone (captureSlot_active h s) hnext rfl
  obtain ⟨hstate, hcause⟩ := hclosed.slot
  rw [EndsAtOnce, hplan]
  exact ⟨rfl, rfl, rfl, hstate, hcause⟩

/-- A test of the activation event ends the segment that has just begun. -/
theorem Activable.ends_begun {s : State} {h : Slot} (ha : Activable s h) (hs : SoundSegment s (s.slotFields h))
    (hl : ¬ LoopLost s (s.slotFields h)) {cause : EndCause}
    (ho : (begun (takenSegment h s) (taken h s)).startEnd (clampFields (s.slotFields h)) = some cause)
    (hnext : 47 < (s.slotFields h).next.toNat) (hc : ∀ o, cause.continuation o = .advance) :
    EndsAtOnce s (activate h s) h (endState cause) cause.code := by
  have hone := ha.begins hs hl ho
  obtain ⟨b, hactive⟩ := (begun_taken (h := h) ha.quiet).plan
  have hplan := congrArg Plan.activation hactive
  obtain ⟨hclosed, hidled⟩ := activate_ends hone (congrArg Plan.active hactive) (next_clampFields hnext) (hc _)
  obtain ⟨hstate, hcause⟩ := hclosed.slot
  rw [EndsAtOnce, hidled]
  refine ⟨rfl, rfl, hplan.trans ?_, hstate, hcause⟩
  rw [taken_eq h ha.quiet]

theorem Activable.ends_docked {s : State} {h : Slot} (ha : Activable s h) (hs : SoundSegment s (s.slotFields h))
    (hl : ¬ LoopLost s (s.slotFields h)) (hk : (s.slotFields h).kind = 5) (hd : OnContacts s)
    (hnext : 47 < (s.slotFields h).next.toNat) : EndsAtOnce s (activate h s) h slotDone 4 := by
  obtain ⟨-, hcontacts, -, -⟩ := begun_sees (h := h) ha.quiet
  exact ha.ends_begun hs hl (startEnd_docked hk (hcontacts.2 hd)) hnext fun _ => rfl

/-- The boundary and the watch end no DOCK. -/
theorem undocked_of_wire {s : State} {f : Fields} (h : AtBoundary s f ∨ WatchMet s f) : f.kind ≠ 5 := by
  intro hk
  rw [AtBoundary, WatchMet, hk] at h
  rcases h with ⟨-, ⟨h, -⟩ | ⟨h, -⟩, -⟩ | ⟨h | h, -⟩
  · exact absurd h (by decide)
  · exact absurd h (by decide)
  · exact absurd h (by decide)
  · exact absurd h (by decide)

theorem Activable.ends_boundary {s : State} {h : Slot} (ha : Activable s h) (hs : SoundSegment s (s.slotFields h))
    (hl : ¬ LoopLost s (s.slotFields h)) (hb : AtBoundary s (s.slotFields h))
    (hnext : 47 < (s.slotFields h).next.toNat) : EndsAtOnce s (activate h s) h slotDone 2 := by
  refine ha.ends_begun hs hl (cause := .boundary) ?_ hnext fun _ => rfl
  obtain ⟨hloops, -, hsuspended, -⟩ := begun_sees (h := h) ha.quiet
  generalize begun (takenSegment h s) (taken h s) = u at hloops hsuspended ⊢
  rw [startEnd_wire (f := clampFields (s.slotFields h)) (fun hd => undocked_of_wire (.inl hb) hd.1) hsuspended]
  refine wireEnd_boundary ?_
  rwa [atBoundary_clampFields, AtBoundary, hloops]

theorem Activable.ends_met {s : State} {h : Slot} (ha : Activable s h) (hs : SoundSegment s (s.slotFields h))
    (hl : ¬ LoopLost s (s.slotFields h)) (hb : ¬ AtBoundary s (s.slotFields h)) (hw : WatchMet s (s.slotFields h))
    (hnext : 47 < (s.slotFields h).next.toNat) : EndsAtOnce s (activate h s) h slotDone 3 := by
  refine ha.ends_begun hs hl (cause := .loopEvent) ?_ hnext fun _ => rfl
  obtain ⟨hloops, -, hsuspended, hwatch⟩ := begun_sees (h := h) ha.quiet
  generalize begun (takenSegment h s) (taken h s) = u at hloops hsuspended hwatch ⊢
  rw [startEnd_wire (f := clampFields (s.slotFields h)) (fun hd => undocked_of_wire (.inr hw) hd.1) hsuspended]
  refine wireEnd_met hwatch (fun hab => hb ?_) ?_
  · rwa [atBoundary_clampFields, AtBoundary, hloops] at hab
  · rwa [WatchMet, hloops]

end Sys2Proof.Proofs
end

section
/-! SUPPORT. The ACTIVE segment, and the waiting check and the hold timer (R46..R50, R56, R63). -/

namespace Sys2Proof.Proofs

open Sys2Proof.Machine Sys2Proof.Safety

/-! ### The ACTIVE segment -/

theorem directiveAfter_eq (d : Directive) (w : Word) :
    directiveAfter d w = if w = 0 then .off else if w = 1 then .cut else d := by
  have hone : w = 1 ↔ w.toNat = 1 := by rw [← BitVec.toNat_inj]; rfl
  have hzero : w = 0 ↔ w.toNat = 0 := by rw [← BitVec.toNat_inj]; rfl
  refine Eq.trans ?_ (if_congr hzero rfl (if_congr hone rfl rfl)).symm
  rw [directiveAfter, BladeDirective.ofWord]
  generalize w.toNat = k
  rcases k with _ | _ | _ | k <;> rfl

theorem recordWatch_sides {s : State} {f : Fields} (hk : f.kind = 1 ∨ f.kind = 4) (h2 : 2 ≤ f.endOn.toNat)
    (h3 : f.endOn.toNat ≤ 3) {n : Loop} (hn : n.val = f.endLoop.toNat) : s.recordWatch f = some (s.frontSides n) := by
  obtain ⟨-, -, hpresent, hcrossed⟩ := watched_iff f
  have hloop : f.endLoop? = some n := loopOfWord_some.2 hn
  rcases (by omega : f.endOn.toNat = 2 ∨ f.endOn.toNat = 3) with h | h
  · rw [State.recordWatch, hpresent.2 ⟨hk, h⟩, hloop]
    rfl
  · rw [State.recordWatch, hcrossed.2 ⟨hk, h⟩, hloop]
    rfl

theorem recordWatch_none {s : State} {f : Fields} (h : ¬ (f.kind = 1 ∨ f.kind = 4) ∨ f.endOn = 0) :
    s.recordWatch f = none := by
  obtain ⟨hnone, -⟩ := watched_iff f
  rw [State.recordWatch, hnone.2]
  rintro ⟨hk, h1, -⟩
  rcases h with h | h
  · exact h hk
  · rw [h] at h1
    exact absurd h1 (by decide)

theorem begunTrack_eq (act : BitVec 16) (f : Fields) (hside : f.side.toNat ≤ 1) : begunTrack act f =
    { running := some act, loop := (begunTrack act f).loop, side := if f.side = 0 then some .leftOut else some .rightOut
      offset := f.offset.toInt, speed := f.speed.toNat, ePrev := 0, e := 0, weak := 0, published := 0 } := by
  have hzero : f.side = 0 ↔ f.side.toNat = 0 := by rw [← BitVec.toNat_inj]; rfl
  have hsides : f.side? = if f.side = 0 then some .leftOut else some .rightOut := by
    refine Eq.trans ?_ (if_congr hzero rfl rfl).symm
    rw [Fields.side?, FollowSide.ofWord]
    generalize f.side.toNat = k at hside
    rcases k with _ | _ | k
    · rfl
    · rfl
    · omega
  rw [begunTrack, hsides]
  rfl

/-- What an activation that runs on leaves, beside the words of the slot, of the blade record and of the owner. -/
theorem Activable.leaves {s : State} {h : Slot} (ha : Activable s h) (hr : RunsOn s h) :
    ∃ seg, Activated s (activate h s) h seg := by
  obtain ⟨-, ⟨-, -, -, -, hwatch, hwire⟩, -, hdocked, -, -⟩ := id hr
  have htaken := taken_eq h ha.quiet
  rw [ha.runs hr]
  have hbegun := begun_taken (h := h) ha.quiet
  obtain ⟨b, hplan⟩ := hbegun.plan
  have hrecord (f : Fields) : (taken h s).recordWatch f = s.recordWatch f := by
    rw [htaken]
    rfl
  have hdirective : directiveAfter (taken h s).plan.standing (takenSegment h s).fields.blade =
      if (s.slotFields h).blade = 0 then .off else if (s.slotFields h).blade = 1 then .cut else s.plan.standing := by
    rw [directiveAfter_eq, htaken]
    rfl
  rw [hdirective, hrecord] at hplan
  obtain ⟨hleaves, -, hjudged, hword⟩ := hbegun
  generalize begun (takenSegment h s) (taken h s) = u at hplan hleaves hjudged hword ⊢
  have hblade : (taken h s).blade = s.blade := by rw [htaken]
  have hpart : (taken h s).partTime = s.partTime := by rw [htaken]
  have hslot := slotBase_ge h
  have hheld {k : Nat} (hk : k < 32) : u.word (slotBase h + k) = (taken h s).word (slotBase h + k) :=
    (hword _ (.inr (by omega))).trans (beginKind_word _ _ (.inr (by omega)) (.inr (by omega)))
  refine ⟨{ takenSegment h s with uncut := b }, rfl, ?plan, fun hk n hn => ?sides, fun hno => ?unwatched, ?drive,
    fun hk => ?track, fun hk => ?untracked, fun hk => ?dock, fun hk => ?undock, fun hk => ?undocked, ?judged,
    (hheld (k := 0) (by decide)).trans (taken_slotState ha.quiet),
    fun hm k h20 h24 => (hheld (by omega)).trans (taken_results ha.quiet hm h20 h24)⟩
  case plan =>
    rw [hplan, htaken]
  case sides =>
    obtain ⟨h3, -⟩ := hwatch hk.1
    rw [hplan]
    exact recordWatch_sides (f := s.slotFields h) hk.1 hk.2 h3 hn
  case unwatched =>
    rw [hplan]
    exact recordWatch_none (f := s.slotFields h) hno
  case drive => rw [hleaves, htaken]
  case track =>
    obtain ⟨-, hside⟩ := hwire hk
    have htrack : u.track = begunTrack (s.plan.activation + 1) (clampFields (s.slotFields h)) := by
      rw [hleaves]
      exact beginKind_tracked (seg := takenSegment h s) _ hk
    rw [htrack]
    exact ⟨begunTrack_eq _ (clampFields (s.slotFields h)) hside, fun n hn => loopOfWord_some.2 hn⟩
  case untracked =>
    rw [hleaves]
    exact (beginKind_untracked (seg := takenSegment h s) _ hk).trans (by rw [htaken])
  case dock =>
    have hcontacts : ¬ OnContacts (taken h s) := by
      rw [htaken]
      exact fun hd => hdocked ⟨hk, hd⟩
    rw [hleaves]
    refine (beginKind_docks (seg := takenSegment h s) hk hcontacts).trans ?_
    rw [htaken]
    rfl
  case undock =>
    rw [hleaves]
    refine (beginKind_undocks (seg := takenSegment h s) _ hk).trans ?_
    rw [htaken]
    rfl
  case undocked =>
    obtain ⟨-, hdock⟩ := beginKind_plain (seg := takenSegment h s) (taken h s) hk
    rw [hleaves]
    exact hdock.trans (by rw [htaken])
  case judged =>
    rwa [Judged, SpinsUp, hblade, hpart] at hjudged

/-- What an activation that runs on leaves unchanged (R46, R50). -/
theorem Activable.frame {s : State} {h : Slot} (ha : Activable s h) (hr : RunsOn s h) :
    activate h s = { s with
      plan := (activate h s).plan, drive := (activate h s).drive, track := (activate h s).track
      dock := (activate h s).dock, blade := (activate h s).blade, notice := (activate h s).notice
      mem := (activate h s).mem } := by
  rw [ha.runs hr, (begun_taken (h := h) ha.quiet).leaves, taken_eq h ha.quiet]

/-- Only a DOCK that begins NEAR the station posts a notice (R50, R174). -/
theorem Activable.notice {s : State} {h : Slot} (ha : Activable s h) (hr : RunsOn s h) (hk : (s.slotFields h).kind ≠ 5) :
    (activate h s).notice = s.notice := by
  rw [ha.runs hr, (begun_taken (h := h) ha.quiet).leaves]
  exact (beginKind_notice (seg := takenSegment h s) _ hk).trans (by rw [taken_eq h ha.quiet])

/-- The words that an activation leaves: all but the slot's, the blade record's and, for a kind of the Dock Unit, the
dock record's and the notices'. -/
theorem Activable.word {s : State} {h : Slot} (ha : Activable s h) (hr : RunsOn s h) {a : Nat}
    (hslot : a < slotBase h ∨ slotBase h + 30 ≤ a) (hblade : a < 0x2A0 ∨ 0x2A7 < a)
    (hdock : (s.slotFields h).kind = 5 ∨ (s.slotFields h).kind = 6 → 0x040 ≤ a ∧ (a < 0x2C0 ∨ 0x2CC < a)) :
    (activate h s).word a = s.word a := by
  rw [ha.runs hr, (begun_taken (h := h) ha.quiet).word a hblade, ← taken_word (h := h) ha.quiet hslot]
  by_cases hk : (s.slotFields h).kind = 5 ∨ (s.slotFields h).kind = 6
  · exact beginKind_word _ _ (.inr (hdock hk).1) (hdock hk).2
  · obtain ⟨hmem, -⟩ := beginKind_plain (seg := takenSegment h s) (taken h s) hk
    exact congrArg (Memory.read · a) hmem

/-! ### The waiting check and the hold timer (R45, R56, R63) -/

theorem waitingCheck_due {s : State} {e : Time} {h : Slot} (ht : s.plan.waitTimer = some e) (hw : s.plan.waiting = some h)
    (hd : due s.partTime e = true) : waitingCheck s = if s.slotState h = slotQueued ∨ s.armed = false then activate h s
      else { s with plan := { s.plan with waitTimer := some (e + 10) } } := by
  rw [waitingCheck, ht, hw]
  exact if_pos hd

theorem waitingCheck_still {s : State} (h : ∀ e, s.plan.waitTimer = some e → due s.partTime e = false) :
    waitingCheck s = s := by
  unfold waitingCheck
  split
  case h_1 e n he hn => exact if_neg (by simp [h e he])
  case h_2 => rfl

theorem holdExpiry_still {s : State} (h : ∀ e, s.plan.holdTimer = some e → due s.partTime e = false) :
    holdExpiry s = s := by
  refine if_neg ?_
  cases he : s.plan.holdTimer with
  | none => nofun
  | some e => simp [dueOpt, h e he]

/-- The blade record shows BRAKING once a driven blade brakes (R134). -/
theorem judgeBlade_brakesWord {s : State} (hoff : s.effectiveDirective = .off) (hd : Driven s.blade.state) :
    (judgeBlade s).word 0x2A0 = 3 := by
  rw [State.word_eq, (judgeBlade_eq_act s).2, hoff]
  rcases hd with hd | hd
  · simp only [actOnDirective, hd]
    exact setBlade_stateWord _ (.inr (show (3 : Word) ≠ 0 by decide))
  · simp only [actOnDirective, hd]
    exact setBlade_stateWord _ (.inr (show (3 : Word) ≠ 0 by decide))

/-- Settles O21: the waiting check activates its slot or waits on, and the hold timer takes the directive to OFF. -/
theorem planTimers : Obligations.PlanTimers := by
  unfold Obligations.PlanTimers
  intro s hr
  refine ⟨fun e h ht hw hd hm hslot => ?waits, fun e h ht hw hd hm hq hg hruns => ?activates,
    fun h => congrArg Host.Outcome.next (event_still hr (waitingCheck_still (s := { s with causes := Causes.none }) h)),
    fun h => congrArg Host.Outcome.next (event_still hr (holdExpiry_still (s := { s with causes := Causes.none }) h)),
    fun e ht hd => ?held⟩
  case waits =>
    have harmed : ¬ s.armed = false := by simp [State.armed, hm]
    have hwait : waitingCheck { s with causes := Causes.none } =
        { s with plan := { s.plan with waitTimer := some (e + 10) }, causes := Causes.none } :=
      (waitingCheck_due (s := { s with causes := Causes.none }) ht hw hd).trans
        (if_neg (not_or.2 ⟨hslot, harmed⟩))
    exact congrArg Host.Outcome.next (event_unshown hr hwait { Unshown.refl s with } rfl)
  case activates =>
    obtain ⟨x, hx⟩ : ∃ x : State, x = { s with causes := Causes.none } := ⟨_, rfl⟩
    have hready : Activable x h := by
      rw [hx]
      exact ⟨hm, hruns.1, hq, hg⟩
    have hxruns : RunsOn x h := by
      rw [hx]
      exact hruns
    have hcheck : waitingCheck { s with causes := Causes.none } = activate h x := by
      rw [← hx]
      exact (waitingCheck_due (by rw [hx]; exact ht) (by rw [hx]; exact hw) (by rw [hx]; exact hd)).trans
        (if_pos (.inl hready.queued))
    obtain ⟨seg, hactivated⟩ := hready.leaves hxruns
    have hframe := hready.frame hxruns
    have hnotice := hready.notice hxruns
    have hword := fun a => hready.word hxruns (a := a)
    generalize activate h x = b at hcheck hactivated hframe hnotice hword
    subst hx
    have hevent := event_unshown hr hcheck (by rw [hframe]; exact { Unshown.refl s with }) (by rw [hframe])
    refine ⟨_, seg, congrArg Host.Outcome.next hevent, ?_, hactivated, hnotice,
      fun a hs hb hk => hword a hs (hb.imp_right (by omega)) fun h5 => (hk h5).imp_right (Or.imp_right (by omega))⟩
    rw [hframe]
  case held =>
    have hexpiry : holdExpiry { s with causes := Causes.none } =
        judgeBlade { s with plan := { s.plan with holdTimer := none, standing := .off }, causes := Causes.none } :=
      if_pos (by simp [dueOpt, ht, hd])
    obtain ⟨x, hx⟩ : ∃ x : State, x = { s with
      plan := { s.plan with holdTimer := none, standing := .off }, causes := Causes.none } := ⟨_, rfl⟩
    have hblade : x.blade = s.blade := by rw [hx]
    have hstanding : x.plan.standing = .off := by rw [hx]
    have hoff := effectiveDirective_off (.inl hstanding)
    rw [← hx] at hexpiry
    have hframe := judgeBlade_eq_update x
    rw [judgeBlade_plan (.inl hstanding)] at hframe
    obtain ⟨heffective, -, hbrakes, -⟩ := judgeBlade_judged hblade (by rw [hx] : x.partTime = s.partTime)
    rw [judgeBlade_directive, hoff] at heffective hbrakes
    have hbrakesWord := judgeBlade_brakesWord hoff
    have hidle := judgeBlade_idle (s := x) (.inl hstanding)
    have hword := fun a => judgeBlade_wordBeside x (a := a)
    rw [hblade] at hbrakesWord hidle
    have hmem : x.mem = s.mem := by rw [hx]
    generalize judgeBlade x = b at *
    have hevent := event_unshown hr hexpiry (by rw [hframe, hx]; exact { Unshown.refl s with }) (by rw [hframe, hx])
    refine ⟨_, congrArg Host.Outcome.next hevent, ?_, heffective, fun hd => ?_, fun hd => ?_,
      fun a ha => (hword a ha).trans (congrArg (Memory.read · a) hmem)⟩
    · rw [hframe, hx]
    · obtain ⟨hstate, hduty, hbrake, htimer, -⟩ := hbrakes hd rfl
      exact ⟨hstate, hduty, hbrake, htimer, hbrakesWord hd⟩
    · exact ⟨by rw [hidle hd], by rw [hidle hd, hmem]⟩

end Sys2Proof.Proofs
end

section
/-! SUPPORT. PLAN_START (R58, R59). -/

namespace Sys2Proof.Proofs

open Sys2Proof.Machine Sys2Proof.Safety

/-! ### The slot's words stand (R46) -/

theorem slotFields_congr {s u : State} {h : Slot} (hw : ∀ k < 32, u.word (slotBase h + k) = s.word (slotBase h + k)) :
    u.slotFields h = s.slotFields h := by
  have hword (k : Nat) (hk : k < 32 := by decide) := hw k hk
  simp only [State.slotFields, State.word32, Nat.add_assoc, Nat.reduceAdd, hword 1, hword 2, hword 3, hword 4, hword 5, hword 6,
    hword 7, hword 8, hword 9, hword 10, hword 11, hword 12, hword 13, hword 14, hword 15, hword 16, hword 17, hword 18, hword 19]

theorem arrived_slotWord (code : Word) (s : State) (h : Slot) (k : Nat) :
    (arrived code s).word (slotBase h + k) = s.word (slotBase h + k) :=
  arrived_word code s (by have := slotBase_ge h; omega)

theorem arrived_slotFields (code : Word) (s : State) (h : Slot) : (arrived code s).slotFields h = s.slotFields h :=
  slotFields_congr fun k _ => arrived_slotWord code s h k

/-- An arrival leaves the tests of an activation as they are. -/
theorem runsOn_arrived (code : Word) (s : State) (h : Slot) : RunsOn (arrived code s) h ↔ RunsOn s h := by
  have hstate : (arrived code s).slotState h = s.slotState h := arrived_slotWord code s h 0
  unfold RunsOn
  rw [arrived_slotFields, hstate]
  exact Iff.rfl

/-! ### The answers of PLAN_START -/

theorem slotOfWord_some {w : Word} {h : Slot} (hw : w.toNat = h.val) : slotOfWord w = some h := by
  have hlt := h.isLt
  rw [slotOfWord, dif_pos (by omega)]
  exact congrArg some (Fin.ext hw)

theorem slotOfWord_none {w : Word} (hw : 47 < w.toNat) : slotOfWord w = none :=
  dif_neg (by simp only [Config.slotCount]; omega)

theorem arrived_argument (code : Word) (s : State) : (arrived code s).port.args.a0 = s.word 0x042 := rfl

theorem askPlanStart_done {s : State} {h : Slot} (count : BitVec 8) (hw : (s.word 0x042).toNat = h.val)
    (hm : s.guard.machine = .armed) (hs : s.slotState h = slotQueued) :
    askPlanStart count (arrived 4 s) = answerWith 4 .done count (takePlanStart h (arrived 4 s)) := by
  have harmed : (arrived 4 s).armed = true := decide_eq_true hm
  have hstate : (arrived 4 s).slotState h = slotQueued := (arrived_slotWord 4 s h 0).trans hs
  rw [askPlanStart, arrived_argument, slotOfWord_some hw]
  dsimp only
  rw [harmed, if_neg (by decide), if_neg (not_not_intro hstate)]

theorem planStart_judged {s : State} (hm : s.guard.machine ≠ .start) (hc : ∀ n, s.port.inHand ≠ .selfCheck n) :
    judgedRequest 4 s = askPlanStart (s.port.requestCount + 1) (arrived 4 s) :=
  judgeRequest_owner (s := arrived 4 s) hm hc _ _

/-- A PLAN_START that takes a head and whose effect no mirror shows at once. -/
theorem planStart_answered {s : State} {h : Slot} (hr : s.resetting = none) (hc : ∀ n, s.port.inHand ≠ .selfCheck n)
    (hw : (s.word 0x042).toNat = h.val) (hm : s.guard.machine = .armed) (hs : s.slotState h = slotQueued)
    (hu : Unshown s (takePlanStart h (arrived 4 s))) (hcauses : (takePlanStart h (arrived 4 s)).causes = Causes.none) :
    Answered s (takePlanStart h (arrived 4 s)) (s.requestEvent 4) 4 .done :=
  requestEvent_answered hr (restarts_false fun h => absurd h (by decide))
    ((planStart_judged (by rw [hm]; decide) hc).trans (askPlanStart_done _ hw hm hs)) hu hcauses

/-- The same of any effect. -/
theorem planStart_settled {s : State} {h : Slot} (hr : s.resetting = none) (hc : ∀ n, s.port.inHand ≠ .selfCheck n)
    (hw : (s.word 0x042).toNat = h.val) (hm : s.guard.machine = .armed) (hs : s.slotState h = slotQueued) :
    Settled s (takePlanStart h (arrived 4 s)) (s.requestEvent 4) 4 .done :=
  requestEvent_settled hr (restarts_false fun h => absurd h (by decide))
    ((planStart_judged (by rw [hm]; decide) hc).trans (askPlanStart_done _ hw hm hs))

/-- A PLAN_START that is turned away is answered, and does nothing besides. -/
theorem planStart_turnedAway {s : State} {r : Result} (hr : s.resetting = none) (hm : s.guard.machine ≠ .start)
    (hc : ∀ n, s.port.inHand ≠ .selfCheck n)
    (hask : askPlanStart (s.port.requestCount + 1) (arrived 4 s) = answerWith 4 r (s.port.requestCount + 1) (arrived 4 s)) :
    ∃ u, exec .planStart s = .next u ∧
      u = { s with
        port := { s.port with
          requestCount := s.port.requestCount + 1
          args := s.argWords
          answer := ⟨4, r.code, r.reason, s.port.requestCount + 1⟩ }
        notice := u.notice
        mem := u.mem } ∧
      ∀ a, 0x040 ≤ a → a ≠ 0x041 → u.word a = s.word a := by
  have hanswered : Answered s (arrived 4 s) (s.requestEvent 4) 4 r :=
    requestEvent_answered hr (restarts_false fun h => absurd h (by decide)) ((planStart_judged hm hc).trans hask)
      { Unshown.refl s with } rfl
  exact ⟨_, rfl, hanswered.leaves, fun a ha hne => (hanswered.word (.inr ha)).trans (arrived_word 4 s hne)⟩

/-! ### Activation by PLAN_START -/

theorem takePlanStart_activates {s : State} {h : Slot} (hp : s.plan.state ≠ .running) :
    takePlanStart h s = activate h s := by
  rw [takePlanStart]
  cases hs : s.plan.state with
  | running => exact absurd hs hp
  | idle => rfl
  | waitingNext => rfl
  | held => rfl

/-- An activation whose rules are embedded in a request leaves the ACTIVE segment all the same. -/
theorem activated_answered {s b u : State} {h : Slot} {seg : Segment} {code : Word}
    (hb : Activated (arrived code s) b h seg)
    (hu : u = { b with port := u.port, notice := u.notice, mem := u.mem, causes := u.causes })
    (hw : ∀ k < 32, u.word (slotBase h + k) = b.word (slotBase h + k)) : Activated s u h seg := by
  have hplan : u.plan = b.plan := by rw [hu]
  have hdrive : u.drive = b.drive := by rw [hu]
  have htrack : u.track = b.track := by rw [hu]
  have hdock : u.dock = b.dock := by rw [hu]
  have hblade : u.blade = b.blade := by rw [hu]
  have htime : u.timebase = b.timebase := by rw [hu]
  have hdirective : u.effectiveDirective = b.effectiveDirective :=
    effectiveDirective_congr (by rw [hu]) (by rw [hu]) (by rw [hu]) (by rw [hu])
  have hstate : u.slotState h = b.slotState h := hw 0 (by decide)
  unfold Activated Judged SpinsUp at hb ⊢
  rw [arrived_slotFields] at hb
  obtain ⟨hseg, hplan', hsides, hunwatched, hdrive', htracked, huntracked, hdocked, hundocked, hkept, hjudged, hactive,
    hresults⟩ := hb
  rw [hplan, hdrive, htrack, hdock, hblade, htime, hdirective, hstate]
  refine ⟨hseg, hplan', hsides, hunwatched, hdrive', htracked, huntracked, hdocked, hundocked, hkept, hjudged, hactive,
    fun hm k h20 h24 => (hw k (by omega)).trans (hresults (arrived_canonical code hm) k h20 h24)⟩

/-! ### Preemption and deferral (R59) -/

/-- The state after the RUNNING segment is cut. -/
theorem takePlanStart_preempts {s : State} {h : Slot} {old : Segment} (hp : s.plan.state = .running)
    (ha : s.plan.active = some old) : takePlanStart h s =
      if (closed old .preempted s).contact.stage = .quiet then activate h (closed old .preempted s)
      else startHold { closed old .preempted s with plan :=
        { (closed old .preempted s).plan with deferred := some h } } := by
  rw [takePlanStart, hp]
  simp only [ha, settleEnd, continuePlan, EndCause.continuation]

theorem takePlanStart_defers {s : State} {h : Slot} (hp : s.plan.state = .running) (ha : s.plan.active = none) :
    takePlanStart h s = { s with plan := { s.plan with deferred := some h } } := by
  rw [takePlanStart, hp, ha]

theorem closed_plan (seg : Segment) (cause : EndCause) (s : State) :
    (closed seg cause s).plan = { s.plan with active := none, watch := none } := by
  have hplan : (closed seg cause s).plan = (closeSegment seg cause s).plan := by simp [closed]
  rw [hplan, closeSegment_plan]

/-- The end of a segment writes no word of the host's requests and settings. -/
theorem closed_hostWord (seg : Segment) (cause : EndCause) (s : State) {a : Nat} (h1 : 0x040 ≤ a) (h2 : a < 0x280) :
    (closed seg cause s).word a = s.word a := by
  have hresults : ∀ c ∈ resultCells seg cause s.segmentMm (s.partTime - seg.start), c.1 ≠ a := by
    intro c hc
    have hslot := slotBase_ge seg.slot
    simp only [resultCells, List.mem_append, List.mem_singleton, words32] at hc
    rcases hc with (hc | hc) | rfl
    · have := cellsFrom_bounds hc
      omega
    · have := cellsFrom_bounds hc
      omega
    · omega
  refine (postEnd_word _ _ _ (.inr h1)).trans ?_
  unfold closeSegment reportDocked
  split
  · exact (post_word _ _ (.inr h1)).trans ((endDock_word _ _ (.inl h2)).trans (Memory.read_writeAll_outside _ hresults))
  · exact (endDock_word _ _ (.inl h2)).trans (Memory.read_writeAll_outside _ hresults)

theorem startHold_starts {s : State} (hh : s.plan.holdTimer = none) (hb : s.plan.applied.bladeHold ≠ 0) :
    (startHold s).plan.holdTimer = some (s.partTime + BitVec.ofNat 32 s.plan.applied.bladeHold) := by
  rw [startHold, hh]
  dsimp only
  rw [if_neg hb]

theorem startHold_activation (s : State) : (startHold s).plan.activation = s.plan.activation := by
  unfold startHold
  split
  · rfl
  · split
    · rw [handStanding, judgeBlade_plan (.inl rfl)]
    · rfl

/-- The head of a preempting PLAN_START is tested as the event found it. -/
theorem activable_preempted {s : State} {h : Slot} {old : Segment} (ha : Activable s h) (hr : RunsOn s h) (hne : h ≠ old.slot) :
    Activable (closed old .preempted s) h ∧ RunsOn (closed old .preempted s) h ∧
      (closed old .preempted s).slotFields h = s.slotFields h := by
  have hclosed := closed_closed old .preempted s
  obtain ⟨hcontact, hguard, hloops, -⟩ := hclosed.frame
  have hstate : (closed old .preempted s).slotState h = s.slotState h := hclosed.others h 0 hne (by decide)
  have hfields : (closed old .preempted s).slotFields h = s.slotFields h :=
    slotFields_congr fun k hk => hclosed.others h k hne hk
  have hsense : (closed old .preempted s).dock.sense = s.dock.sense := by simp
  refine ⟨⟨by rw [hguard]; exact ha.armed, hstate.trans ha.queued, by rw [hcontact]; exact ha.quiet, ?_⟩, ?_, hfields⟩
  · rw [closed_plan]
    exact (closed_hostWord old .preempted s (by decide) (by decide)).trans ha.staged
  · unfold RunsOn SoundSegment WatchSound LoopInUse LoopLost OnContacts AtBoundary WatchMet at hr ⊢
    rw [hstate, hfields, hloops, hsense]
    exact hr

/-- An ACTIVE segment leaves the slots of the others. -/
theorem Activable.otherSlot {s : State} {h n : Slot} (ha : Activable s h) (hr : RunsOn s h) (hn : n ≠ h) {k : Nat}
    (hk : k < 32) : (activate h s).word (slotBase n + k) = s.word (slotBase n + k) := by
  have := slotBase_ge n
  exact ha.word hr (slotWord_apart hn hk) (.inr (by omega)) fun _ => ⟨by omega, .inr (by omega)⟩

/-! ### The clauses of PLAN_START, one by one -/

/-- The tests of an activation, in the state as the request arrived. -/
theorem activable_arrived {s : State} {h : Slot} (hm : s.guard.machine = .armed) (hs : s.slotState h = slotQueued)
    (hq : s.contact.stage = .quiet) (hg : s.word 0x0BF = s.plan.appliedGen) : Activable (arrived 4 s) h :=
  ⟨hm, (arrived_slotWord 4 s h 0).trans hs, hq, (arrived_word 4 s (by decide)).trans hg⟩

section
variable {s : State} {h : Slot} (hr : s.resetting = none) (hc : ∀ n, s.port.inHand ≠ .selfCheck n)
  (hw : (s.word 0x042).toNat = h.val) (hm : s.guard.machine = .armed)
include hr hc hw hm

theorem planStart_runs (hp : s.plan.state ≠ .running) (hq : s.contact.stage = .quiet)
    (hg : s.word 0x0BF = s.plan.appliedGen) (hruns : RunsOn s h) :
    ∃ u seg, exec .planStart s = .next u ∧
      u = { s with
        plan := u.plan, drive := u.drive, track := u.track, dock := u.dock, blade := u.blade
        port := { s.port with
          requestCount := s.port.requestCount + 1
          args := s.argWords
          answer := ⟨4, 1, 0, s.port.requestCount + 1⟩ }
        notice := u.notice
        mem := u.mem } ∧
      Activated s u h seg := by
  have hready := activable_arrived hm hruns.1 hq hg
  have hxruns := (runsOn_arrived 4 s h).2 hruns
  have htakes := takePlanStart_activates (s := arrived 4 s) (h := h) hp
  have hframe := hready.frame hxruns
  obtain ⟨seg, hactivated⟩ := hready.leaves hxruns
  rw [← htakes] at hframe hactivated
  have hanswered := planStart_answered hr hc hw hm hruns.1 (by rw [hframe]; exact { Unshown.refl s with }) (by rw [hframe]; rfl)
  generalize takePlanStart h (arrived 4 s) = b at hframe hactivated hanswered
  have hleaves := hanswered.leaves
  have hword (k : Nat) : (s.requestEvent 4).word (slotBase h + k) = b.word (slotBase h + k) :=
    hanswered.word (.inr (by have := slotBase_ge h; omega))
  refine ⟨_, seg, rfl, ?_, activated_answered hactivated (by rw [hleaves]) fun k _ => hword k⟩
  rw [hleaves, hframe]
  rfl

theorem planStart_ends (hs : s.slotState h = slotQueued) (hp : s.plan.state ≠ .running) {slot cause : Word}
    (hends : EndsAtOnce (arrived 4 s) (activate h (arrived 4 s)) h slot cause) :
    ∃ u, exec .planStart s = .next u ∧ u.plan.state = .idle ∧ u.plan.active = none ∧
      u.plan.activation = s.plan.activation + 1 ∧ u.slotState h = slot ∧ u.word (slotBase h + 20) = cause ∧
      u.port.answer = ⟨4, 1, 0, s.port.requestCount + 1⟩ := by
  rw [← takePlanStart_activates (s := arrived 4 s) (h := h) hp] at hends
  have hsettled := planStart_settled hr hc hw hm hs
  obtain ⟨-, -, -, -, hplan, -⟩ := hsettled.blocks
  obtain ⟨hstate, hactive, hactivation, hslot, hcause⟩ := hends
  refine ⟨_, rfl, ?_, ?_, ?_, (hsettled.slotWord h 0).trans hslot, (hsettled.slotWord h 20).trans hcause, hsettled.answer⟩
  · rw [hplan, hstate]
  · rw [hplan, hactive]
  · rw [hplan, hactivation]
    rfl

theorem planStart_preempts {old : Segment} (hp : s.plan.state = .running) (ha : s.plan.active = some old)
    (hne : old.slot ≠ h) (hq : s.contact.stage = .quiet) (hg : s.word 0x0BF = s.plan.appliedGen) (hruns : RunsOn s h) :
    ∃ u seg, exec .planStart s = .next u ∧ u.slotState old.slot = slotCut ∧
      u.word (slotBase old.slot + 20) = 14 ∧ u.plan.state = .running ∧ u.plan.active = some seg ∧ seg.slot = h ∧
      seg.activation = s.plan.activation + 1 ∧ seg.start = s.partTime ∧ seg.fields = clampFields (s.slotFields h) ∧
      u.slotState h = slotActive ∧ u.drive.suspended = false ∧ u.drive.wheels = s.drive.wheels ∧
      u.port.answer = ⟨4, 1, 0, s.port.requestCount + 1⟩ := by
  have hsettled := planStart_settled hr hc hw hm hruns.1
  obtain ⟨hready, hxruns, hfields⟩ := activable_preempted (old := old) (activable_arrived hm hruns.1 hq hg)
    ((runsOn_arrived 4 s h).2 hruns) hne.symm
  have hclosed := closed_closed old .preempted (arrived 4 s)
  have htakes := takePlanStart_preempts (s := arrived 4 s) (h := h) hp ha
  rw [if_pos hready.quiet] at htakes
  obtain ⟨-, -, -, -, hplan, hdrive, -⟩ := hsettled.blocks
  obtain ⟨seg, hseg, hactive, -, -, hdrive', -, -, -, -, -, -, hslot, -⟩ := hready.leaves hxruns
  have hother := fun k hk => hready.otherSlot hxruns hne (k := k) hk
  have hactivation := congrArg Plan.activation (closed_plan old .preempted (arrived 4 s))
  have hpart : (closed old .preempted (arrived 4 s)).partTime = s.partTime := by
    obtain ⟨-, -, -, -, hpart, -⟩ := hclosed.frame
    exact hpart
  rw [hclosed.drive] at hdrive'
  rw [hactivation, hpart, hfields, arrived_slotFields] at hseg
  rw [← htakes] at hactive hdrive' hslot hother
  obtain ⟨hstate, hcause⟩ := hclosed.slot
  refine ⟨_, seg, rfl, ((hsettled.slotWord old.slot 0).trans (hother 0 (by decide))).trans hstate,
    ((hsettled.slotWord old.slot 20).trans (hother 20 (by decide))).trans hcause, ?_, ?_, ?_, ?_, ?_, ?_,
    (hsettled.slotWord h 0).trans hslot, ?_, ?_, hsettled.answer⟩
  · rw [hplan, hactive]
  · rw [hplan, hactive]
  · rw [hseg]
  · rw [hseg]
    rfl
  · rw [hseg]
  · rw [hseg]
  · rw [hdrive, hdrive']
  · rw [hdrive, hdrive']
    rfl

theorem planStart_defers {old : Segment} (hs : s.slotState h = slotQueued) (hp : s.plan.state = .running)
    (ha : s.plan.active = some old) (hq : s.contact.stage ≠ .quiet) :
    ∃ u, exec .planStart s = .next u ∧ u.plan.state = .running ∧ u.plan.active = none ∧
      u.plan.deferred = some h ∧ u.slotState old.slot = slotCut ∧ u.word (slotBase old.slot + 20) = 14 ∧
      u.plan.activation = s.plan.activation ∧ u.contact = s.contact ∧ u.drive.suspended = false ∧
      (s.plan.holdTimer = none → s.plan.applied.bladeHold ≠ 0 →
        u.plan.holdTimer = some (s.partTime + BitVec.ofNat 32 s.plan.applied.bladeHold)) ∧
      u.port.answer = ⟨4, 1, 0, s.port.requestCount + 1⟩ := by
  have hsettled := planStart_settled hr hc hw hm hs
  obtain ⟨-, -, -, -, hplan, hdrive, -, -, -, hcontact, -⟩ := hsettled.blocks
  have hclosed : Closed old .preempted (arrived 4 s) { closed old .preempted (arrived 4 s) with
      plan := { (closed old .preempted (arrived 4 s)).plan with deferred := some h } } :=
    (closed_closed old .preempted (arrived 4 s)).after (fun _ _ => rfl) rfl rfl rfl ⟨rfl, rfl, rfl, rfl, rfl, rfl, rfl⟩
  obtain ⟨hstage, -⟩ := (closed_closed old .preempted (arrived 4 s)).frame
  have htakes := takePlanStart_preempts (s := arrived 4 s) (h := h) hp ha
  rw [if_neg (by rw [hstage]; exact hq), closed_plan] at htakes
  rw [closed_plan] at hclosed
  obtain ⟨x, hx⟩ : ∃ x : State, x = { closed old .preempted (arrived 4 s) with
    plan := { ({ (arrived 4 s).plan with active := none, watch := none } : Plan) with deferred := some h } } := ⟨_, rfl⟩
  rw [← hx] at htakes hclosed
  have hheld := hclosed.startHold
  obtain ⟨hstate, hactive, -, hdeferred⟩ := startHold_state x
  have hactivation := startHold_activation x
  have hxplan : x.plan = { s.plan with active := none, watch := none, deferred := some h } := by rw [hx]; rfl
  obtain ⟨hxcontact, -, -, -, hxpart, -⟩ := hclosed.frame
  have hstarts := startHold_starts (s := x)
  rw [hxpart, hxplan] at hstarts
  rw [hxplan] at hstate hactive hdeferred hactivation
  rw [htakes] at hplan hdrive hcontact hsettled
  obtain ⟨hcut, hcause⟩ := hheld.slot
  obtain ⟨hcontact', -⟩ := hheld.frame
  refine ⟨_, rfl, ?_, ?_, ?_, (hsettled.slotWord old.slot 0).trans hcut, (hsettled.slotWord old.slot 20).trans hcause,
    ?_, ?_, ?_, fun hnone hhold => ?_, hsettled.answer⟩
  · rw [hplan, hstate, hp]
  · rw [hplan, hactive]
  · rw [hplan, hdeferred]
  · rw [hplan, hactivation]
  · rw [hcontact, hcontact']
    rfl
  · rw [hdrive, hheld.drive]
  · rw [hplan, hstarts hnone hhold]
    rfl

theorem planStart_replaces (hs : s.slotState h = slotQueued) (hp : s.plan.state = .running) (ha : s.plan.active = none) :
    ∃ u, exec .planStart s = .next u ∧
      u = { s with
        plan := { s.plan with deferred := some h }
        port := { s.port with
          requestCount := s.port.requestCount + 1
          args := s.argWords
          answer := ⟨4, 1, 0, s.port.requestCount + 1⟩ }
        notice := u.notice
        mem := u.mem } ∧
      ∀ a, 0x040 ≤ a → a ≠ 0x041 → u.word a = s.word a := by
  have htakes := takePlanStart_defers (s := arrived 4 s) (h := h) hp ha
  have hanswered := planStart_answered hr hc hw hm hs (by rw [htakes]; exact { Unshown.refl s with }) (by rw [htakes]; rfl)
  rw [htakes] at hanswered
  exact ⟨_, rfl, hanswered.leaves, fun a ha hne => (hanswered.word (.inr ha)).trans (arrived_word 4 s hne)⟩

end

/-- Settles O37: the rows that turn a head away, then the activation by the plan's state and the segment's tests. -/
theorem planStart : Obligations.PlanStart := by
  unfold Obligations.PlanStart
  intro s hr hstart hc
  refine ⟨fun hw => planStart_turnedAway (r := .badArgument) hr hstart hc ?argument, fun hw hm => planStart_turnedAway (r := .refusedState) hr hstart hc ?unarmed,
    fun h hw hm => ⟨fun hs => planStart_turnedAway (r := .refusedCondition reasonNotQueued) hr hstart hc ?unqueued, planStart_runs hr hc hw hm,
      fun hs hp hq hg => ?ends, fun old => planStart_preempts hr hc hw hm, fun old => planStart_defers hr hc hw hm,
      planStart_replaces hr hc hw hm⟩⟩
  case argument =>
    rw [askPlanStart, arrived_argument, slotOfWord_none hw]
  case unarmed =>
    have hslot : slotOfWord (s.word 0x042) = some ⟨(s.word 0x042).toNat, Nat.lt_succ_of_le hw⟩ :=
      slotOfWord_some rfl
    have harmed : (arrived 4 s).armed = false := decide_eq_false hm
    rw [askPlanStart, arrived_argument, hslot]
    dsimp only
    rw [harmed]
    exact if_pos rfl
  case unqueued =>
    have harmed : (arrived 4 s).armed = true := decide_eq_true hm
    have hstate : (arrived 4 s).slotState h ≠ slotQueued := fun e => hs ((arrived_slotWord 4 s h 0).symm.trans e)
    rw [askPlanStart, arrived_argument, slotOfWord_some hw]
    dsimp only
    rw [harmed, if_neg (by decide), if_pos hstate]
  case ends =>
    have hready := activable_arrived hm hs hq hg
    have hfields := arrived_slotFields 4 s h
    have hbad := hready.ends_bad
    have hlost := hready.ends_lost
    have hdocked := hready.ends_docked
    have hboundary := hready.ends_boundary
    have hmet := hready.ends_met
    rw [hfields] at hbad hlost hdocked hboundary hmet
    exact ⟨fun h1 hn => planStart_ends hr hc hw hm hs hp (hbad h1 hn),
      fun h1 h2 hn => planStart_ends hr hc hw hm hs hp (hlost h1 h2 hn),
      fun h1 h2 h3 h4 hn => planStart_ends hr hc hw hm hs hp (hdocked h1 h2 h3 h4 hn),
      fun h1 h2 h3 hn => planStart_ends hr hc hw hm hs hp (hboundary h1 h2 h3 hn),
      fun h1 h2 h3 h4 hn => planStart_ends hr hc hw hm hs hp (hmet h1 h2 h3 h4 hn)⟩

end Sys2Proof.Proofs
end

section
/-! SUPPORT. What a publication of the Loop Table leaves with no segment active (R31, R32, R34, R160, R163, R164). -/

namespace Sys2Proof.Proofs

open Sys2Proof.Machine Sys2Proof.Safety

/-! ### Notices of LOOP, one after another (R198) -/

/-- The LOOP source after a list of notices. -/
def toldLoop (enabled : Bool) (st : SourceState) (rs : List Report) : SourceState :=
  rs.foldl (fun st r => st.posted r enabled) st

theorem toldLoop_append (enabled : Bool) (st : SourceState) (rs rs' : List Report) :
    toldLoop enabled st (rs ++ rs') = toldLoop enabled (toldLoop enabled st rs) rs' := List.foldl_append

theorem toldLoop_concat (enabled : Bool) (st : SourceState) (rs : List Report) (r : Report) :
    toldLoop enabled st (rs ++ [r]) = (toldLoop enabled st rs).posted r enabled := toldLoop_append ..

/-- Each notice counts one, up to 255, and sets the pending flag of an enabled source. -/
theorem toldLoop_counts (enabled : Bool) (st : SourceState) (rs : List Report) :
    (toldLoop enabled st rs).count = (if rs.length = 0 then st.count else min 255 (st.count + rs.length)) ∧
      (toldLoop enabled st rs).pending = (st.pending || (decide (0 < rs.length) && enabled)) := by
  induction rs using List.reverseRecOn with
  | nil => exact ⟨rfl, by simp [toldLoop]⟩
  | append_singleton rs r ih =>
    obtain ⟨hcount, hpending⟩ := ih
    rw [toldLoop_concat]
    simp only [SourceState.posted, satAdd_eq, hcount, hpending, List.length_append, List.length_singleton]
    constructor
    · split <;> simp_all
      omega
    · cases enabled <;> simp

/-! ### What a publication leaves -/

/-- What a publication to the Guard and the Blade Controller leaves, with the notices of LOOP that it makes. -/
structure Publishes (rs : List Report) (s u : State) : Prop where
  leaves : u = { s with
    loops := u.loops, blade := u.blade, guard := u.guard, notice := u.notice, mem := u.mem, causes := u.causes }
  guard : u.guard = { s.guard with
    recovery := u.guard.recovery, escape := u.guard.escape, noSignal := u.guard.noSignal }
  word : ∀ a, a < 0x010 ∨ 0x040 ≤ a → a < 0x2A0 ∨ 0x2A7 < a → u.word a = s.word a
  loop : s.noticesHeld = false →
    u.notice.loop = toldLoop (sourceEnabled s.noticeEnable .loop) s.notice.loop rs
  others : ∀ a, a ≠ .loop → u.notice.get a = s.notice.get a

theorem Publishes.refl (s : State) : Publishes [] s s :=
  ⟨rfl, rfl, fun _ _ _ => rfl, fun _ => rfl, fun _ _ => rfl⟩

theorem Publishes.held {rs : List Report} {s u : State} (h : Publishes rs s u) : u.noticesHeld = s.noticesHeld := by
  have hmachine : u.guard.machine = s.guard.machine := by rw [h.guard]
  have hport : u.port = s.port := by rw [h.leaves]
  rw [State.noticesHeld, State.noticesHeld, hmachine, hport]

theorem Publishes.enable {rs : List Report} {s u : State} (h : Publishes rs s u) : u.noticeEnable = s.noticeEnable :=
  h.word 0x062 (.inr (by decide)) (.inl (by decide))

theorem Publishes.trans {rs rs' : List Report} {s t u : State} (h : Publishes rs s t) (h' : Publishes rs' t u) :
    Publishes (rs ++ rs') s u where
  leaves := by rw [h'.leaves, h.leaves]
  guard := by rw [h'.guard, h.guard]
  word a h1 h2 := (h'.word a h1 h2).trans (h.word a h1 h2)
  loop hopen := by
    rw [h'.loop (h.held.trans hopen), h.enable, h.loop hopen, toldLoop_append]
  others a ha := (h'.others a ha).trans (h.others a ha)

/-- A notice of LOOP alone. -/
theorem publishes_post {r : Report} (hr : r.source = .loop) (s : State) : Publishes [r] s (post r s) where
  leaves := by rw [post_eq_update]
  guard := by simp
  word a h _ := post_word r s h
  loop hopen := by
    have hget := setSource_get r.source ((s.notice.get r.source).posted r (sourceEnabled s.noticeEnable r.source)) s
    rw [hr] at hget
    rw [post_open hopen, hr]
    exact hget
  others a ha := post_get_other (by rw [hr]; exact ha) s

/-- A change of the table alone. -/
theorem publishes_loops (s : State) (l : LoopTable) (c : Causes) : Publishes [] s { s with loops := l, causes := c } :=
  ⟨rfl, rfl, fun _ _ _ => rfl, fun _ => rfl, fun _ _ => rfl⟩

/-- A judgement of the blade with no segment active. -/
theorem judgeBlade_unmarked {s : State} (h : s.plan.active = none) : (judgeBlade s).plan = s.plan := by
  have hact (t : State) : (actOnDirective t).plan = t.plan := by
    unfold actOnDirective
    split <;> rfl
  unfold judgeBlade reportUncut
  split
  · simp only [markUncut, hact, h, Option.map_none]
    rw [← h]
  · exact hact _

theorem publishes_judgeBlade {s : State} (h : s.plan.active = none) : Publishes [] s (judgeBlade s) where
  leaves := by
    have hleaves := judgeBlade_eq_update s
    rw [judgeBlade_unmarked h] at hleaves
    rw [hleaves]
  guard := by simp
  word a _ ha := judgeBlade_wordBeside s ha
  loop _ := by simp [toldLoop]
  others a _ := by simp

/-! ### The loop states (R31, R163) -/

/-- The loop state that the map and the coil states give. -/
def loopStateOf (s : State) (n : Loop) : LoopState :=
  if entryUnused (s.plan.applied.loopMap.get n) then .unused else coilsState (s.loops.recs.get n).coils

/-- What the Guard's no-signal timer becomes at a state of loop 0. -/
def heardSignal (s : State) (before after : LoopState) : Option Time :=
  if after = before then s.guard.noSignal
  else if after.silent then (if before.silent then s.guard.noSignal else some (s.partTime + 2000)) else none

/-- The notices that a change of a loop state makes. -/
def stateReports (before after : LoopState) (n : Loop) : List Report := if after = before then [] else [.loopState n]

theorem followNoSignal_eq (before after : LoopState) (s : State) (h : after ≠ before) :
    followNoSignal before after s = { s with guard := { s.guard with noSignal := heardSignal s before after } } := by
  rw [heardSignal, if_neg h]
  cases ha : after.silent <;> cases hb : before.silent <;> simp [followNoSignal, ha, hb]

theorem recomputeLoop_same {s : State} {n : Loop} (h : loopStateOf s n = (s.loops.recs.get n).state) :
    recomputeLoop n s = s := if_pos h

theorem recomputeLoop_changed {s : State} {n : Loop} (h : loopStateOf s n ≠ (s.loops.recs.get n).state) :
    recomputeLoop n s =
      (if n = 0 then followNoSignal (s.loops.recs.get n).state (loopStateOf s n) else id)
        (post (.loopState n) (noteLoops { s with loops := { s.loops with
          recs := s.loops.recs.set n { s.loops.recs.get n with state := loopStateOf s n } } })) := by
  refine (if_neg h).trans ?_
  split <;> rfl

/-- A loop state alone is recomputed: the table, the Guard's timer, and the notice of a change. -/
structure Recomputed (n : Loop) (s u : State) : Prop where
  publishes : Publishes (stateReports (s.loops.recs.get n).state (loopStateOf s n) n) s u
  loops : u.loops = { s.loops with recs := s.loops.recs.set n { s.loops.recs.get n with state := loopStateOf s n } }
  blade : u.blade = s.blade
  guard : u.guard = { s.guard with
    noSignal := if n = 0 then heardSignal s (s.loops.recs.get n).state (loopStateOf s n) else s.guard.noSignal }

theorem recomputed (n : Loop) (s : State) : Recomputed n s (recomputeLoop n s) := by
  by_cases h : loopStateOf s n = (s.loops.recs.get n).state
  · rw [recomputeLoop_same h]
    refine ⟨?_, ?_, rfl, ?_⟩
    · rw [stateReports, if_pos h]
      exact Publishes.refl s
    · rw [h, Four.set_get]
    · rw [heardSignal, if_pos h]
      simp
  · obtain ⟨x, hx⟩ : ∃ x, x = post (.loopState n) (noteLoops { s with loops := { s.loops with
      recs := s.loops.recs.set n { s.loops.recs.get n with state := loopStateOf s n } } }) := ⟨_, rfl⟩
    have hpublishes : Publishes [.loopState n] s x := by
      rw [hx]
      exact (publishes_loops s _ _).trans (publishes_post (r := .loopState n) rfl _)
    have hloops : x.loops = { s.loops with
        recs := s.loops.recs.set n { s.loops.recs.get n with state := loopStateOf s n } } := by rw [hx]; simp [noteLoops]
    have hblade : x.blade = s.blade := by rw [hx]; simp [noteLoops]
    have hguard : x.guard = s.guard := by rw [hx]; simp [noteLoops]
    have hpart : x.partTime = s.partTime := by rw [hx]; simp [noteLoops]
    rw [recomputeLoop_changed h, ← hx]
    by_cases h0 : n = 0
    · have hfollow := followNoSignal_eq (s.loops.recs.get n).state (loopStateOf s n) x h
      have hheard : heardSignal x (s.loops.recs.get n).state (loopStateOf s n) =
          heardSignal s (s.loops.recs.get n).state (loopStateOf s n) := by
        rw [heardSignal, heardSignal, hguard, hpart]
      rw [if_pos h0, hfollow, hheard]
      refine ⟨?_, hloops, hblade, ?_⟩
      · rw [stateReports, if_neg h]
        exact hpublishes.trans ⟨rfl, rfl, fun _ _ _ => rfl, fun _ => rfl, fun _ _ => rfl⟩
      · rw [if_pos h0, hguard]
    · rw [if_neg h0]
      refine ⟨?_, hloops, hblade, ?_⟩
      · rw [stateReports, if_neg h]
        exact hpublishes
      · rw [if_neg h0]
        exact hguard

/-- The table with every loop state as the map and the coil states give it. -/
def statesGiven (s : State) : Four LoopRec :=
  s.loops.recs.mapIdx fun n r => { r with state := loopStateOf s n }

/-- The notices of the loop states that change, in rising loop number. -/
def statesReports (s : State) : List Report :=
  stateReports s.loops.recs.l0.state (loopStateOf s 0) 0 ++ stateReports s.loops.recs.l1.state (loopStateOf s 1) 1 ++
    stateReports s.loops.recs.l2.state (loopStateOf s 2) 2 ++ stateReports s.loops.recs.l3.state (loopStateOf s 3) 3

/-- All loop states are recomputed. -/
structure RecomputedAll (s u : State) : Prop where
  publishes : Publishes (statesReports s) s u
  loops : u.loops = { s.loops with recs := statesGiven s }
  blade : u.blade = s.blade
  guard : u.guard = { s.guard with noSignal := heardSignal s s.loops.recs.l0.state (loopStateOf s 0) }

/-- The recomputation of one loop leaves the terms of the others. -/
theorem Recomputed.terms {n m : Loop} {s u : State} (h : Recomputed n s u) (hm : m ≠ n) :
    loopStateOf u m = loopStateOf s m ∧ u.loops.recs.get m = s.loops.recs.get m := by
  have hplan : u.plan = s.plan := by rw [h.publishes.leaves]
  have hget : u.loops.recs.get m = s.loops.recs.get m := by
    rw [h.loops]
    exact Four.get_set_other _ _ hm
  exact ⟨by rw [loopStateOf, loopStateOf, hplan, hget], hget⟩

theorem recomputedAll (s : State) : RecomputedAll s (recomputeLoops s) := by
  obtain ⟨a, ha⟩ : ∃ a, a = recomputeLoop 0 s := ⟨_, rfl⟩
  obtain ⟨b, hb⟩ : ∃ b, b = recomputeLoop 1 a := ⟨_, rfl⟩
  obtain ⟨c, hc⟩ : ∃ c, c = recomputeLoop 2 b := ⟨_, rfl⟩
  obtain ⟨d, hd⟩ : ∃ d, d = recomputeLoop 3 c := ⟨_, rfl⟩
  have h0 := recomputed 0 s
  have h1 := recomputed 1 a
  have h2 := recomputed 2 b
  have h3 := recomputed 3 c
  have hall : recomputeLoops s = d := by rw [hd, hc, hb, ha, recomputeLoops]
  rw [← ha] at h0
  rw [← hb] at h1
  rw [← hc] at h2
  rw [← hd] at h3
  obtain ⟨ha1, hra1⟩ := h0.terms (m := 1) (by decide)
  obtain ⟨ha2, hra2⟩ := h0.terms (m := 2) (by decide)
  obtain ⟨ha3, hra3⟩ := h0.terms (m := 3) (by decide)
  obtain ⟨hb2, hrb2⟩ := h1.terms (m := 2) (by decide)
  obtain ⟨hb3, hrb3⟩ := h1.terms (m := 3) (by decide)
  obtain ⟨hc3, hrc3⟩ := h2.terms (m := 3) (by decide)
  have hstates : stateReports (a.loops.recs.get 1).state (loopStateOf a 1) 1 =
      stateReports s.loops.recs.l1.state (loopStateOf s 1) 1 := by rw [ha1, hra1]; rfl
  have hstates2 : stateReports (b.loops.recs.get 2).state (loopStateOf b 2) 2 =
      stateReports s.loops.recs.l2.state (loopStateOf s 2) 2 := by rw [hb2, ha2, hrb2, hra2]; rfl
  have hstates3 : stateReports (c.loops.recs.get 3).state (loopStateOf c 3) 3 =
      stateReports s.loops.recs.l3.state (loopStateOf s 3) 3 := by rw [hc3, hb3, ha3, hrc3, hrb3, hra3]; rfl
  rw [hall]
  constructor
  case publishes =>
    have hpublishes := ((h0.publishes.trans h1.publishes).trans h2.publishes).trans h3.publishes
    rwa [hstates, hstates2, hstates3] at hpublishes
  case loops =>
    rw [h3.loops, hc3, hb3, ha3, h2.loops, hb2, ha2, h1.loops, ha1, h0.loops]
    rfl
  case blade => rw [h3.blade, h2.blade, h1.blade, h0.blade]
  case guard =>
    rw [h3.guard, h2.guard, h1.guard, h0.guard]
    rfl

/-! ### The position class (R32, R120, R160, R164) -/

theorem classOf_eq (c : Three SubRecord) : classOf c.left.side c.right.side c.rear.side = classBy c := by
  unfold classOf classBy
  cases c.left.side <;> cases c.right.side <;> cases c.rear.side <;> rfl

/-- The notices that a change of the class makes. -/
def classReports (before after : PosClass) (recovers : Bool) : List Report :=
  if after = before then [] else .positionClass after :: if recovers && decide (after = .insideAll) then [.recoveryEnd] else []

/-- The class is recomputed: the table, the Guard's escape distance and recovery, the blade, the notices. -/
structure Classed (s u : State) : Prop where
  publishes : Publishes (classReports s.loops.posClass (classBy s.loops.recs.l0.coils) s.guard.recovery) s u
  loops : u.loops = { s.loops with posClass := classBy s.loops.recs.l0.coils }
  guard : u.guard = { s.guard with
    recovery := s.guard.recovery && !(decide (classBy s.loops.recs.l0.coils ≠ s.loops.posClass) &&
      decide (classBy s.loops.recs.l0.coils = .insideAll))
    escape := if classBy s.loops.recs.l0.coils ≠ s.loops.posClass ∧ classBy s.loops.recs.l0.coils ≠ .outsideAll then 0
      else s.guard.escape }
  judged : classBy s.loops.recs.l0.coils ≠ s.loops.posClass → s.guard.recovery = true → Judged s u
  blade : ¬ (classBy s.loops.recs.l0.coils ≠ s.loops.posClass ∧ s.guard.recovery = true) → u.blade = s.blade

theorem recomputeClass_same {s : State} (h : classBy s.loops.recs.l0.coils = s.loops.posClass) : recomputeClass s = s :=
  if_pos ((classOf_eq _).trans h)

theorem recomputeClass_changed {s : State} (h : classBy s.loops.recs.l0.coils ≠ s.loops.posClass) :
    recomputeClass s = guardOnClass (bladeOnClass (post (.positionClass (classBy s.loops.recs.l0.coils)) (noteLoops
      { s with loops := { s.loops with posClass := classBy s.loops.recs.l0.coils } }))) := by
  have hclass : s.computedClass = classBy s.loops.recs.l0.coils := classOf_eq _
  rw [← hclass]
  exact if_neg fun e => h (hclass.symm.trans e)

theorem actOnDirective_settled {s : State} (hoff : ¬ (s.blade.state = .off ∧ s.blade.effective = .cut))
    (hdriven : ¬ (Driven s.blade.state ∧ s.blade.effective = .off)) : actOnDirective s = s := by
  cases hs : s.blade.state with
  | off => cases he : s.blade.effective <;> simp_all [actOnDirective]
  | spinup => cases he : s.blade.effective <;> simp_all [actOnDirective, Driven]
  | cutting => cases he : s.blade.effective <;> simp_all [actOnDirective, Driven]
  | braking => simp [actOnDirective, hs]
  | jammed => simp [actOnDirective, hs]
  | lockedOut => simp [actOnDirective, hs]

/-- A directive that has been judged has been acted on. -/
theorem judgeBlade_settles (s : State) :
    ¬ ((judgeBlade s).blade.state = .off ∧ s.effectiveDirective = .cut) ∧
      ¬ (Driven (judgeBlade s).blade.state ∧ s.effectiveDirective = .off) := by
  obtain ⟨-, hspins, hbrakes, hnoted⟩ := judgeBlade_judged (s := s) (x := s) rfl rfl
  rw [judgeBlade_directive] at hspins hbrakes hnoted
  by_cases hs : s.blade.state = .off ∧ s.effectiveDirective = .cut
  · obtain ⟨hstate, -⟩ := hspins hs.1 hs.2
    simp [hstate, hs.2]
  · by_cases hb : Driven s.blade.state ∧ s.effectiveDirective = .off
    · obtain ⟨hstate, -⟩ := hbrakes hb.1 hb.2
      simp [hstate, Driven]
    · rw [hnoted hs hb]
      exact ⟨hs, hb⟩

/-- A directive that has just been judged is judged again to no effect. -/
theorem judgeBlade_again {x y : State} (hblade : y.blade = (judgeBlade x).blade)
    (hd : y.effectiveDirective = x.effectiveDirective) : (judgeBlade y).blade = (judgeBlade x).blade := by
  obtain ⟨hoff, hdriven⟩ := judgeBlade_settles x
  have heffective := judgeBlade_effective x
  rw [(judgeBlade_eq_act y).1, hd, hblade, ← heffective]
  rw [← heffective] at hoff hdriven
  have hsettled := actOnDirective_settled
    (s := { y with blade := { (judgeBlade x).blade with effective := (judgeBlade x).blade.effective } }) hoff hdriven
  rw [hsettled]

/-- Judged with nothing else moved is judged from where it began. -/
theorem judged_congr {s u v : State} (h : Judged s u) (hblade : v.blade = u.blade) (htime : v.timebase = u.timebase)
    (hd : v.effectiveDirective = u.effectiveDirective) : Judged s v := by
  unfold Judged SpinsUp at h ⊢
  rwa [hblade, htime, hd]

theorem guardOnClass_plain {s : State} (h : ¬ (s.guard.recovery = true ∧ s.loops.posClass = .insideAll)) :
    guardOnClass s = { s with guard := { s.guard with
      escape := if s.loops.posClass = .outsideAll then s.guard.escape else 0 } } := by
  unfold guardOnClass
  by_cases hout : s.loops.posClass = .outsideAll
  · simp [hout]
  · have hno : (s.guard.recovery && decide (s.loops.posClass = .insideAll)) = false := by simpa using h
    simp only [hout, if_false, hno]
    rfl

theorem guardOnClass_recovers {s : State} (hr : s.guard.recovery = true) (hc : s.loops.posClass = .insideAll) :
    guardOnClass s = judgeBlade (post .recoveryEnd
      { s with guard := { s.guard with escape := 0, recovery := false } }) := by
  unfold guardOnClass
  simp [hc, hr]

theorem publishes_guard (s : State) (recovery : Bool) (escape : Nat) :
    Publishes [] s { s with guard := { s.guard with recovery := recovery, escape := escape } } :=
  ⟨rfl, rfl, fun _ _ _ => rfl, fun _ => rfl, fun _ _ => rfl⟩

theorem classed {s : State} (ha : s.plan.active = none) : Classed s (recomputeClass s) := by
  by_cases h : classBy s.loops.recs.l0.coils = s.loops.posClass
  · rw [recomputeClass_same h]
    refine ⟨?_, by rw [h], by simp [h], fun hne => absurd h hne, fun _ => rfl⟩
    rw [classReports, if_pos h]
    exact Publishes.refl s
  · obtain ⟨c, hc⟩ : ∃ c, c = classBy s.loops.recs.l0.coils := ⟨_, rfl⟩
    obtain ⟨x, hx⟩ : ∃ x, x = post (.positionClass c) (noteLoops { s with loops := { s.loops with posClass := c } }) :=
      ⟨_, rfl⟩
    have hclass := recomputeClass_changed h
    rw [← hc, ← hx] at hclass
    have hposted : Publishes [.positionClass c] s x := by
      rw [hx]
      exact (publishes_loops s _ _).trans (publishes_post (r := .positionClass c) rfl _)
    have hxloops : x.loops = { s.loops with posClass := c } := by rw [hx]; simp [noteLoops]
    have hxblade : x.blade = s.blade := by rw [hx]; simp [noteLoops]
    have hxguard : x.guard = s.guard := by rw [hx]; simp [noteLoops]
    have hxpart : x.partTime = s.partTime := by rw [hx]; simp [noteLoops]
    have hxplan : x.plan = s.plan := by rw [hx]; simp [noteLoops]
    have hout : (if c = .outsideAll then s.guard.escape else 0) =
        if c ≠ s.loops.posClass ∧ c ≠ .outsideAll then 0 else s.guard.escape := by
      rw [← hc] at h
      by_cases hcout : c = .outsideAll <;> simp_all
    have hreports := fun recovers => show classReports s.loops.posClass c recovers = _ from if_neg (hc ▸ h)
    rw [← hc] at h
    cases hr : s.guard.recovery with
    | false =>
      have hblade : bladeOnClass x = x := by simp [bladeOnClass, hxguard, hr]
      rw [hclass, hblade, guardOnClass_plain (by simp [hxguard, hr])]
      constructor
      case publishes =>
        rw [← hc, hr, hreports]
        exact hposted.trans (publishes_guard x x.guard.recovery _)
      case loops => rw [← hc]; exact hxloops
      case guard => rw [← hc, ← hout, hxguard, hxloops]; simp [hr]
      case judged => simp [hr]
      case blade => exact fun _ => hxblade
    | true =>
      have hblade : bladeOnClass x = judgeBlade x := by simp [bladeOnClass, hxguard, hr]
      have hjudged := judgeBlade_judged (s := s) hxblade hxpart
      have hxactive : x.plan.active = none := by rw [hxplan, ha]
      have hpublishes := hposted.trans (publishes_judgeBlade hxactive)
      have hyplan := judgeBlade_unmarked hxactive
      have hyguard : (judgeBlade x).guard = s.guard := by simp [hxguard]
      have hyloops : (judgeBlade x).loops = { s.loops with posClass := c } := by simp [hxloops]
      have hagain := fun y => judgeBlade_again (x := x) (y := y)
      have hdirective := judgeBlade_directive x
      rw [hclass, hblade]
      generalize judgeBlade x = y at *
      by_cases hin : c = .insideAll
      · obtain ⟨z, hz⟩ : ∃ z, z = post .recoveryEnd
          { y with guard := { y.guard with escape := 0, recovery := false } } := ⟨_, rfl⟩
        have hzpublishes := (hpublishes.trans (publishes_guard y false 0)).trans
          (publishes_post (r := .recoveryEnd) rfl { y with guard := { y.guard with escape := 0, recovery := false } })
        rw [← hz] at hzpublishes
        have hzactive : z.plan.active = none := by rw [hz]; simp [hyplan, hxactive]
        have hzblade : z.blade = y.blade := by rw [hz]; simp
        have hzdirective : z.effectiveDirective = x.effectiveDirective := by
          rw [← hdirective, hz]
          simp [State.effectiveDirective, State.suppressed, State.armed, hyloops, hyguard, hin]
        have hzloops : z.loops = { s.loops with posClass := c } := by rw [hz]; simp [hyloops]
        have hzguard : z.guard = { s.guard with escape := 0, recovery := false } := by rw [hz]; simp [hyguard]
        have hztime : z.timebase = y.timebase := by rw [hz]; simp
        rw [guardOnClass_recovers (by rw [hyguard, hr]) (by rw [hyloops]; exact hin), ← hz]
        constructor
        case publishes =>
          rw [← hc, hr, hreports]
          have hfinal := hzpublishes.trans (publishes_judgeBlade hzactive)
          simpa [hin] using hfinal
        case loops => rw [← hc]; simp [hzloops]
        case guard => rw [← hc]; simp [hzguard, hin, hr]; grind
        case judged =>
          intro _ _
          refine judged_congr hjudged (hagain z hzblade hzdirective) (by simp [hztime]) ?_
          rw [judgeBlade_directive, hzdirective, hdirective]
        case blade => exact fun hno => absurd ⟨hc ▸ h, hr⟩ hno
      · rw [guardOnClass_plain (by rw [hyloops]; exact fun hb => hin hb.2)]
        constructor
        case publishes =>
          rw [← hc, hr, hreports]
          have hfinal := hpublishes.trans (publishes_guard y y.guard.recovery
            (if y.loops.posClass = .outsideAll then y.guard.escape else 0))
          simpa [hin] using hfinal
        case loops => rw [← hc]; exact hyloops
        case guard => rw [← hc, ← hout, hyguard, hyloops]; simp [hin]
        case judged =>
          intro _ _
          exact judged_congr hjudged rfl rfl rfl
        case blade => exact fun hno => absurd ⟨hc ▸ h, hr⟩ hno

end Sys2Proof.Proofs
end

section
/-! SUPPORT. The table's publications of one event, in the words of the claims (R31, R32, R34, R160, R163, R164). -/

namespace Sys2Proof.Proofs

open Sys2Proof.Machine Sys2Proof.Safety

/-! ### With no segment active nothing ends one (R82, R83) -/

theorem testWatch_idle {s : State} (ha : s.plan.active = none) : testWatch s = s := by
  rw [testWatch, ha]

theorem publishClass_idle {s : State} (ha : s.plan.active = none) : publishClass s = recomputeClass s := by
  have htest (t : State) (ht : t.plan.active = none) : testBoundary t = t := by rw [testBoundary, ht]
  by_cases h : s.computedClass = s.loops.posClass
  · rw [publishClass, if_pos h, recomputeClass_same ((classOf_eq _).symm.trans h)]
  · have hplan : (recomputeClass s).plan = s.plan := by rw [(classed ha).publishes.leaves]
    rw [publishClass, if_neg h, htest _ (by rw [hplan, ha])]

/-! ### The station-near flag (R34, R175) -/

theorem nearFlag_eq (before : Bool) (amp : Nat) (c : Three SubRecord) :
    nearFlag before amp c.left.amplitude c.right.amplitude = nearBy amp before c := by
  unfold nearFlag nearBy
  cases before with
  | false => simp
  | true =>
    rw [Bool.eq_iff_iff]
    simp

/-- The station-near flag is judged again, and a change is published. -/
structure Neared (s u : State) : Prop where
  leaves : u = { s with loops := u.loops, dock := u.dock, notice := u.notice, mem := u.mem, causes := u.causes }
  loops : u.loops = { s.loops with
    stationNear := nearBy s.plan.applied.nearAmp s.loops.stationNear s.loops.recs.l3.coils }
  word : ∀ a, a < 0x010 ∨ 0x040 ≤ a → a < 0x2C0 ∨ 0x2CC < a → u.word a = s.word a
  others : ∀ a, a ≠ .dock → u.notice.get a = s.notice.get a
  undocked : s.dock.run = .none → u.dock = s.dock ∧ u.notice = s.notice ∧ u.mem = s.mem

theorem judgeNear_near (s : State) : Neared s (judgeNear s) := by
  have hnear := nearFlag_eq s.loops.stationNear s.plan.applied.nearAmp s.loops.recs.l3.coils
  unfold judgeNear
  dsimp only
  rw [hnear]
  split
  case isTrue h => exact ⟨rfl, by rw [h], fun _ _ _ => rfl, fun _ _ => rfl, fun _ => ⟨rfl, rfl, rfl⟩⟩
  case isFalse h => exact ⟨rfl, rfl, fun _ _ _ => rfl, fun _ _ => rfl, fun _ => ⟨rfl, rfl, rfl⟩⟩

theorem neared {s : State} (ha : s.plan.active = none) : Neared s (publishNear s) := by
  have hjudged := judgeNear_near s
  have hplan : (judgeNear s).plan = s.plan := by rw [hjudged.leaves]
  have hdock : (judgeNear s).dock = s.dock := by simp
  unfold publishNear
  dsimp only
  generalize judgeNear s = x at *
  by_cases hsame : x.loops.stationNear = s.loops.stationNear
  · rwa [if_pos hsame]
  · have hrun : dockOnNear x = x ∨ dockOnNear x = enterNear x ∧ x.dock.run ≠ .none := by
      unfold dockOnNear
      cases hr : x.dock.run with
      | none => exact .inl rfl
      | undock a => exact .inl rfl
      | dock a =>
        dsimp only
        split
        · exact .inr ⟨rfl, nofun⟩
        · exact .inl rfl
    rw [if_neg hsame]
    rcases hrun with hrun | ⟨hrun, hdocks⟩
    · rwa [hrun, testWatch_idle (by rw [hplan, ha])]
    · have hnear : enterNear x = { x with
          dock := (enterNear x).dock, notice := (enterNear x).notice, mem := (enterNear x).mem } := by
        rw [enterNear, post_eq_update]
        rfl
      rw [hrun, testWatch_idle (by simp [hplan, ha])]
      constructor
      case leaves => rw [hnear, hjudged.leaves]
      case loops => rw [hnear, hjudged.loops]
      case word => exact fun a h1 h2 => (enterNear_word _ h1 h2).trans (hjudged.word a h1 h2)
      case others =>
        exact fun a h => (post_get_other (r := .dockNear x.dock.tries) h _).trans (hjudged.others a h)
      case undocked => exact fun h => absurd (hdock ▸ h) hdocks

/-! ### What the event's notices make of LOOP (R31, R32, R160) -/

/-- The notices of the table's changes between two states, in their order. -/
def reportsBetween (s u : State) : List Report :=
  stateReports s.loops.recs.l0.state u.loops.recs.l0.state 0 ++ stateReports s.loops.recs.l1.state u.loops.recs.l1.state 1 ++
    stateReports s.loops.recs.l2.state u.loops.recs.l2.state 2 ++
    stateReports s.loops.recs.l3.state u.loops.recs.l3.state 3 ++
    classReports s.loops.posClass u.loops.posClass s.guard.recovery

theorem stateReports_length (before after : LoopState) (n : Loop) :
    (stateReports before after n).length = if after ≠ before then 1 else 0 := by
  unfold stateReports
  split <;> simp_all

theorem classReports_length (s u : State) : (classReports s.loops.posClass u.loops.posClass s.guard.recovery).length =
    (if ClassMoved s u then 1 else 0) + (if RecoveryEnds s u then 1 else 0) := by
  unfold classReports RecoveryEnds ClassMoved
  by_cases hc : u.loops.posClass = s.loops.posClass
  · simp [hc]
  · cases hr : s.guard.recovery <;> by_cases hin : u.loops.posClass = .insideAll <;> simp_all

theorem reportsBetween_length (s u : State) : (reportsBetween s u).length = loopPosts s u := by
  simp only [reportsBetween, loopPosts, List.length_append, stateReports_length, classReports_length]
  omega

theorem toldLoop_state {enabled : Bool} {st : SourceState} {before after : LoopState} {n : Loop} (h : after ≠ before) :
    (toldLoop enabled st (stateReports before after n)).status = 1 ∧
      (toldLoop enabled st (stateReports before after n)).details = [BitVec.ofNat 16 n.val] := by
  rw [stateReports, if_neg h]
  exact ⟨rfl, rfl⟩

/-- The last change of a loop state shows. -/
theorem toldLoop_states {enabled : Bool} {st : SourceState} {s u : State} (hc : ¬ ClassMoved s u)
    (h : 0 < loopPosts s u) : (toldLoop enabled st (reportsBetween s u)).status = 1 ∧
      (toldLoop enabled st (reportsBetween s u)).details =
        [if u.loops.recs.l3.state ≠ s.loops.recs.l3.state then 3
         else if u.loops.recs.l2.state ≠ s.loops.recs.l2.state then 2
         else if u.loops.recs.l1.state ≠ s.loops.recs.l1.state then 1 else 0] := by
  have hclass : classReports s.loops.posClass u.loops.posClass s.guard.recovery = [] := if_pos (not_not.1 hc)
  have hnone {before after : LoopState} {n : Loop} (h : ¬ after ≠ before) : stateReports before after n = [] :=
    if_pos (not_not.1 h)
  rw [reportsBetween, hclass, List.append_nil]
  by_cases h3 : u.loops.recs.l3.state ≠ s.loops.recs.l3.state
  · rw [toldLoop_append, if_pos h3]
    exact toldLoop_state h3
  · rw [hnone h3, List.append_nil, if_neg h3]
    by_cases h2 : u.loops.recs.l2.state ≠ s.loops.recs.l2.state
    · rw [toldLoop_append, if_pos h2]
      exact toldLoop_state h2
    · rw [hnone h2, List.append_nil, if_neg h2]
      by_cases h1 : u.loops.recs.l1.state ≠ s.loops.recs.l1.state
      · rw [toldLoop_append, if_pos h1]
        exact toldLoop_state h1
      · rw [hnone h1, List.append_nil, if_neg h1]
        refine toldLoop_state fun h0 => ?_
        simp [loopPosts, RecoveryEnds, hc, h0, not_not.1 h1, not_not.1 h2, not_not.1 h3] at h

theorem loopPosts_of_told {s u : State}
    (h : u.notice.loop = toldLoop (sourceEnabled s.noticeEnable .loop) s.notice.loop (reportsBetween s u)) :
    LoopPosts s u := by
  have henabled : sourceEnabled s.noticeEnable .loop = (s.word 0x062).getLsbD 5 := rfl
  obtain ⟨hcount, hpending⟩ := toldLoop_counts (sourceEnabled s.noticeEnable .loop) s.notice.loop (reportsBetween s u)
  unfold LoopPosts
  rw [h, hcount, hpending, reportsBetween_length, henabled]
  refine ⟨rfl, rfl, fun h0 => ?nothing, fun hr => ?recovery, fun hr hc => ?moved, fun hc hp => toldLoop_states hc hp⟩
  case nothing =>
    have hnil : reportsBetween s u = [] := List.eq_nil_of_length_eq_zero ((reportsBetween_length s u).trans h0)
    rw [hnil]
    rfl
  case recovery =>
    obtain ⟨hrecovers, hmoved, hin⟩ := hr
    have hclass : classReports s.loops.posClass u.loops.posClass s.guard.recovery =
        [.positionClass u.loops.posClass, .recoveryEnd] := by
      rw [classReports, if_neg hmoved, hrecovers, hin]
      rfl
    rw [reportsBetween, hclass, toldLoop_append]
    exact ⟨rfl, rfl⟩
  case moved =>
    have hclass : classReports s.loops.posClass u.loops.posClass s.guard.recovery =
        [.positionClass u.loops.posClass] := by
      have hno : (s.guard.recovery && decide (u.loops.posClass = .insideAll)) = false :=
        Bool.eq_false_iff.2 fun e => hr ⟨(Bool.and_eq_true_iff.1 e).1, hc, of_decide_eq_true (Bool.and_eq_true_iff.1 e).2⟩
      rw [classReports, if_neg hc, hno]
      rfl
    rw [reportsBetween, hclass, toldLoop_append]
    exact ⟨rfl, rfl⟩

/-! ### What the Guard makes of them (R160, R163, R164) -/

/-- The Guard's recovery, escape distance and no-signal timer after a class and a state of loop 0. -/
theorem guardHears_of {s u : State} (hpart : u.guard.noSignal = heardSignal s s.loops.recs.l0.state u.loops.recs.l0.state)
    (hrecovery : u.guard.recovery = (s.guard.recovery && !(decide (u.loops.posClass ≠ s.loops.posClass) &&
      decide (u.loops.posClass = .insideAll))))
    (hescape : u.guard.escape = if u.loops.posClass ≠ s.loops.posClass ∧ u.loops.posClass ≠ .outsideAll then 0
      else s.guard.escape) : GuardHears s u := by
  refine ⟨?_, hescape, ?_⟩
  · have hends : decide (RecoveryEnds s u) = (s.guard.recovery && (decide (u.loops.posClass ≠ s.loops.posClass) &&
        decide (u.loops.posClass = .insideAll))) := by simp [RecoveryEnds, ClassMoved]
    rw [hrecovery, hends]
    cases s.guard.recovery <;> rfl
  · rw [hpart, heardSignal]
    have hu := silent_iff u.loops.recs.l0.state
    have hs := silent_iff s.loops.recs.l0.state
    cases hb : u.loops.recs.l0.state.silent <;> cases hc : s.loops.recs.l0.state.silent <;> simp_all [Silent]

end Sys2Proof.Proofs
end

section
/-! SUPPORT. The table's publications of one event, together (R31, R32, R34). -/

namespace Sys2Proof.Proofs

open Sys2Proof.Machine Sys2Proof.Safety

/-- The notices of the loop states that differ. -/
def statesBetween (s u : State) : List Report :=
  stateReports s.loops.recs.l0.state u.loops.recs.l0.state 0 ++ stateReports s.loops.recs.l1.state u.loops.recs.l1.state 1 ++
    stateReports s.loops.recs.l2.state u.loops.recs.l2.state 2 ++
    stateReports s.loops.recs.l3.state u.loops.recs.l3.state 3

/-- The loop states have been judged, some or all, by their coils. -/
structure Stated (s u : State) : Prop where
  publishes : Publishes (statesBetween s u) s u
  loops : u.loops = { s.loops with recs := u.loops.recs }
  coils : ∀ n, (u.loops.recs.get n).coils = (s.loops.recs.get n).coils
  blade : u.blade = s.blade
  guard : u.guard = { s.guard with noSignal := heardSignal s s.loops.recs.l0.state u.loops.recs.l0.state }

theorem stated_recomputeLoops (s : State) : Stated s (recomputeLoops s) := by
  have h := recomputedAll s
  generalize recomputeLoops s = u at h
  have hrecs : u.loops.recs = statesGiven s := by rw [h.loops]
  refine ⟨?_, by rw [h.loops], fun n => ?_, h.blade, ?_⟩
  · have hbetween : statesBetween s u = statesReports s := by
      rw [statesBetween, hrecs]
      rfl
    rw [hbetween]
    exact h.publishes
  · rw [hrecs, statesGiven, Four.get_mapIdx]
  · rw [h.guard, hrecs]
    rfl

theorem stateReports_same (l : LoopState) (n : Loop) : stateReports l l n = [] := if_pos rfl

theorem stated_recomputeLoop (n : Loop) (s : State) : Stated s (recomputeLoop n s) := by
  have h := recomputed n s
  generalize recomputeLoop n s = u at h
  have hrecs : u.loops.recs = s.loops.recs.set n { s.loops.recs.get n with state := loopStateOf s n } := by rw [h.loops]
  refine ⟨?_, by rw [h.loops], fun m => ?_, h.blade, ?_⟩
  · have hbetween : statesBetween s u = stateReports (s.loops.recs.get n).state (loopStateOf s n) n := by
      rw [statesBetween, hrecs]
      rcases n.cases_four with rfl | rfl | rfl | rfl <;>
        simp only [Four.set, Four.get, stateReports_same, List.append_nil, List.nil_append]
    rw [hbetween]
    exact h.publishes
  · rw [hrecs]
    by_cases hm : m = n
    · rw [hm, Four.get_set_same]
    · rw [Four.get_set_other _ _ hm]
  · rw [h.guard, hrecs]
    rcases n.cases_four with rfl | rfl | rfl | rfl
    · rfl
    · simp [Four.set, heardSignal]
    · simp [Four.set, heardSignal]
    · simp [Four.set, heardSignal]

/-- What the table's publications of one event leave, from the state with the new coils. -/
structure Tabled (s u : State) : Prop where
  leaves : u = { s with
    loops := u.loops, blade := u.blade, guard := u.guard, dock := u.dock, notice := u.notice, mem := u.mem
    causes := u.causes }
  guard : u.guard = { s.guard with
    recovery := u.guard.recovery, escape := u.guard.escape, noSignal := u.guard.noSignal }
  word : ∀ a, a < 0x010 ∨ 0x040 ≤ a → a < 0x2A0 ∨ 0x2CC < a → u.word a = s.word a
  loops : u.loops = { s.loops with
    recs := u.loops.recs, posClass := classBy s.loops.recs.l0.coils, stationNear := u.loops.stationNear }
  coils : ∀ n, (u.loops.recs.get n).coils = (s.loops.recs.get n).coils
  hears : GuardHears s u
  judged : ClassMoved s u → s.guard.recovery = true → Judged s u
  blade : ¬ (ClassMoved s u ∧ s.guard.recovery = true) → u.blade = s.blade
  loop : s.noticesHeld = false →
    u.notice.loop = toldLoop (sourceEnabled s.noticeEnable .loop) s.notice.loop (reportsBetween s u)
  others : ∀ a, a ≠ .loop → a ≠ .dock → u.notice.get a = s.notice.get a
  undocked : s.dock.run = .none → u.dock = s.dock ∧ u.notice.dock = s.notice.dock

/-- The states, then the class. -/
theorem tabled_class {s y : State} (ha : s.plan.active = none) (h : Stated s y) :
    Tabled s (publishClass (testWatch y)) ∧
      (publishClass (testWatch y)).loops = { y.loops with posClass := classBy s.loops.recs.l0.coils } := by
  have hplan : y.plan = s.plan := by rw [h.publishes.leaves]
  have hactive : y.plan.active = none := by rw [hplan, ha]
  have hpart : y.partTime = s.partTime := by rw [h.publishes.leaves]
  rw [testWatch_idle hactive, publishClass_idle hactive]
  have hc := classed hactive
  generalize recomputeClass y = u at hc
  have hcoils : classBy y.loops.recs.l0.coils = classBy s.loops.recs.l0.coils := congrArg classBy (h.coils 0)
  have hclass : y.loops.posClass = s.loops.posClass := by rw [h.loops]
  have hrecovery : y.guard.recovery = s.guard.recovery := by rw [h.guard]
  have hescape : y.guard.escape = s.guard.escape := by rw [h.guard]
  obtain ⟨hpublishes, hloops, hguard, hjudged, hblade⟩ := hc
  rw [hcoils, hclass, hrecovery] at hpublishes hguard hjudged hblade
  rw [hcoils] at hloops
  have huclass : u.loops.posClass = classBy s.loops.recs.l0.coils := by rw [hloops]
  have hurecs : u.loops.recs = y.loops.recs := by rw [hloops]
  have hboth := h.publishes.trans hpublishes
  refine ⟨?_, hloops⟩
  constructor
  case leaves => rw [hboth.leaves]
  case guard => rw [hboth.guard]
  case word => exact fun a h1 h2 => hboth.word a h1 (h2.imp_right (by omega))
  case loops => rw [hloops, h.loops]
  case coils => exact fun n => by rw [hurecs]; exact h.coils n
  case hears =>
    refine guardHears_of ?_ ?_ ?_
    · rw [hguard, h.guard, hurecs]
    · rw [hguard, huclass]
    · rw [hguard, huclass, hescape]
  case judged =>
    intro hmoved hr
    rw [ClassMoved, huclass] at hmoved
    have hj := hjudged hmoved hr
    unfold Judged SpinsUp at hj ⊢
    rwa [h.blade, hpart] at hj
  case blade =>
    intro hno
    rw [ClassMoved, huclass] at hno
    exact (hblade hno).trans h.blade
  case loop =>
    intro hopen
    rw [hboth.loop hopen, reportsBetween, huclass, hurecs]
    rfl
  case others => exact fun a ha _ => hboth.others a ha
  case undocked =>
    intro _
    exact ⟨by rw [hboth.leaves], hboth.others .dock (by decide)⟩

/-- Then the station-near flag. -/
theorem Tabled.near {s x : State} (ha : s.plan.active = none) (h : Tabled s x) :
    Tabled s (publishNear x) ∧ (publishNear x).loops = { x.loops with
      stationNear := nearBy s.plan.applied.nearAmp x.loops.stationNear s.loops.recs.l3.coils } := by
  have hplan : x.plan = s.plan := by rw [h.leaves]
  have hn := neared (s := x) (by rw [hplan, ha])
  generalize publishNear x = u at hn
  obtain ⟨hleaves, hloops, hword, hothers, hundocked⟩ := hn
  have hcoils : x.loops.recs.l3.coils = s.loops.recs.l3.coils := h.coils 3
  rw [hplan, hcoils] at hloops
  have hrecs : u.loops.recs = x.loops.recs := by rw [hloops]
  have hclass : u.loops.posClass = x.loops.posClass := by rw [hloops]
  have hguard : u.guard = x.guard := by rw [hleaves]
  have hublade : u.blade = x.blade := by rw [hleaves]
  refine ⟨?_, hloops⟩
  constructor
  case leaves => rw [hleaves, h.leaves]
  case guard =>
    rw [hguard]
    exact h.guard
  case word => exact fun a h1 h2 => (hword a h1 (h2.imp_left (by omega))).trans (h.word a h1 h2)
  case loops => rw [hloops, h.loops]
  case coils => exact fun n => by rw [hrecs]; exact h.coils n
  case hears =>
    have hh := h.hears
    unfold GuardHears RecoveryEnds ClassMoved Silent at hh ⊢
    rwa [hguard, hrecs, hclass]
  case judged =>
    intro hmoved hr
    rw [ClassMoved, hclass] at hmoved
    exact judged_congr (h.judged hmoved hr) hublade (by rw [hleaves])
      (effectiveDirective_congr (by rw [hleaves]) (by rw [hguard]) (by rw [hguard]) hclass)
  case blade =>
    intro hno
    rw [ClassMoved, hclass] at hno
    exact hublade.trans (h.blade hno)
  case loop =>
    intro hopen
    rw [reportsBetween, hrecs, hclass]
    exact (hothers .loop (by decide)).trans (h.loop hopen)
  case others => exact fun a h1 h2 => (hothers a h2).trans (h.others a h1 h2)
  case undocked =>
    intro hrun
    obtain ⟨hdock, hnotice⟩ := h.undocked hrun
    obtain ⟨hudock, hunotice, -⟩ := hundocked (by rw [hdock]; exact hrun)
    exact ⟨hudock.trans hdock, (congrArg Notices.dock hunotice).trans hnotice⟩

end Sys2Proof.Proofs
end

section
/-! SUPPORT. A wake (R31, R35, R183, R196), and an expiry of the window timer (R29). -/

namespace Sys2Proof.Proofs

open Sys2Proof.Machine Sys2Proof.Safety

/-! ### A wake -/

theorem setMachine_wordBeside (dest : MachineState) (s : State) {a : Nat} (h : a ≠ 0x002) (ha : a < 0x2A0 ∨ 0x2A7 < a) :
    (setMachine dest s).word a = s.word a :=
  (judgeBlade_wordBeside _ ha).trans (Memory.read_write_other _ _ h)

theorem setMachine_leaves {dest : MachineState} (hd : dest ≠ .armed) (s : State) : setMachine dest s = { s with
    guard := { s.guard with machine := dest }, blade := (setMachine dest s).blade, mem := (setMachine dest s).mem } := by
  have hleaves := judgeBlade_eq_update
    { s with guard := { s.guard with machine := dest }, mem := s.mem.write addrMachineState dest.code }
  rw [judgeBlade_plan (.inr hd)] at hleaves
  exact hleaves

theorem restartWindow_coils (period : Time) (s : State) (n : Loop) (i : Coil) :
    ((restartWindow period s).loops.recs.get n).coils.get i = { (s.loops.recs.get n).coils.get i with window := 0 } := by
  rw [restartWindow, clearWindows]
  simp only [Four.get_map]
  cases i <;> rfl

/-- Counts cleared leave the coil states. -/
theorem coilsState_congr {c d : Three SubRecord} (h : ∀ i, (c.get i).state = (d.get i).state) : coilsState c = coilsState d := by
  have hl : c.left.state = d.left.state := h .left
  have hr : c.right.state = d.right.state := h .right
  have hb : c.rear.state = d.rear.state := h .rear
  simp only [coilsState, hl, hr, hb]

theorem restartWindow_stateOf (period : Time) (s : State) (n : Loop) :
    loopStateOf (restartWindow period s) n = loopStateOf s n := by
  have hcoils : coilsState ((restartWindow period s).loops.recs.get n).coils = coilsState (s.loops.recs.get n).coils :=
    coilsState_congr fun i => by rw [restartWindow_coils]
  rw [loopStateOf, loopStateOf, hcoils]
  rfl

/-- With every loop state as its coils give it, nothing is recomputed. -/
theorem recomputeLoops_settled {s : State} (h : ∀ n, loopStateOf s n = (s.loops.recs.get n).state) :
    recomputeLoops s = s := by
  rw [recomputeLoops, recomputeLoop_same (h 0), recomputeLoop_same (h 1), recomputeLoop_same (h 2), recomputeLoop_same (h 3)]

/-- What a wake leaves of a PARKED machine. -/
structure WakesUp (reason : WakeReason) (s u : State) : Prop where
  leaves : u = { s with
    loops := u.loops, blade := u.blade, guard := u.guard, dock := u.dock
    port := { s.port with snapTimer := s.partTime + 50 }, notice := u.notice, mem := u.mem, causes := u.causes }
  guard : u.guard = { s.guard with machine := .safe, noSignal := u.guard.noSignal }
  machineWord : u.word 0x002 = 1
  loops : u.loops = { s.loops with recs := u.loops.recs, windowTimer := s.partTime + 500, spoiled := u.loops.spoiled }
  coils : ∀ n i, (u.loops.recs.get n).coils.get i = { (s.loops.recs.get n).coils.get i with window := 0 }
  state : ∀ n, (u.loops.recs.get n).state = loopStateOf s n
  dock : u.dock = { s.dock with record := { s.dock.record with wakeReason := reason, wakeTime := some s.partTime } }
  notice : u.notice.dock = postedTo s .dock 5 [reason.code]
  settled : (∀ n, loopStateOf s n = (s.loops.recs.get n).state) →
    u.guard.noSignal = s.guard.noSignal ∧ u.notice.loop = s.notice.loop
  senseWord : MemoryCanonical s → u.word 0x2C1 = wordB s.dock.sense.isPresent

theorem dockCells_sense (d : Dock) {m : Memory} (h : m.wf = true) :
    (m.writeAll (dockCells d)).read 0x2C1 = wordB d.sense.isPresent :=
  Memory.read_writeAll_cellsFrom h 0x2C0 1 _ (by simp)

theorem wakesUp {reason : WakeReason} {s : State} (hp : s.guard.machine = .parked) : WakesUp reason s (wakeUp reason s) := by
  obtain ⟨r, hr⟩ : ∃ r, r = restartWindow 500 (setMachine .safe s) := ⟨_, rfl⟩
  have hmachine := setMachine_leaves (dest := .safe) (by decide) s
  have hmachineWord := setMachine_word (dest := .safe) s (by decide)
  have hkept : MemoryCanonical s → MemoryCanonical r := by
    rw [hr]
    exact ((kept_restartWindow 500 _).after
      (kept_setMachine (dest := .safe) (by decide) (by rw [hp]; decide) (by rw [hp]; decide))).memory
  have hcoils := restartWindow_coils 500 (setMachine .safe s)
  have hstates := restartWindow_stateOf 500 (setMachine .safe s)
  have henableWord := setMachine_wordBeside .safe s (a := 0x062) (by decide) (.inl (by decide))
  have hrleaves : r = { setMachine .safe s with loops := { s.loops with
      recs := r.loops.recs, windowTimer := s.partTime + 500, spoiled := r.loops.spoiled } } := by
    rw [hr, restartWindow, clearWindows, hmachine]
  rw [← hr] at hcoils hstates
  have hstateOf (n : Loop) : loopStateOf r n = loopStateOf s n := by
    rw [hstates n, loopStateOf, loopStateOf, hmachine]
  have hsame (n : Loop) : (r.loops.recs.get n).state = (s.loops.recs.get n).state := by
    rw [hr, restartWindow, clearWindows, Four.get_map, hmachine]
  have hall := recomputedAll r
  have hsettles := recomputeLoops_settled (s := r)
  have hycanonical := (kept_recomputeLoops r).memory
  obtain ⟨y, hy⟩ : ∃ y, y = recomputeLoops r := ⟨_, rfl⟩
  rw [← hy] at hall hsettles hycanonical
  have hwake : wakeUp reason s = post (.parkWake reason) (writeDockRecord { y with
      port := { y.port with snapTimer := y.partTime + 50 }
      dock := { y.dock with record := { y.dock.record with wakeReason := reason, wakeTime := some y.partTime } } }) := by
    rw [wakeUp, loopsLeaveParked, ← hr, ← hy]
  generalize setMachine .safe s = m at *
  have hyleaves := hall.publishes.leaves
  have hypart : y.partTime = s.partTime := by rw [hyleaves, hrleaves, hmachine]
  have hydock : y.dock = s.dock := by rw [hyleaves, hrleaves, hmachine]
  have hyport : y.port = s.port := by rw [hyleaves, hrleaves, hmachine]
  have hrguard : r.guard = { s.guard with machine := .safe } := by rw [hrleaves, hmachine]
  have hrnotice : r.notice = s.notice := by rw [hrleaves, hmachine]
  have hyguard : y.guard = { s.guard with machine := .safe, noSignal := y.guard.noSignal } := by
    rw [hall.guard, hrguard]
  obtain ⟨z, hz⟩ : ∃ z, z = writeDockRecord { y with
    port := { y.port with snapTimer := y.partTime + 50 }
    dock := { y.dock with record := { y.dock.record with wakeReason := reason, wakeTime := some y.partTime } } } := ⟨_, rfl⟩
  rw [← hz] at hwake
  have hzword {a : Nat} (ha : a < 0x2C0 ∨ 0x2CC < a) : z.word a = y.word a := by
    rw [hz]
    exact Memory.read_writeAll_outside _ (dockCells_within _ ha)
  have hzleaves : z = { y with port := z.port, dock := z.dock, mem := z.mem } := by rw [hz]; rfl
  have hzport : z.port = { s.port with snapTimer := s.partTime + 50 } := by
    rw [hz, ← hyport, ← hypart]
    rfl
  have hzdock : z.dock = { s.dock with
      record := { s.dock.record with wakeReason := reason, wakeTime := some s.partTime } } := by
    rw [hz, ← hydock, ← hypart]
    rfl
  have hopen : z.noticesHeld = false := by
    have hsafe : z.guard.machine = .safe := by rw [hzleaves, hyguard]
    simp [State.noticesHeld, hsafe]
  have hposted := post_eq_update (.parkWake reason) z
  have hdockNotice := post_open hopen (.parkWake reason)
  have hget : (post (.parkWake reason) z).notice.dock = postedTo z .dock 5 [reason.code] := by
    rw [hdockNotice, posted_eq]
    exact setSource_get .dock _ z
  have hloopNotice : (post (.parkWake reason) z).notice.loop = y.notice.loop := by
    rw [show y.notice = z.notice by rw [hzleaves]]
    exact post_get_other (r := .parkWake reason) (show Source.loop ≠ .dock by decide) z
  have hposts : postedTo z .dock 5 [reason.code] = postedTo s .dock 5 [reason.code] := by
    have hmask : z.word 0x062 = s.word 0x062 := by
      rw [hzword (.inl (by decide)), hall.publishes.word _ (.inr (by decide)) (.inl (by decide)), ← henableWord, hrleaves]
      rfl
    have hznotice : z.notice.get .dock = s.notice.get .dock := by
      rw [show z.notice = y.notice by rw [hzleaves], hall.publishes.others .dock (by decide), hrnotice]
    rw [postedTo, postedTo, hznotice, hmask]
  have hpword {a : Nat} (ha : a < 0x010 ∨ 0x040 ≤ a) := post_word (.parkWake reason) z ha
  rw [← hwake] at hposted hget hloopNotice hpword
  generalize wakeUp reason s = u at *
  have huloops : u.loops = y.loops := by rw [hposted, hzleaves]
  have huguard : u.guard = y.guard := by rw [hposted, hzleaves]
  have hyrecs : y.loops.recs = statesGiven r := by rw [hall.loops]
  constructor
  case leaves => rw [hposted, hzleaves, hzport, hyleaves, hrleaves, hmachine]
  case guard =>
    rw [huguard]
    exact hyguard
  case machineWord =>
    rw [hpword (.inl (by decide)), hzword (.inl (by decide)),
      hall.publishes.word _ (.inl (by decide)) (.inl (by decide)), hrleaves]
    exact hmachineWord
  case loops =>
    rw [huloops, hall.loops, hrleaves]
  case coils =>
    intro n i
    rw [huloops, hyrecs, statesGiven, Four.get_mapIdx, hcoils, hmachine]
  case state =>
    intro n
    rw [huloops, hyrecs, statesGiven, Four.get_mapIdx]
    exact hstateOf n
  case dock => rw [hposted, hzdock]
  case notice => rw [hget, hposts]
  case settled =>
    intro h
    have hsettled := hsettles fun n => by rw [hstateOf, hsame, h]
    rw [huguard, hloopNotice, hsettled, hrguard, hrnotice]
    exact ⟨rfl, rfl⟩
  case senseWord =>
    intro hm
    rw [hpword (.inr (by decide)), hz, ← hydock]
    exact dockCells_sense _ (hycanonical (hkept hm))

end Sys2Proof.Proofs
end

section
/-! SUPPORT. A judged window (R28..R32, R34, R35), and the end of START (R157). -/

namespace Sys2Proof.Proofs

open Sys2Proof.Machine Sys2Proof.Safety

/-! ### The end of START (R157, R170) -/

/-- What the end of START leaves. -/
structure StartOver (s u : State) : Prop where
  leaves : u = { s with
    guard := { s.guard with machine := .safe }, blade := u.blade, port := u.port, notice := u.notice, mem := u.mem }
  machineWord : u.word 0x002 = 1
  blade : ¬ Driven s.blade.state → u.blade = { s.blade with effective := .off }
  answer : ∀ count, s.port.inHand = .restart count → u.port.inHand = .none ∧ u.port.answer = ⟨12, 1, 0, count⟩
  notice : (∀ count, s.port.inHand ≠ .restart count) → u.notice = s.notice

theorem startOver (s : State) : StartOver s (answerRestart (setMachine .safe s)) := by
  have hleaves := setMachine_leaves (dest := .safe) (by decide) s
  have hword := setMachine_word (dest := .safe) s (by decide)
  have hblade := fun hd => setMachine_blade_of_not_driven (dest := .safe) (by decide) (s := s) hd
  generalize setMachine .safe s = x at *
  have hport : x.port = s.port := by rw [hleaves]
  have hnotice : x.notice = s.notice := by rw [hleaves]
  cases hin : s.port.inHand with
  | restart count =>
    have hanswer : answerRestart x = answerWith 12 .done count { x with port := { x.port with inHand := .none } } := by
      rw [answerRestart, hport, hin]
      rfl
    have hupdate := answerWith_eq_update 12 .done count { x with port := { x.port with inHand := .none } }
    have hcode := answerWith_word 12 .done count { x with port := { x.port with inHand := .none } } (a := 0x002)
      (.inl (by decide))
    rw [hanswer]
    generalize answerWith 12 .done count { x with port := { x.port with inHand := .none } } = u at *
    refine ⟨by rw [hupdate, hleaves], hcode.trans hword, fun hd => ?_, fun k hk => ?_, fun hk => absurd hin (hk count)⟩
    · rw [hupdate]
      exact hblade hd
    · obtain rfl : k = count := by rw [hin] at hk; cases hk; rfl
      rw [hupdate]
      exact ⟨rfl, rfl⟩
  | none =>
    have hanswer : answerRestart x = x := by rw [answerRestart, hport, hin]
    rw [hanswer]
    exact ⟨by rw [hleaves], hword, hblade, fun k hk => absurd (hin.symm.trans hk) nofun, fun _ => hnotice⟩
  | selfCheck k =>
    have hanswer : answerRestart x = x := by rw [answerRestart, hport, hin]
    rw [hanswer]
    exact ⟨by rw [hleaves], hword, hblade, fun k hk => absurd (hin.symm.trans hk) nofun, fun _ => hnotice⟩

theorem finishStart_stays {s : State} (h : s.guard.windowJudged = false ∨ s.guard.bladeOff = false) : finishStart s = s := by
  refine if_neg ?_
  rcases h with h | h <;> simp [h]

theorem finishStart_ends {s : State} (hm : s.guard.machine = .start) (hw : s.guard.windowJudged = true)
    (hb : s.guard.bladeOff = true) : finishStart s = answerRestart (setMachine .safe s) := if_pos (by simp [hm, hw, hb])

/-! ### Each sub-record of a judged window (R29, R30) -/

/-- The coil state of a window count. -/
def countState (parked : Bool) (count : Nat) : LoopState :=
  if count = 0 then .lost
  else if count ≤ (if parked then 139 else 34) then .weak
  else if count ≤ (if parked then 240 else 60) then .present
  else .noisy

theorem judged_eq (r : SubRecord) (parked : Bool) : r.judged parked =
    if countState parked r.window = .lost ∧ r.state ≠ .lost then
      { r with state := .lost, side := .unknown, candidate := none, agree := 0, amplitude := 0, window := 0 }
    else { r with state := countState parked r.window, window := 0 } := by
  have hstate : (if parked then parkedWindowState r.window else windowState r.window) = countState parked r.window := by
    cases parked <;> rfl
  unfold SubRecord.judged
  dsimp only
  rw [hstate]
  by_cases hlost : countState parked r.window = .lost
  · by_cases hwas : r.state = .lost
    · simp [hlost, hwas]
    · simp [hlost, hwas]
  · simp [hlost]

theorem judged_window (r : SubRecord) (parked : Bool) : (r.judged parked).window = 0 := by
  rw [judged_eq]
  split <;> rfl

theorem judgeWindows_coils {s : State} {n : Loop} (h : s.plan.applied.loopMap.get n ≠ 15) (i : Coil) :
    ((judgeWindows s).loops.recs.get n).coils.get i = ((s.loops.recs.get n).coils.get i).judged s.parked := by
  have hused : entryUnused (s.plan.applied.loopMap.get n) = false := decide_eq_false h
  rw [judgeWindows, Four.get_mapIdx, hused]
  cases i <;> rfl

theorem judgeWindows_state (s : State) (n : Loop) :
    ((judgeWindows s).loops.recs.get n).state = (s.loops.recs.get n).state := by
  rw [judgeWindows, Four.get_mapIdx]
  split <;> rfl

theorem loopStateOf_eq (s : State) (n : Loop) : loopStateOf s n =
    if s.plan.applied.loopMap.get n = 15 then .unused else loopStateBy (s.loops.recs.get n).coils := by
  have hcoils (c : Three SubRecord) : coilsState c = loopStateBy c := by
    simp only [coilsState, loopStateBy, Bool.or_eq_true, decide_eq_true_eq, or_assoc]
  by_cases h : s.plan.applied.loopMap.get n = 15
  · rw [if_pos h]
    exact if_pos (decide_eq_true h)
  · rw [if_neg h, ← hcoils]
    exact if_neg (by simpa [entryUnused] using h)

/-! ### The end of a judged window (R35, R157, R183) -/

/-- What follows the publications of a judged window: the wake by a silent station, the note of START, its end. -/
structure Noted (s u : State) : Prop where
  leaves : u = { s with
    loops := u.loops, blade := u.blade, guard := u.guard, dock := u.dock, port := u.port, notice := u.notice, mem := u.mem
    causes := u.causes }
  coils : ∀ n i, (u.loops.recs.get n).coils.get i = (s.loops.recs.get n).coils.get i ∨
    (u.loops.recs.get n).coils.get i = { (s.loops.recs.get n).coils.get i with window := 0 }
  states : ∀ n, (u.loops.recs.get n).state = (s.loops.recs.get n).state
  published : u.loops.posClass = s.loops.posClass ∧ u.loops.stationNear = s.loops.stationNear
  timer : s.guard.machine ≠ .parked → u.loops.windowTimer = s.loops.windowTimer
  guard : u.guard.recovery = s.guard.recovery ∧ u.guard.escape = s.guard.escape ∧ u.guard.noSignal = s.guard.noSignal
  loop : s.noticesHeld = false → u.notice.loop = s.notice.loop

theorem Noted.refl (s : State) : Noted s s :=
  ⟨rfl, fun _ _ => .inl rfl, fun _ => rfl, ⟨rfl, rfl⟩, fun _ => rfl, ⟨rfl, rfl, rfl⟩, fun _ => rfl⟩

theorem Noted.coil {s u : State} (h : Noted s u) {n : Loop} {i : Coil}
    (hw : ((s.loops.recs.get n).coils.get i).window = 0) :
    (u.loops.recs.get n).coils.get i = (s.loops.recs.get n).coils.get i := by
  rcases h.coils n i with h | h
  · exact h
  · rw [h, ← hw]

theorem Noted.coilView {s u : State} (h : Noted s u) (n : Loop) (i : Coil) :
    ((u.loops.recs.get n).coils.get i).state = ((s.loops.recs.get n).coils.get i).state ∧
      ((u.loops.recs.get n).coils.get i).side = ((s.loops.recs.get n).coils.get i).side ∧
      ((u.loops.recs.get n).coils.get i).amplitude = ((s.loops.recs.get n).coils.get i).amplitude := by
  rcases h.coils n i with h | h
  · rw [h]
    exact ⟨rfl, rfl, rfl⟩
  · rw [h]
    exact ⟨rfl, rfl, rfl⟩

theorem noteWindow_unstarted {s : State} (h : s.guard.machine ≠ .start) : noteWindow s = s := if_neg h

theorem noteWindow_started {s : State} (h : s.guard.machine = .start) :
    noteWindow s = finishStart { s with guard := { s.guard with windowJudged := true } } := if_pos h

theorem noted_noteWindow (s : State) : Noted s (noteWindow s) := by
  by_cases hm : s.guard.machine = .start
  · rw [noteWindow_started hm]
    cases hb : s.guard.bladeOff with
    | false =>
      rw [finishStart_stays (s := { s with guard := { s.guard with windowJudged := true } }) (.inr hb)]
      exact { Noted.refl s with leaves := rfl }
    | true =>
      obtain ⟨x, hx⟩ : ∃ x : State, x = { s with guard := { s.guard with windowJudged := true } } := ⟨_, rfl⟩
      have hover := startOver x
      rw [← hx, finishStart_ends (by rw [hx]; exact hm) (by rw [hx]) (by rw [hx]; exact hb)]
      generalize answerRestart (setMachine .safe x) = u at hover
      have hloops : u.loops = s.loops := by rw [hover.leaves, hx]
      have hguard : u.guard = { s.guard with windowJudged := true, machine := .safe } := by rw [hover.leaves, hx]
      refine ⟨by rw [hover.leaves, hx], fun n i => .inl (by rw [hloops]), fun n => by rw [hloops], by rw [hloops]; exact ⟨rfl, rfl⟩,
        fun _ => by rw [hloops], by rw [hguard]; exact ⟨rfl, rfl, rfl⟩, fun hopen => ?_⟩
      have hno (count : BitVec 8) : x.port.inHand ≠ .restart count := by
        intro hin
        rw [hx] at hin
        simp [State.noticesHeld, hm, show s.port.inHand = .restart count from hin] at hopen
      rw [hover.notice hno, hx]
  · rw [noteWindow_unstarted hm]
    exact Noted.refl s

theorem noted_wakeUp {reason : WakeReason} {s : State} (hp : s.guard.machine = .parked)
    (hs : ∀ n, loopStateOf s n = (s.loops.recs.get n).state) : Noted s (wakeUp reason s) := by
  have h := wakesUp (reason := reason) hp
  generalize wakeUp reason s = u at h
  obtain ⟨hsignal, hloop⟩ := h.settled hs
  refine ⟨?_, fun n i => .inr (h.coils n i), fun n => (h.state n).trans (hs n), ?_, fun hne => absurd hp hne, ?_, fun _ => hloop⟩
  · rw [h.leaves]
  · rw [h.loops]
    exact ⟨rfl, rfl⟩
  · exact ⟨by rw [h.guard], by rw [h.guard], hsignal⟩

/-! ### The window event (R28, R29, R38) -/

/-- An entry to or an exit from PARKED starts a refresh of the snapshot (R196). -/
theorem startMirrors_parks {w : Bool} {a b : State} (h : a.parked ≠ b.parked) :
    (startMirrors w a b).port.snapshot.writing.isSome = true := by
  unfold startMirrors
  dsimp only
  rw [if_neg h]
  exact startRefresh_isSome .snapshot _

/-- An event of the window timer, whatever its rules do. -/
theorem windowExpiry_ran {s b : State} (hr : s.resetting = none) (hd : due s.partTime s.loops.windowTimer = true)
    (hb : windowExpiry { s with causes := Causes.none } = b) :
    ∃ u, exec .windowExpiry s = .next u ∧ Ran s b u ∧
      u.port.snapTimer = b.port.snapTimer ∧ u.port.inHand = b.port.inHand ∧ u.port.answer = b.port.answer ∧
      (s.parked ≠ b.parked → u.port.snapshot.writing.isSome = true) := by
  have hevent : (windowEvent { s with causes := Causes.none }) =
      startMirrors true { s with causes := Causes.none } b := by
    rw [← hb]
    exact if_pos hd
  refine ⟨{ startMirrors true { s with causes := Causes.none } b with causes := s.causes }, ?_, ⟨?_, ?_⟩, ?_⟩
  · show Host.Outcome.next (s.whenRunning _) = _
    rw [whenRunning_running hr, State.noting, hevent]
  · rw [startMirrors_eq_update]
  · exact fun a h1 h2 h3 => startMirrors_word _ _ _ h1 h2 h3
  · exact ⟨by simp, by simp, by simp, startMirrors_parks⟩

end Sys2Proof.Proofs
end

section
/-! SUPPORT. The judgement of a presence window (R29..R32, R34, R35). -/

namespace Sys2Proof.Proofs

open Sys2Proof.Machine Sys2Proof.Safety

/-- The window timer restarted. -/
def windowTimed (s : State) : State :=
  { s with loops := { s.loops with windowTimer := s.loops.windowTimer + s.windowPeriod }, causes := Causes.none }

/-- The state that a judged window judges. -/
def windowed (s : State) : State := judgeWindows (windowTimed s)

/-- The publications of a judged window. -/
def windowTable (s : State) : State := publishNear (publishClass (testWatch (recomputeLoops (windowed s))))

/-- What a judged window leaves before its refreshes. -/
def windowEnded (s : State) : State := judgedWindow (windowTimed s)

theorem windowEnded_eq (s : State) : windowEnded s = noteWindow
    (if stationSilent (windowTimed s) (windowTable s) then wakeUp .stationSilent (windowTable s) else windowTable s) := by
  rw [windowEnded, judgedWindow, windowTable, windowed]

theorem windowExpiry_judged {s : State} (hc : s.loops.checkFlag = false) (hs : s.loops.spoiled = false) :
    windowExpiry { s with causes := Causes.none } = windowEnded s := by
  have hcheck : ¬ s.loops.checkFlag = true := by rw [hc]; decide
  have hspoiled : ¬ s.loops.spoiled = true := by rw [hs]; decide
  exact (if_neg hcheck).trans (if_neg hspoiled)

theorem windowExpiry_touched {s : State} (h : s.loops.checkFlag = true ∨ s.loops.spoiled = true) :
    windowExpiry { s with causes := Causes.none } = clearWindows { s with
      loops := { s.loops with
        windowTimer := s.loops.windowTimer + s.windowPeriod, spoiled := s.loops.checkFlag && s.loops.spoiled }
      causes := Causes.none } := by
  unfold windowExpiry
  dsimp only
  cases hc : s.loops.checkFlag with
  | true => rw [if_pos rfl, Bool.true_and]; rfl
  | false =>
    have hs : s.loops.spoiled = true := h.resolve_left (by rw [hc]; decide)
    rw [hs]
    rfl

/-- What the publications of a judged window leave. -/
theorem windowTable_tabled {s : State} (ha : s.plan.active = none) : Tabled (windowed s) (windowTable s) ∧
    (windowTable s).loops.stationNear =
      nearBy s.plan.applied.nearAmp s.loops.stationNear (windowed s).loops.recs.l3.coils ∧
    (∀ n, ((windowTable s).loops.recs.get n).state = loopStateOf (windowed s) n) ∧
    ∀ n, loopStateOf (windowTable s) n = ((windowTable s).loops.recs.get n).state := by
  have hactive : (windowed s).plan.active = none := ha
  have hstated := stated_recomputeLoops (windowed s)
  have hall := recomputedAll (windowed s)
  obtain ⟨htabled, hloops⟩ := tabled_class hactive hstated
  obtain ⟨hnear, hnearLoops⟩ := htabled.near hactive
  have hwindow : windowTable s = publishNear (publishClass (testWatch (recomputeLoops (windowed s)))) := rfl
  have hgiven : (windowTable s).loops.recs = statesGiven (windowed s) := by
    rw [hwindow, hnearLoops, hloops, hall.loops]
  have hstate (n : Loop) : ((windowTable s).loops.recs.get n).state = loopStateOf (windowed s) n := by
    rw [hgiven, statesGiven, Four.get_mapIdx]
  rw [← hwindow] at hnear hnearLoops
  refine ⟨hnear, ?_, hstate, fun n => ?_⟩
  · rw [hnearLoops, hloops, hall.loops]
    rfl
  · rw [hstate n, loopStateOf, loopStateOf, hnear.coils n, hnear.leaves]

theorem windowEnded_noted {s : State} (ha : s.plan.active = none) : Noted (windowTable s) (windowEnded s) := by
  obtain ⟨htabled, -, -, hsettled⟩ := windowTable_tabled ha
  have hmachine : (windowTable s).guard.machine = s.guard.machine := by
    rw [htabled.guard]
    rfl
  rw [windowEnded_eq]
  split
  case isTrue h =>
    have hparked : s.parked = true := by
      simp only [stationSilent, Bool.and_eq_true] at h
      exact h.1.1
    have hp : (windowTable s).guard.machine = .parked := hmachine.trans (of_decide_eq_true hparked)
    have hwake := wakesUp (reason := .stationSilent) hp
    rw [noteWindow_unstarted (by rw [hwake.guard]; nofun)]
    exact noted_wakeUp hp hsettled
  case isFalse => exact noted_noteWindow _

/-- The readings of a loop that the table's publications take. -/
theorem loopReadings_congr {c d : Three SubRecord} (h : ∀ i, (c.get i).state = (d.get i).state ∧
    (c.get i).side = (d.get i).side ∧ (c.get i).amplitude = (d.get i).amplitude) :
    classBy c = classBy d ∧ loopStateBy c = loopStateBy d ∧ ∀ amp before, nearBy amp before c = nearBy amp before d := by
  obtain ⟨hl1, hl2, hl3⟩ : c.left.state = d.left.state ∧ c.left.side = d.left.side ∧
    c.left.amplitude = d.left.amplitude := h .left
  obtain ⟨hr1, hr2, hr3⟩ : c.right.state = d.right.state ∧ c.right.side = d.right.side ∧
    c.right.amplitude = d.right.amplitude := h .right
  obtain ⟨hb1, hb2, hb3⟩ : c.rear.state = d.rear.state ∧ c.rear.side = d.rear.side ∧
    c.rear.amplitude = d.rear.amplitude := h .rear
  refine ⟨?_, ?_, fun amp before => ?_⟩
  · simp only [classBy, hl2, hr2, hb2]
  · simp only [loopStateBy, hl1, hr1, hb1]
  · simp only [nearBy, hl3, hr3]

/-- A window expiry that neither the contact list nor PARKED shows refreshes the table's mirror alone (R38, R195). -/
theorem startMirrors_table {w : Bool} {a b : State} (hl : b.contact.list = a.contact.list) (hp : b.parked = a.parked)
    (hn : b.causes.contactList = false) {x : Nat} (hx : x ≠ 0x180) : (startMirrors w a b).word x = b.word x := by
  unfold startMirrors
  simp only [hl, hp, hn, ne_eq, not_true_eq_false, decide_false, Bool.or_false, Bool.false_eq_true, if_false, if_true]
  split
  · exact startRefresh_word .loopTable b hx
  · rfl

/-- Settles O14: a window that is not due, one that a check touched, and one that is judged. -/
theorem windowJudgement : Obligations.WindowJudgement := by
  unfold Obligations.WindowJudgement
  intro s hr
  refine ⟨fun hd => ?still, fun hd ht => ?touched, fun hd hc hs ha => ?judged⟩
  case still =>
    have hnot : windowEvent { s with causes := Causes.none } = { s with causes := Causes.none } :=
      if_neg (by rw [hd]; decide)
    show Host.Outcome.next (s.whenRunning _) = _
    rw [whenRunning_running hr, State.noting, hnot]
  case touched =>
    have hexpiry := windowExpiry_touched ht
    obtain ⟨b, hb⟩ : ∃ b, b = clearWindows { s with
      loops := { s.loops with
        windowTimer := s.loops.windowTimer + s.windowPeriod, spoiled := s.loops.checkFlag && s.loops.spoiled }
      causes := Causes.none } := ⟨_, rfl⟩
    rw [← hb] at hexpiry
    have hevent : windowEvent { s with causes := Causes.none } = startMirrors true { s with causes := Causes.none } b := by
      rw [← hexpiry]
      exact if_pos hd
    have hexec : exec .windowExpiry s =
        .next { startMirrors true { s with causes := Causes.none } b with causes := s.causes } := by
      show Host.Outcome.next (s.whenRunning _) = _
      rw [whenRunning_running hr, State.noting, hevent]
    have hleaves := startMirrors_eq_update true { s with causes := Causes.none } b
    have hword {a : Nat} (ha : a ≠ 0x180) := startMirrors_table (w := true) (a := { s with causes := Causes.none }) (b := b)
      (by rw [hb]; rfl) (by rw [hb]; rfl) (by rw [hb]; rfl) ha
    generalize startMirrors true { s with causes := Causes.none } b = u at *
    have hloops : u.loops = b.loops := by rw [hleaves]
    refine ⟨_, hexec, ?_, fun a ha => (hword ha).trans (by rw [hb]; rfl), ?_, ?_, fun n i => ?_⟩
    · rw [hleaves, hb]
      rfl
    · rw [hloops, hb]
      simp [clearWindows, State.windowPeriod, State.parked]
    · rw [hloops, hb]
      rfl
    · rw [hloops, hb, clearWindows, Four.get_map]
      cases i <;> rfl
  case judged =>
    obtain ⟨u, hu, hran, -⟩ := windowExpiry_ran hr hd (windowExpiry_judged hc hs)
    obtain ⟨htabled, hnear, hstate, -⟩ := windowTable_tabled ha
    have hnoted := windowEnded_noted ha
    obtain ⟨-, -, -, hloops, -, -, -, -, -, -, hguard, -, hnotice, -⟩ := hran.blocks
    have huleaves := hran.leaves
    generalize windowEnded s = v at hnoted hloops hguard hnotice huleaves hran
    generalize hw : windowTable s = w at htabled hnear hstate hnoted
    obtain ⟨hclass, hsame⟩ := hnoted.published
    obtain ⟨hrecovery, hescape, hsignal⟩ := hnoted.guard
    have hwcoils (n : Loop) (i : Coil) (hn : s.plan.applied.loopMap.get n ≠ 15) :
        (w.loops.recs.get n).coils.get i = ((s.loops.recs.get n).coils.get i).judged s.parked := by
      rw [htabled.coils n]
      exact judgeWindows_coils (s := windowTimed s) hn i
    have hcoils (n : Loop) (i : Coil) (hn : s.plan.applied.loopMap.get n ≠ 15) :
        (u.loops.recs.get n).coils.get i = ((s.loops.recs.get n).coils.get i).judged s.parked := by
      rw [hloops, hnoted.coil (by rw [hwcoils n i hn, judged_window]), hwcoils n i hn]
    have hwclass : w.loops.posClass = classBy (windowed s).loops.recs.l0.coils := by rw [htabled.loops]
    have hviews (n : Loop) := loopReadings_congr (c := (u.loops.recs.get n).coils)
      (d := ((windowed s).loops.recs.get n).coils) fun i => by
        rw [hloops, ← htabled.coils n]
        exact hnoted.coilView n i
    obtain ⟨hclassBy, -, -⟩ := hviews 0
    obtain ⟨-, -, hnearBy⟩ := hviews 3
    have hustate (n : Loop) : (u.loops.recs.get n).state = (w.loops.recs.get n).state := by rw [hloops, hnoted.states n]
    have hwas (n : Loop) : ((windowed s).loops.recs.get n).state = (s.loops.recs.get n).state :=
      judgeWindows_state (windowTimed s) n
    refine ⟨u, hu, ?leaves, fun hm => ?timer, fun n hn i => ?coils, fun n => ?states, ?classed, ?near, ?hears,
      fun hopen => ?posts⟩
    case leaves =>
      rw [huleaves, hnoted.leaves, htabled.leaves]
      rfl
    case timer =>
      have hmw : w.guard.machine ≠ .parked := by rw [htabled.guard]; exact hm
      rw [hloops, hnoted.timer hmw, htabled.loops]
      show s.loops.windowTimer + s.windowPeriod = _
      simp [State.windowPeriod, State.parked, hm]
    case coils =>
      rw [hcoils n i hn, judged_eq]
      simp only [countState, State.parked, decide_eq_true_eq]
    case states =>
      obtain ⟨-, hby, -⟩ := hviews n
      rw [hustate, hstate, loopStateOf_eq, hby]
      rfl
    case classed =>
      have huclass : u.loops.posClass = classBy (windowed s).loops.recs.l0.coils := by rw [hloops, hclass, hwclass]
      exact huclass.trans hclassBy.symm
    case near =>
      have hunear : u.loops.stationNear = nearBy s.plan.applied.nearAmp s.loops.stationNear
          (windowed s).loops.recs.l3.coils := by rw [hloops, hsame, hnear]
      exact hunear.trans (hnearBy _ _).symm
    case hears =>
      have hheard := htabled.hears
      have h0 : (windowed s).loops.recs.l0.state = s.loops.recs.l0.state := hwas 0
      have hu0 : u.loops.recs.l0.state = w.loops.recs.l0.state := hustate 0
      have huclass : u.loops.posClass = w.loops.posClass := by rw [hloops, hclass]
      unfold GuardHears RecoveryEnds ClassMoved Silent at hheard ⊢
      rw [h0] at hheard
      rw [hguard, hrecovery, hescape, hsignal, hu0, huclass]
      exact hheard
    case posts =>
      have htold := htabled.loop hopen
      have hbetween : reportsBetween (windowed s) w = reportsBetween s u := by
        have h0 : (windowed s).loops.recs.l0.state = s.loops.recs.l0.state := hwas 0
        have h1 : (windowed s).loops.recs.l1.state = s.loops.recs.l1.state := hwas 1
        have h2 : (windowed s).loops.recs.l2.state = s.loops.recs.l2.state := hwas 2
        have h3 : (windowed s).loops.recs.l3.state = s.loops.recs.l3.state := hwas 3
        have u0 : u.loops.recs.l0.state = w.loops.recs.l0.state := hustate 0
        have u1 : u.loops.recs.l1.state = w.loops.recs.l1.state := hustate 1
        have u2 : u.loops.recs.l2.state = w.loops.recs.l2.state := hustate 2
        have u3 : u.loops.recs.l3.state = w.loops.recs.l3.state := hustate 3
        have huclass : u.loops.posClass = w.loops.posClass := by rw [hloops, hclass]
        rw [reportsBetween, reportsBetween, h0, h1, h2, h3, u0, u1, u2, u3, huclass]
        rfl
      have hheld : w.noticesHeld = false := by
        have hmachine : w.guard.machine = s.guard.machine := by rw [htabled.guard]; rfl
        have hport : w.port = s.port := by rw [htabled.leaves]; rfl
        rw [State.noticesHeld, hmachine, hport]
        exact hopen
      refine loopPosts_of_told ?_
      rw [hnotice, hnoted.loop hheld, htold, hbetween]
      rfl

end Sys2Proof.Proofs
end

section
/-! SUPPORT. The end of START (R125, R157, R170, R191). -/

namespace Sys2Proof.Proofs

open Sys2Proof.Machine Sys2Proof.Safety

/-- The part of the port that an event's refreshes leave to its rules, and the refresh that PARKED starts (R196). -/
theorem event_port {s b : State} {f : State → State} (hr : s.resetting = none)
    (hb : f { s with causes := Causes.none } = b) :
    (s.event f).port.snapTimer = b.port.snapTimer ∧ (s.event f).port.inHand = b.port.inHand ∧
      (s.event f).port.answer = b.port.answer ∧
      (s.parked ≠ b.parked → (s.event f).port.snapshot.writing.isSome = true) := by
  rw [event_running hr, State.noting, hb]
  exact ⟨by simp, by simp, by simp, startMirrors_parks⟩

/-- START lasts, or ends with its answer. -/
structure StartKept (s u : State) : Prop where
  stays : s.guard.windowJudged = false ∨ s.guard.bladeOff = false →
    u.guard.machine = .start ∧ u.port.inHand = s.port.inHand ∧ u.port.answer = s.port.answer
  ends : s.guard.windowJudged = true → s.guard.bladeOff = true → u.guard.machine = .safe ∧ u.word 0x002 = 1 ∧
    ∀ count, s.port.inHand = .restart count → u.port.inHand = .none ∧ u.port.answer = ⟨12, 1, 0, count⟩
  noted : u.guard.windowJudged = s.guard.windowJudged ∧ u.guard.bladeOff = s.guard.bladeOff

theorem finishStart_kept {s : State} (hm : s.guard.machine = .start) : StartKept s (finishStart s) := by
  by_cases h : s.guard.windowJudged = false ∨ s.guard.bladeOff = false
  · rw [finishStart_stays h]
    refine ⟨fun _ => ⟨hm, rfl, rfl⟩, fun hw hb => ?_, ⟨rfl, rfl⟩⟩
    rcases h with h | h
    · exact absurd (hw.symm.trans h) nofun
    · exact absurd (hb.symm.trans h) nofun
  · obtain ⟨hw, hb⟩ := not_or.1 h
    have hover := startOver s
    rw [finishStart_ends hm (Bool.eq_true_of_not_eq_false hw) (Bool.eq_true_of_not_eq_false hb)]
    refine ⟨fun hno => absurd hno h, fun _ _ => ⟨by rw [hover.leaves], hover.machineWord, hover.answer⟩, ?_⟩
    rw [hover.leaves]
    exact ⟨rfl, rfl⟩

theorem noteBladeOff_started {s : State} (hm : s.guard.machine = .start) (hoff : s.blade.state = .off) :
    noteBladeOff s = finishStart { s with guard := { s.guard with bladeOff := true } } := if_pos (by simp [hm, hoff])

/-- The blade's OFF, noted during START, from a blade that brakes. -/
theorem noteBladeOff_kept {s x : State} (hguard : x.guard.machine = .start ∧
    x.guard.windowJudged = s.guard.windowJudged) (hport : x.port = s.port) (hoff : x.blade.state = .off) :
    StartKept { s with guard := { s.guard with bladeOff := true } } (noteBladeOff x) := by
  obtain ⟨hm, hw⟩ := hguard
  rw [noteBladeOff_started hm hoff]
  have hkept := finishStart_kept (s := { x with guard := { x.guard with bladeOff := true } }) hm
  generalize finishStart { x with guard := { x.guard with bladeOff := true } } = u at hkept
  obtain ⟨hstays, hends, hnoted⟩ := hkept
  dsimp only at hstays hends hnoted
  rw [hw, hport] at hstays hends
  rw [hw] at hnoted
  exact ⟨hstays, hends, hnoted⟩

/-- The event that ends BRAKING during START. -/
theorem exec_bladeOff {c : Instr} {f : State → State} {s x : State} (hr : s.resetting = none)
    (hexec : exec c s = .next (s.event f)) (hf : f { s with causes := Causes.none } = noteBladeOff x)
    (hguard : x.guard.machine = .start ∧ x.guard.windowJudged = s.guard.windowJudged) (hport : x.port = s.port)
    (hoff : x.blade.state = .off) (hbrake : x.blade.brake = false) :
    ∃ u, exec c s = .next u ∧ u.blade.state = .off ∧ u.blade.brake = false ∧ u.guard.bladeOff = true ∧
      StartKept { s with guard := { s.guard with bladeOff := true } } u := by
  have hkept := noteBladeOff_kept hguard hport hoff
  have hran := event_ran hr hf
  obtain ⟨-, hinHand, hanswer, -⟩ := event_port hr hf
  obtain ⟨d, hblade⟩ := noteBladeOff_blade x
  obtain ⟨-, -, -, -, -, -, -, -, hublade, -, huguard, -⟩ := hran.blocks
  obtain ⟨hstays, hends, hjudged, hnoted⟩ := hkept
  refine ⟨_, hexec, ?_, ?_, ?_, ?_⟩
  · rw [hublade, hblade, hoff]
  · rw [hublade, hblade, hbrake]
  · rw [huguard]
    exact hnoted
  · refine ⟨fun h => ?_, fun hw hb => ?_, by rw [huguard]; exact ⟨hjudged, hnoted⟩⟩
    · rw [huguard, hinHand, hanswer]
      exact hstays h
    · rw [huguard, hinHand, hanswer, hran.word 0x002 (by decide) (by decide) (by decide)]
      exact hends hw hb

theorem brakeExpiry_due {s : State} {e : Time} (ht : s.blade.brakeTimer = some e) (hd : due s.partTime e = true) :
    brakeExpiry s = slowBrake s := if_pos (by rw [ht]; exact hd)

/-- Settles O15: the two ends of START note themselves, and the later one ends it. -/
theorem startEndsAtWindow : Obligations.StartEndsAtWindow := by
  unfold Obligations.StartEndsAtWindow
  refine ⟨fun s hr hd hc hs ha hm => ?window, fun c s hr hm hb hevent => ?blade⟩
  case window =>
    obtain ⟨u, hu, hran, -, hinHand, hanswer, -⟩ := windowExpiry_ran hr hd (windowExpiry_judged hc hs)
    obtain ⟨htabled, -⟩ := windowTable_tabled ha
    obtain ⟨-, -, -, -, -, -, -, -, -, -, huguard, -⟩ := hran.blocks
    have hword := hran.word 0x002 (by decide) (by decide) (by decide)
    have hsilent : ¬ stationSilent (windowTimed s) (windowTable s) = true := by
      have hparked : (windowTimed s).parked = false := decide_eq_false (by rw [show (windowTimed s).guard = s.guard from rfl, hm]; decide)
      simp [stationSilent, hparked]
    have hwguard : (windowTable s).guard.machine = .start ∧ (windowTable s).guard.bladeOff = s.guard.bladeOff := by
      rw [htabled.guard]
      exact ⟨hm, rfl⟩
    have hwport : (windowTable s).port = s.port := by rw [htabled.leaves]; rfl
    rw [windowEnded_eq, if_neg hsilent] at hword huguard hinHand hanswer
    generalize windowTable s = w at hwguard hwport hword huguard hinHand hanswer
    obtain ⟨hwm, hwb⟩ := hwguard
    rw [noteWindow_started hwm] at hword huguard hinHand hanswer
    have hkept := finishStart_kept (s := { w with guard := { w.guard with windowJudged := true } }) hwm
    generalize finishStart { w with guard := { w.guard with windowJudged := true } } = v at *
    obtain ⟨hstays, hends, hjudged, -⟩ := hkept
    dsimp only at hstays hends
    rw [hwb, hwport] at hstays hends
    refine ⟨u, hu, by rw [huguard]; exact hjudged, fun hoff => ?_, fun hoff => ?_⟩
    · dsimp only
      rw [huguard, hinHand, hanswer]
      exact hstays (.inr hoff)
    · dsimp only
      rw [huguard, hinHand, hanswer, hword]
      exact hends rfl hoff
  case blade =>
    have hunarmed {x : State} (h : x.guard.machine = .start) : x.effectiveDirective = .off :=
      effectiveDirective_off (.inr (by rw [h]; decide))
    have hfinish {u : State} (hk : StartKept { s with guard := { s.guard with bladeOff := true } } u) :
        (s.guard.windowJudged = false → u.guard.machine = .start ∧ u.port.inHand = s.port.inHand ∧
          u.port.answer = s.port.answer) ∧
        (s.guard.windowJudged = true → u.guard.machine = .safe ∧ u.word 0x002 = 1 ∧
          ∀ count, s.port.inHand = .restart count → u.port.inHand = .none ∧ u.port.answer = ⟨12, 1, 0, count⟩) :=
      ⟨fun h => hk.stays (.inl h), fun h => hk.ends h rfl⟩
    rcases hevent with ⟨t, rfl, hd, hst⟩ | ⟨e, rfl, he, hd⟩
    · obtain ⟨x, hx⟩ : ∃ x : State, x = { s with timebase := t, causes := Causes.none } := ⟨_, rfl⟩
      have hxblade : x.blade = s.blade := by rw [hx]
      have hxst : Stopped x t := by rwa [Stopped, hxblade]
      have haction := (bladeAction_braking (target := x.bladeTarget) (stopped := (x.blade.measure t).stopped t)
        ((calmed_state t x).trans (hxblade ▸ hb))).trans (if_pos ((measure_stopped_iff x t).2 hxst))
      have hperiod := (bladePeriod_calm (t := t) (s := x) (by rw [measure_rpm_stopped hxst]; omega)).trans
        (congrArg publishBlade haction)
      obtain ⟨y, hy⟩ : ∃ y, y = calmed t x := ⟨_, rfl⟩
      have hyguard : y.guard = s.guard := by rw [hy, calmed, hx]
      have hyport : y.port = s.port := by rw [hy, calmed, hx]
      rw [← hy] at hperiod
      have hexpiry : bladeExpiry t x = publishBlade (offAndJudge y) :=
        (if_pos (by rw [hx]; exact hd) : bladeExpiry t x = Machine.bladePeriod t x).trans hperiod
      obtain ⟨-, -, hbrake, -⟩ := offAndJudge_blade y
      obtain ⟨u, hu, hustate, hubrake, huoff, hkept⟩ := exec_bladeOff (c := .bladePeriod t)
        (f := fun a => bladeExpiry t (a.atTime t)) (x := { offAndJudge y with blade := { (offAndJudge y).blade with
          load := loadOf (offAndJudge y).blade.state (offAndJudge y).blade.duty } }) hr rfl
        ((congrArg (bladeExpiry t) hx.symm).trans hexpiry) ⟨by simp [hyguard, hm], by simp [hyguard]⟩ (by simp [hyport])
        (offAndJudge_state_off (hunarmed (by rw [hyguard, hm]))) hbrake
      exact ⟨u, hu, hustate, hubrake, huoff, hfinish hkept⟩
    · obtain ⟨y, hy⟩ : ∃ y, y = brakeReleased { s with causes := Causes.none } := ⟨_, rfl⟩
      have hreleased := slowBrake_braking (s := { s with causes := Causes.none }) hb
      have hyleaves := brakeReleased_eq_update { s with causes := Causes.none }
      rw [← hy] at hreleased hyleaves
      have hymachine : y.guard.machine = .start := by rw [hyleaves]; exact hm
      have hyjudged : y.guard.windowJudged = s.guard.windowJudged := by rw [hyleaves]
      have hyport : y.port = s.port := by rw [hyleaves]
      obtain ⟨-, -, hbrake, -⟩ := offAndJudge_blade y
      obtain ⟨u, hu, hustate, hubrake, huoff, hkept⟩ := exec_bladeOff (c := .brakeSlow) (f := brakeExpiry) hr rfl
        ((brakeExpiry_due (s := { s with causes := Causes.none }) he hd).trans hreleased)
        ⟨by simp [hymachine], by simp [hyjudged]⟩ (by simp [hyport]) (offAndJudge_state_off (hunarmed hymachine)) hbrake
      exact ⟨u, hu, hustate, hubrake, huoff, hfinish hkept⟩

end Sys2Proof.Proofs
end

section
/-! SUPPORT. The contact sense (R173), and the wakes of a PARKED machine (R35, R183, R196). -/

namespace Sys2Proof.Proofs

open Sys2Proof.Machine Sys2Proof.Safety

/-! ### A wake in the words of the claims -/

/-- A wake from the state `x` that an event's rules have made of `s`, with the refreshes of the event. -/
theorem woken_of_wakesUp {reason : WakeReason} {s x b u : State} (h : WakesUp reason x b)
    (hx : x.partTime = s.partTime ∧ x.dock.record = s.dock.record ∧ x.notice.dock = s.notice.dock ∧
      x.word 0x062 = s.word 0x062)
    (hu : u.guard = b.guard ∧ u.loops = b.loops ∧ u.dock = b.dock ∧ u.notice.dock = b.notice.dock ∧
      u.word 0x002 = b.word 0x002 ∧ u.port.snapTimer = b.port.snapTimer)
    (hsnap : u.port.snapshot.writing.isSome = true) : Woken s u reason := by
  obtain ⟨hpart, hrecord, hnotice, hmask⟩ := hx
  obtain ⟨huguard, huloops, hudock, hunotice, huword, hutimer⟩ := hu
  have hposted : postedTo x .dock 5 [reason.code] = postedTo s .dock 5 [reason.code] := by
    have hget : x.notice.get .dock = s.notice.get .dock := hnotice
    rw [postedTo, postedTo, hget, hmask]
  refine ⟨?_, huword.trans h.machineWord, ?_, ?_, hsnap, ?_, ?_, fun n i => ?_⟩
  · rw [huguard, h.guard]
  · rw [huloops, h.loops, hpart]
  · rw [hutimer, h.leaves, hpart]
  · rw [hudock, h.dock, hrecord, hpart]
  · rw [hunotice, h.notice, hposted]
  · rw [huloops, h.coils]

/-- A PARKED machine wakes at its window when loop 0 is silent at REAR. -/
theorem window_wakes {s : State} (hr : s.resetting = none) (hp : s.guard.machine = .parked)
    (hd : due s.partTime s.loops.windowTimer = true) (hc : s.loops.checkFlag = false) (hs : s.loops.spoiled = false)
    (ha : s.plan.active = none) (hrun : s.dock.run = .none) (hmap : s.plan.applied.loopMap.l0 ≠ 15)
    (hrear : s.loops.recs.l0.coils.rear.state ≠ .lost) (hcount : s.loops.recs.l0.coils.rear.window = 0) :
    ∃ u, exec .windowExpiry s = .next u ∧ Woken s u .stationSilent ∧ u.plan = s.plan ∧ u.drive = s.drive ∧
      u.contact = s.contact ∧ u.recv = s.recv := by
  obtain ⟨u, hu, hran, htimer, -, -, hsnap⟩ := windowExpiry_ran hr hd (windowExpiry_judged hc hs)
  obtain ⟨htabled, -⟩ := windowTable_tabled ha
  have hparked : s.parked = true := decide_eq_true hp
  have hcoil : ((windowTable s).loops.recs.get 0).coils.get .rear =
      ((s.loops.recs.get 0).coils.get .rear).judged s.parked := by
    rw [htabled.coils 0]
    exact judgeWindows_coils (s := windowTimed s) (n := 0) hmap .rear
  have hended := windowEnded_eq s
  have htimed : (windowTimed s).parked = true ∧ (windowTimed s).loops.recs.l0.coils.rear.state ≠ .lost := ⟨hparked, hrear⟩
  have hwp : (windowTable s).guard.machine = .parked := by
    rw [htabled.guard]
    exact hp
  have hpart : (windowTable s).partTime = s.partTime := by rw [htabled.leaves]; rfl
  have hplan : (windowTable s).plan = s.plan ∧ (windowTable s).drive = s.drive ∧
      (windowTable s).contact = s.contact ∧ (windowTable s).recv = s.recv := by
    rw [htabled.leaves]
    exact ⟨rfl, rfl, rfl, rfl⟩
  have hrecord : (windowed s).dock.record = s.dock.record := rfl
  have hdockBefore : (windowed s).notice.dock = s.notice.dock := rfl
  obtain ⟨hdock, hdockNotice⟩ := htabled.undocked hrun
  have hmask : (windowTable s).word 0x062 = s.word 0x062 := htabled.word _ (.inr (by decide)) (.inl (by decide))
  rw [hdockBefore] at hdockNotice
  rw [← hdock] at hrecord
  generalize windowTable s = w at hcoil hended hwp hpart hplan hrecord hdockNotice hmask
  have hlost : w.loops.recs.l0.coils.rear.state = .lost := by
    have hnone : countState s.parked s.loops.recs.l0.coils.rear.window = .lost := by
      rw [hcount]
      rfl
    have hrearCoil : w.loops.recs.l0.coils.rear = (s.loops.recs.l0.coils.rear).judged s.parked := hcoil
    rw [hrearCoil, judged_eq, hnone]
    simp [hrear]
  have hsilent : stationSilent (windowTimed s) w = true := by
    obtain ⟨hbefore, hwas⟩ := htimed
    simp [stationSilent, hbefore, hwas, hlost]
  have hwake := wakesUp (reason := .stationSilent) hwp
  rw [if_pos hsilent, noteWindow_unstarted (by rw [hwake.guard]; nofun)] at hended
  rw [hended] at hran htimer hsnap
  generalize wakeUp .stationSilent w = b at *
  obtain ⟨-, -, hurecv, huloops, huplan, hudrive, -, -, -, hucontact, huguard, hudock, hunotice, -⟩ := hran.blocks
  have hawake : s.parked ≠ b.parked := by
    rw [hparked, State.parked, hwake.guard]
    nofun
  obtain ⟨hwplan, hwdrive, hwcontact, hwrecv⟩ := hplan
  refine ⟨u, hu, woken_of_wakesUp hwake ⟨hpart, hrecord, hdockNotice, hmask⟩ ⟨huguard, huloops, hudock, by rw [hunotice],
      hran.word _ (by decide) (by decide) (by decide), htimer⟩ (hsnap hawake), ?_, ?_, ?_, ?_⟩
  · rw [huplan, hwake.leaves, hwplan]
  · rw [hudrive, hwake.leaves, hwdrive]
  · rw [hucontact, hwake.leaves, hwcontact]
  · rw [hurecv, hwake.leaves, hwrecv]

/-! ### The rows of the contact sense (R173) -/

/-- A sample taken: the timer, the voltage, and the sense as given. -/
abbrev sensed (v : Byte) (c : Sense) (t : Option Time) (s : State) : State :=
  { s with dock := { s.dock with timer := s.dock.timer + 10, voltage := v, sense := c, senseStart := t } }

theorem sample_still {v : Byte} {s : State} (hr : s.resetting = none) (hd : due s.partTime s.dock.timer = false) :
    exec (.contactSample v) s = .next s :=
  congrArg Host.Outcome.next (event_still hr (if_neg (by rw [show due _ _ = false from hd]; decide)))

/-- A sample whose row moves the sense alone. -/
theorem sample_senses {v : Byte} {s : State} {c : Sense} {t : Option Time} (hr : s.resetting = none)
    (hd : due s.partTime s.dock.timer = true)
    (h : moveSense v (sampled v { s with causes := Causes.none }) = sensed v c t { s with causes := Causes.none }) :
    exec (.contactSample v) s = .next (sensed v c t s) :=
  congrArg Host.Outcome.next (event_unshown hr ((if_pos (by exact hd)).trans h) { Unshown.refl s with } rfl)

/-- A sample whose row publishes the presence besides, in the dock record. -/
theorem sample_publishes {v : Byte} {s : State} {c : Sense} (hr : s.resetting = none)
    (hd : due s.partTime s.dock.timer = true)
    (h : moveSense v (sampled v { s with causes := Causes.none }) =
      writeDockRecord (sensed v c none { s with causes := Causes.none }))
    (hw : c.isPresent = true ∨ MemoryCanonical s) : ∃ u, exec (.contactSample v) s = .next u ∧
      u = { sensed v c none s with mem := u.mem } ∧ u.word 0x2C1 = wordB c.isPresent ∧
      ∀ a, a < 0x2C0 ∨ 0x2CD ≤ a → u.word a = s.word a := by
  refine ⟨_, congrArg Host.Outcome.next (event_unshown hr ((if_pos (by exact hd)).trans h) { Unshown.refl s with } rfl),
    rfl, ?_, fun a ha => Memory.read_writeAll_outside _ (dockCells_within _ (by omega))⟩
  rcases hw with hw | hw
  · have hcells : ∃ first after, dockCells (sensed v c none s).dock = [(0x2C0, first)] ++ (0x2C1, wordB c.isPresent) ::
        cellsFrom 0x2C2 after := ⟨_, _, rfl⟩
    obtain ⟨first, after, hcells⟩ := hcells
    show (s.mem.writeAll (dockCells (sensed v c none s).dock)).read 0x2C1 = _
    rw [hcells]
    refine read_writeAll_last _ _ (by rw [hw]; decide) fun cell hcell => ?_
    have := cellsFrom_bounds hcell
    omega
  · exact dockCells_sense _ hw

/-- The loss of the contact wakes a PARKED machine (R183). -/
theorem sample_wakes {v : Byte} {s : State} (hr : s.resetting = none) (hd : due s.partTime s.dock.timer = true)
    (hp : s.guard.machine = .parked) (hm : MemoryCanonical s)
    (h : moveSense v (sampled v { s with causes := Causes.none }) =
      wakeUp .contactLost (writeDockRecord (sensed v .absent none { s with causes := Causes.none }))) :
    ∃ u, exec (.contactSample v) s = .next u ∧ Woken s u .contactLost ∧
      u.dock = { (sensed v .absent none s).dock with record := u.dock.record } ∧
      u.word 0x2C1 = 0 ∧ u.plan = s.plan ∧ u.drive = s.drive ∧ u.contact = s.contact ∧ u.recv = s.recv := by
  obtain ⟨x, hx⟩ : ∃ x, x = writeDockRecord (sensed v .absent none { s with causes := Causes.none }) := ⟨_, rfl⟩
  have hexpiry : sampleExpiry v { s with causes := Causes.none } = wakeUp .contactLost x := by
    rw [hx]
    exact (if_pos (by exact hd)).trans h
  have hxleaves : x = { sensed v .absent none s with mem := x.mem, causes := Causes.none } := by rw [hx]; rfl
  have hxword : x.word 0x062 = s.word 0x062 := by
    rw [hx]
    exact writeDockRecord_word _ (.inl (by decide))
  have hxcanonical : MemoryCanonical x := by
    rw [hx]
    exact Memory.wf_writeAll _ hm
  have hxp : x.guard.machine = .parked := by rw [hxleaves]; exact hp
  have hwake := wakesUp (reason := .contactLost) hxp
  have hran := event_ran hr hexpiry
  obtain ⟨htimer, -, -, hsnap⟩ := event_port hr hexpiry
  generalize wakeUp .contactLost x = b at *
  obtain ⟨-, -, hrecv, hloops, hplan, hdrive, -, -, -, hcontact, hguard, hudock, hnotice, -⟩ := hran.blocks
  have hawake : s.parked ≠ b.parked := by
    rw [State.parked, State.parked, hp, hwake.guard]
    nofun
  refine ⟨_, rfl, woken_of_wakesUp hwake ⟨by rw [hxleaves], by rw [hxleaves], by rw [hxleaves], hxword⟩
    ⟨hguard, hloops, hudock, by rw [hnotice], hran.word _ (by decide) (by decide) (by decide), htimer⟩ (hsnap hawake),
    ?_, ?_, ?_, ?_, ?_, ?_⟩
  · rw [hudock, hwake.dock, hxleaves]
  · rw [hran.word _ (by decide) (by decide) (by decide), hwake.senseWord hxcanonical, hxleaves]
    rfl
  · rw [hplan, hwake.leaves, hxleaves]
  · rw [hdrive, hwake.leaves, hxleaves]
  · rw [hcontact, hwake.leaves, hxleaves]
  · rw [hrecv, hwake.leaves, hxleaves]

/-- Settles O31, row by row of the sense, and the wakes of a PARKED machine. -/
theorem contactSense : Obligations.ContactSense := by
  unfold Obligations.ContactSense
  refine ⟨fun v s hr hrun hpending => ⟨sample_still hr, fun hd => ?_⟩, fun s => window_wakes⟩
  have hsettled := senseSettled_iff (sampled v { s with causes := Causes.none })
  have hsample {c : Sense} {t : Option Time} := sample_senses (v := v) (c := c) (t := t) hr hd
  refine ⟨fun hs hv => hsample ?_, fun hs hv => hsample ?_, fun hs hv => hsample ?_, fun hs hv hn => hsample ?_,
    fun hs hv hn => sample_publishes (c := .present) hr hd ?_ (.inl rfl), fun hs hv => hsample ?_, fun hs hv => hsample ?_,
    fun hs hv => hsample ?_, fun hs hv hn => hsample ?_, fun hs hv hn hp hm => sample_wakes hr hd hp hm ?_,
    fun hs hv hn hp hm => sample_publishes (c := .absent) hr hd ?_ (.inr hm)⟩
  · simp [moveSense, hs, hv, setSense]
  · simp [moveSense, hs, hv]
  · simp [moveSense, hs, hv, setSense, risingFell, hpending]
  · have hunsettled := Bool.eq_false_iff.2 (mt hsettled.1 hn)
    simp [moveSense, hs, hv, hunsettled]
  · have hlong := hsettled.2 hn
    simp [moveSense, hs, hv, hlong, setSense, contactArrived, writeDockRecord, State.putAll, hrun]
  · simp [moveSense, hs, hv, setSense]
  · simp [moveSense, hs, hv]
  · simp [moveSense, hs, hv, setSense]
  · have hunsettled := Bool.eq_false_iff.2 (mt hsettled.1 hn)
    simp [moveSense, hs, hv, hunsettled]
  · have hlong := hsettled.2 hn
    simp [moveSense, hs, hv, hlong, setSense, contactLost, writeDockRecord, State.putAll, hrun, State.parked, hp]
  · have hlong := hsettled.2 hn
    simp [moveSense, hs, hv, hlong, setSense, contactLost, writeDockRecord, State.putAll, hrun, State.parked, hp]

end Sys2Proof.Proofs
end

section
/-! SUPPORT. PARK and WAKE (R35, R182, R183, R196). -/

namespace Sys2Proof.Proofs

open Sys2Proof.Machine Sys2Proof.Safety

/-- The part of the port that a request's refreshes leave to its owner, the header's machine state, and the refresh that
PARKED starts (R196). -/
theorem requestEvent_port {s b : State} {code : Word} {r : Result} (hr : s.resetting = none)
    (hnot : s.restarts code = false) (hb : judgedRequest code s = answerWith code r (s.port.requestCount + 1) b) :
    (s.requestEvent code).port.snapTimer = b.port.snapTimer ∧ (s.requestEvent code).word 0x002 = b.word 0x002 ∧
      (s.requestEvent code).notice.dock = b.notice.dock ∧
      (s.parked ≠ b.parked → (s.requestEvent code).port.snapshot.writing.isSome = true) := by
  have hdock : (answerWith code r (s.port.requestCount + 1) b).notice.dock = b.notice.dock :=
    post_get_other (r := .answered (s.port.requestCount + 1)) (a := .dock) nofun _
  have hparked : (answerWith code r (s.port.requestCount + 1) b).parked = b.parked := by simp [State.parked]
  have hsnap : (answerWith code r (s.port.requestCount + 1) b).port.snapTimer = b.port.snapTimer := by
    rw [answerWith_eq_update]
  have hword : (answerWith code r (s.port.requestCount + 1) b).word 0x002 = b.word 0x002 :=
    answerWith_word _ _ _ _ (.inl (by decide))
  rw [requestEvent_judged hr hnot, hb]
  refine ⟨?_, ?_, ?_, fun h => startMirrors_parks ?_⟩
  · rw [← hsnap]; simp
  · exact (startMirrors_word _ _ _ (by decide) (by decide) (by decide)).trans hword
  · rw [← hdock]; simp
  · rw [hparked]; exact h

/-- A request outside START that its owner turns away. -/
theorem requestEvent_turnedAway {s : State} {code : Word} {r : Result} (hr : s.resetting = none)
    (hnot : s.restarts code = false)
    (hb : judgedRequest code s = answerWith code r (s.port.requestCount + 1) (arrived code s)) :
    s.requestEvent code = { s with
      port := { s.port with
        requestCount := s.port.requestCount + 1, args := s.argWords
        answer := ⟨code, r.code, r.reason, s.port.requestCount + 1⟩ }
      notice := (s.requestEvent code).notice
      mem := (s.requestEvent code).mem } :=
  (requestEvent_answered hr hnot hb { Unshown.refl s with } rfl).leaves

/-! ### The Loop Table's part of an entry to PARKED (R35) -/

/-- What the Loop Table's part of an entry to PARKED leaves of a machine with no segment active. -/
structure EntersParked (s u : State) : Prop where
  leaves : u = { s with
    loops := u.loops, blade := u.blade, guard := u.guard, dock := u.dock, notice := u.notice, mem := u.mem
    causes := u.causes }
  guard : u.guard = { s.guard with
    recovery := u.guard.recovery, escape := u.guard.escape, noSignal := u.guard.noSignal }
  recovery : s.guard.recovery = false → u.guard.recovery = false ∧ u.blade = s.blade
  machineWord : u.word 0x002 = s.word 0x002
  timer : u.loops.windowTimer = s.partTime + 2000
  held : ∀ n i, heldWhileParked n i = true → (u.loops.recs.get n).coils.get i = lostSub
  heard : ∀ n, heldWhileParked n .rear = false →
    (u.loops.recs.get n).coils.rear = { (s.loops.recs.get n).coils.rear with window := 0 }

theorem entersParked {s : State} (ha : s.plan.active = none) : EntersParked s (loopsEnterParked s) := by
  obtain ⟨x, hx⟩ : ∃ x, x = holdParked (restartWindow 2000 s) := ⟨_, rfl⟩
  obtain ⟨y, hy⟩ : ∃ y, y = recomputeLoops x := ⟨_, rfl⟩
  obtain ⟨z, hz⟩ : ∃ z, z = recomputeClass y := ⟨_, rfl⟩
  have henters : loopsEnterParked s = judgeNear z := by rw [hz, hy, hx, loopsEnterParked]
  have hxleaves : x = { s with loops := x.loops } := by rw [hx]; rfl
  have hxtimer : x.loops.windowTimer = s.partTime + 2000 := by rw [hx]; rfl
  have hxcoils (n : Loop) : (x.loops.recs.get n).coils = ⟨lostSub, lostSub, if heldWhileParked n .rear then lostSub else
      { (s.loops.recs.get n).coils.rear with window := 0 }⟩ := by
    have hrear := restartWindow_coils 2000 s n .rear
    rw [hx, holdParked, Four.get_mapIdx, ← show _ = ({ (s.loops.recs.get n).coils.rear with window := 0 } : SubRecord)
      from hrear]
    rfl
  have hall := recomputedAll x
  rw [← hy] at hall
  have hclassed := classed (s := y) (by rw [hall.publishes.leaves, hxleaves]; exact ha)
  rw [← hz] at hclassed
  have hnear := judgeNear_near z
  rw [← henters] at hnear
  generalize loopsEnterParked s = u at *
  have hyguard : y.guard = { s.guard with noSignal := y.guard.noSignal } := by rw [hall.guard, hxleaves]
  have huguard : u.guard = z.guard := by rw [hnear.leaves]
  have hzguard := hclassed.publishes.guard
  have huloops : u.loops.recs = y.loops.recs ∧ u.loops.windowTimer = s.partTime + 2000 := by
    have hytimer : y.loops.windowTimer = x.loops.windowTimer := by rw [hall.loops]
    rw [hnear.loops, hclassed.loops]
    exact ⟨rfl, hytimer.trans hxtimer⟩
  have hcoils (n : Loop) : (u.loops.recs.get n).coils = (x.loops.recs.get n).coils := by
    rw [huloops.1, hall.loops, statesGiven, Four.get_mapIdx]
  constructor
  case leaves => rw [hnear.leaves, hclassed.publishes.leaves, hall.publishes.leaves, hxleaves]
  case guard => rw [huguard, hzguard, hyguard]
  case recovery =>
    intro hno
    have hyno : y.guard.recovery = false := by rw [hyguard]; exact hno
    have hzblade := hclassed.blade (by rw [hyno]; simp)
    refine ⟨by rw [huguard, hclassed.guard, hyno]; rfl, ?_⟩
    rw [hnear.leaves]
    exact hzblade.trans (hall.blade.trans (by rw [hxleaves]))
  case machineWord =>
    rw [hnear.word _ (.inl (by decide)) (.inl (by decide)), hclassed.publishes.word _ (.inl (by decide)) (.inl (by decide)),
      hall.publishes.word _ (.inl (by decide)) (.inl (by decide)), hxleaves]
    rfl
  case timer => exact huloops.2
  case held =>
    intro n i hheld
    rw [hcoils, hxcoils]
    cases i with
    | left => rfl
    | right => rfl
    | rear => exact if_pos hheld
  case heard =>
    intro n hheard
    rw [hcoils, hxcoils, hheard]
    rfl

theorem heldWhileParked_iff (n : Loop) (i : Coil) : heldWhileParked n i = true ↔ i ≠ .rear ∨ n ≠ 0 ∧ n ≠ 3 := by
  cases i <;> simp [heldWhileParked]

/-! ### PARK (R182) -/

/-- What leaves SAFE or ARMED for PARKED, before the Loop Table and the Dock Unit do their part. -/
structure LeftForParked (s u : State) : Prop where
  machine : u.guard.machine = .parked
  machineWord : u.word 0x002 = 4
  idle : u.plan.state = .idle ∧ u.plan.active = none
  same : u.plan.applied = s.plan.applied ∧ u.loops = s.loops ∧ u.recv = s.recv ∧ u.gov = s.gov ∧ u.partTime = s.partTime
  disarmed : s.guard.machine = .armed → (∀ i, (u.drive.wheels.get i).target = 0) ∧ u.contact.stage = .quiet ∧
    u.contact.pinging = false ∧ u.guard.silence = none ∧ u.guard.recovery = false ∧ u.blade.duty = 0

theorem leftForParked_armed {s : State} (hb : BladeLaw s) : LeftForParked s (leaveArmed .disarm .parked s) := by
  have hidle : ∀ o, EndCause.disarm.continuation o = .toIdle := fun _ => rfl
  have hparked : MachineState.parked ≠ .armed := by decide
  obtain ⟨hstate, hactive, -⟩ := leaveArmed_plan (dest := .parked) hidle s
  obtain ⟨hstage, hpinging, -⟩ := leaveArmed_contact .disarm .parked s
  have hguard := leaveArmed_guard .disarm .parked s
  refine ⟨by rw [hguard], leaveArmed_machineWord hidle s (by decide), ⟨hstate, hactive⟩, by simp,
    fun _ => ⟨(leaveArmed_drive .disarm .parked s).1, hstage, hpinging, by rw [hguard], by rw [hguard], ?_⟩⟩
  rw [leaveArmed_blade hidle s hparked]
  by_cases hd : Driven s.blade.state
  · exact (setMachine_braking hparked hd).2.1
  · rw [setMachine_blade_of_not_driven hparked hd]
    exact Nat.eq_zero_of_not_pos fun hpos => hd (hb.1 hpos)

theorem leftForParked_safe {s : State} (hm : s.guard.machine = .safe) (hp : s.plan.state = .idle ∧ s.plan.active = none) :
    LeftForParked s (setMachine .parked s) := by
  have hplan := setMachine_plan (dest := .parked) (by decide) (s := s)
  refine ⟨by rw [setMachine_guard], setMachine_word s (by decide), hplan ▸ hp, ?_, by rw [hm]; nofun⟩
  rw [setMachine_leaves (by decide)]
  exact ⟨rfl, rfl, rfl, rfl, rfl⟩

/-- What a taken PARK leaves. -/
structure Parks (s u : State) : Prop where
  left : LeftForParked s { u with loops := s.loops }
  timers : u.loops.windowTimer = s.partTime + 2000 ∧ u.port.snapTimer = s.partTime + 1000
  record : u.dock.record.parkTime = some s.partTime ∧ u.dock.record.wakeReason = .none
  held : ∀ n i, heldWhileParked n i = true → (u.loops.recs.get n).coils.get i = lostSub
  heard : ∀ n, heldWhileParked n .rear = false →
    (u.loops.recs.get n).coils.rear = { (s.loops.recs.get n).coils.rear with window := 0 }

theorem parks_of_left {s y : State} (h : LeftForParked s y) : Parks s (parkNow y) := by
  have henters := entersParked h.idle.2
  obtain ⟨w, hw⟩ : ∃ w, w = loopsEnterParked y := ⟨_, rfl⟩
  rw [← hw] at henters
  obtain ⟨happlied, hloops, hrecv, hgov, hpart⟩ := h.same
  have hwpart : w.partTime = s.partTime := by rw [henters.leaves]; exact hpart
  have hwplan : w.plan = y.plan := by rw [henters.leaves]
  have hwguard := henters.guard
  obtain ⟨u, hu⟩ : ∃ u, u = parkNow y := ⟨_, rfl⟩
  have hpark : u = writeDockRecord { w with
      port := { w.port with snapTimer := w.partTime + 1000 }
      dock := { w.dock with record := { w.dock.record with parkTime := some w.partTime, wakeReason := .none } } } := by
    rw [hu, parkNow, ← hw]
  have huleaves : u = { w with port := u.port, dock := u.dock, mem := u.mem } := by rw [hpark]; rfl
  have huword : u.word 0x002 = w.word 0x002 := by
    rw [hpark]
    exact writeDockRecord_word _ (.inl (by decide))
  have hutimer : u.port.snapTimer = w.partTime + 1000 := by rw [hpark]; rfl
  have hurecord : u.dock.record.parkTime = some w.partTime ∧ u.dock.record.wakeReason = .none := by
    rw [hpark]
    exact ⟨rfl, rfl⟩
  have huloops : u.loops = w.loops := by rw [huleaves]
  rw [← hu]
  constructor
  case left =>
    refine ⟨?_, (huword.trans henters.machineWord).trans h.machineWord, ?_, ⟨?_, rfl, ?_, ?_, ?_⟩, fun hm => ?_⟩
    · rw [huleaves]; exact hwguard ▸ h.machine
    · rw [huleaves]; exact hwplan ▸ h.idle
    · rw [huleaves, ← happlied, ← hwplan]
    · rw [huleaves, henters.leaves]; exact hrecv
    · rw [huleaves, henters.leaves]; exact hgov
    · rw [huleaves]; exact hwpart
    · obtain ⟨htargets, hstage, hpinging, hsilence, hrecovery, hduty⟩ := h.disarmed hm
      obtain ⟨hrec, hblade⟩ := henters.recovery hrecovery
      have hwdrive : w.drive = y.drive ∧ w.contact = y.contact := by rw [henters.leaves]; exact ⟨rfl, rfl⟩
      have hwsilence : w.guard.silence = none := by rw [hwguard]; exact hsilence
      rw [huleaves]
      exact ⟨hwdrive.1 ▸ htargets, hwdrive.2 ▸ hstage, hwdrive.2 ▸ hpinging, hwsilence, hrec, hblade ▸ hduty⟩
  case timers =>
    rw [hutimer, huloops, henters.timer, hwpart, hpart]
    exact ⟨rfl, rfl⟩
  case record =>
    rw [hwpart] at hurecord
    exact hurecord
  case held => exact fun n i => huloops ▸ henters.held n i
  case heard => exact fun n => huloops ▸ hloops ▸ henters.heard n

/-- A PARK that is taken (R182). -/
theorem parks {s : State} (hm : s.guard.machine = .safe ∨ s.guard.machine = .armed) (hb : BladeLaw s) (hp : PlanLaw s) :
    Parks s (takePark s) := by
  rw [takePark]
  rcases hm with hm | hm
  · rw [if_neg (by simp [State.armed, hm])]
    exact parks_of_left (leftForParked_safe hm (hp (by rw [hm]; decide)))
  · rw [if_pos (show s.armed = true from decide_eq_true hm)]
    exact parks_of_left (leftForParked_armed hb)

/-- The rows of PARK's table, as the answer writes them (R182). -/
theorem judgePark_verdict (s : State) : (s.judgePark.code, s.judgePark.reason) =
    if s.guard.machine ≠ .safe ∧ s.guard.machine ≠ .armed then ((2, 0) : Word × Word)
    else if s.plan.state ≠ .idle then (3, 9)
    else if s.dock.sense ≠ .present ∧ s.dock.sense ≠ .falling then (3, 10)
    else if s.loops.recs.l0.coils.rear.state = .lost then (3, 11)
    else (1, 0) := by
  have hpresent : (!s.contactPresent) = true ↔ s.dock.sense ≠ .present ∧ s.dock.sense ≠ .falling := by
    rw [Bool.not_eq_true', Bool.eq_false_iff, Ne, contactPresent_iff, not_or]
  rw [State.judgePark, if_congr hpresent rfl rfl]
  (repeat' split) <;> rfl

theorem result_done_iff (r : Result) : r = .done ↔ (r.code, r.reason) = ((1, 0) : Word × Word) := by
  cases r <;> simp [Result.code, Result.reason]

/-- Settles O41, PARK by the rows of its table, WAKE by whether the machine is PARKED. -/
theorem parkAndWake : Obligations.ParkAndWake := by
  unfold Obligations.ParkAndWake
  intro s hr hm hc hblade hplan verdict turnedAway
  have hverdict : ((arrived 9 s).judgePark.code, (arrived 9 s).judgePark.reason) = verdict := judgePark_verdict _
  have hcode : (arrived 9 s).judgePark.code = verdict.1 := congrArg Prod.fst hverdict
  have hreason : (arrived 9 s).judgePark.reason = verdict.2 := congrArg Prod.snd hverdict
  have hpark : judgedRequest 9 s = askPark (s.port.requestCount + 1) (arrived 9 s) :=
    judgeRequest_owner (s := arrived 9 s) hm hc _ _
  have hwake : judgedRequest 10 s = askWake (s.port.requestCount + 1) (arrived 10 s) :=
    judgeRequest_owner (s := arrived 10 s) hm hc _ _
  have hnotPark : s.restarts 9 = false := restarts_false fun h => absurd h (by decide)
  have hnotWake : s.restarts 10 = false := restarts_false fun h => absurd h (by decide)
  refine ⟨_, _, rfl, rfl, ?answer, fun hno => ?away, fun hyes => ?taken, fun hno => ?still, fun hparked => ?wakes⟩
  case answer =>
    by_cases hd : (arrived 9 s).judgePark = .done
    · have hsettled := requestEvent_settled hr hnotPark (hpark.trans (if_pos hd))
      rw [hsettled.answer, ← hcode, ← hreason, hd]
    · have hsettled := requestEvent_settled hr hnotPark (hpark.trans (if_neg hd))
      rw [hsettled.answer, hcode, hreason]
  case away =>
    have hd : (arrived 9 s).judgePark ≠ .done := fun h => hno (hverdict ▸ (result_done_iff _).1 h)
    have haway := requestEvent_turnedAway hr hnotPark (hpark.trans (if_neg hd))
    generalize s.requestEvent 9 = u at haway
    have hanswer : u.port.answer = ⟨9, (arrived 9 s).judgePark.code, (arrived 9 s).judgePark.reason,
        s.port.requestCount + 1⟩ := by rw [haway]
    dsimp only [turnedAway]
    rw [hanswer]
    exact haway
  case taken =>
    have hd : (arrived 9 s).judgePark = .done := (result_done_iff _).2 (hverdict.trans hyes)
    have hwhere : s.guard.machine = .safe ∨ s.guard.machine = .armed := by
      by_contra hno
      have hrefused : verdict = (2, 0) := if_pos (not_or.1 hno)
      exact absurd (hrefused.symm.trans hyes) (by decide)
    have hb := hpark.trans (if_pos hd)
    have hsettled := requestEvent_settled hr hnotPark hb
    obtain ⟨hsnap, hword, -, -⟩ := requestEvent_port hr hnotPark hb
    have hparks := parks (s := arrived 9 s) hwhere hblade hplan
    generalize takePark (arrived 9 s) = b at *
    obtain ⟨-, hpart, hrecv, hloops, huplan, hdrive, -, hgov, hubl, hcontact, hguard, hdock⟩ := hsettled.blocks
    obtain ⟨hmachine, hmachineWord, ⟨hidle, -⟩, ⟨happlied, -, hbrecv, hbgov, hbpart⟩, hdisarmed⟩ := hparks.left
    obtain ⟨hwindow, htimer⟩ := hparks.timers
    obtain ⟨hparkTime, hreason⟩ := hparks.record
    refine ⟨hguard ▸ hmachine, hword.trans hmachineWord, huplan ▸ hidle, huplan ▸ happlied, hloops ▸ hwindow,
      hsnap.trans htimer, hdock ▸ hparkTime, hdock ▸ hreason, fun n i h => ?_, fun n h => ?_, fun harmed => ?_,
      hrecv.trans hbrecv, hgov.trans hbgov, hpart.trans hbpart⟩
    · exact hloops ▸ hparks.held n i ((heldWhileParked_iff n i).2 h)
    · refine hloops ▸ hparks.heard n ?_
      rcases h with rfl | rfl <;> rfl
    · rw [hdrive, hcontact, hguard, hubl]
      exact hdisarmed harmed
  case still => exact requestEvent_turnedAway hr hnotWake (hwake.trans (if_neg (by simpa [State.parked] using hno)))
  case wakes =>
    have hb : judgedRequest 10 s = answerWith 10 .done (s.port.requestCount + 1) (wakeUp .wake (arrived 10 s)) :=
      hwake.trans (if_pos (decide_eq_true hparked))
    have hsettled := requestEvent_settled hr hnotWake hb
    obtain ⟨hsnap, hword, hnotice, hrefresh⟩ := requestEvent_port hr hnotWake hb
    have hwakes := wakesUp (reason := .wake) (s := arrived 10 s) hparked
    generalize wakeUp .wake (arrived 10 s) = b at *
    obtain ⟨-, -, hrecv, hloops, huplan, hdrive, -, hgov, -, hcontact, hguard, hdock⟩ := hsettled.blocks
    have hawake : s.parked ≠ b.parked := by
      rw [State.parked, State.parked, hparked, hwakes.guard]
      nofun
    have hwoken : Woken s (s.requestEvent 10) .wake := woken_of_wakesUp hwakes
      ⟨rfl, rfl, rfl, arrived_word 10 s (by decide)⟩ ⟨hguard, hloops, hdock, hnotice, hword, hsnap⟩ (hrefresh hawake)
    obtain ⟨hsafe, hmachineWord, hwindow, htimer, hrefreshed, hrecord, hposted, hcleared⟩ := hwoken
    refine ⟨hsafe, hmachineWord, hsettled.answer, hwindow, htimer, by rw [hrecord], by rw [hrecord],
      ⟨hsafe, hmachineWord, hwindow, htimer, hrefreshed, hrecord, hposted, hcleared⟩, ?_, ?_, ?_, ?_, ?_, fun n i => ?_⟩
    · rw [huplan, hwakes.leaves]; rfl
    · rw [hdrive, hwakes.leaves]; rfl
    · rw [hcontact, hwakes.leaves]; rfl
    · rw [hrecv, hwakes.leaves]; rfl
    · rw [hgov, hwakes.leaves]; rfl
    · rw [hloops, hwakes.coils]
      rfl

end Sys2Proof.Proofs
end

section
/-! SUPPORT. The parity bit of a good frame: the report of a loop's frame, a foreign frame, and a frame of the self-check
(R13, R17, R22, R26..R28). -/

namespace Sys2Proof.Proofs

open Sys2Proof.Machine Sys2Proof.Safety

/-! ### The table's publications leave the contact list's cause alone (R145) -/

theorem post_causes (r : Report) (s : State) : (post r s).causes = s.causes := by rw [post_eq_update]

theorem judgeBlade_causes (s : State) : (judgeBlade s).causes = s.causes := by rw [judgeBlade_eq_update]

theorem recomputeLoop_unlisted (n : Loop) (s : State) :
    (recomputeLoop n s).causes.contactList = s.causes.contactList := by
  by_cases h : loopStateOf s n = (s.loops.recs.get n).state
  · rw [recomputeLoop_same h]
  · rw [recomputeLoop_changed h]
    split
    · rw [followNoSignal_eq _ _ _ h, post_causes]
      rfl
    · rw [id, post_causes]
      rfl

theorem recomputeClass_unlisted (s : State) : (recomputeClass s).causes.contactList = s.causes.contactList := by
  have hbladeOnClass (x : State) : (bladeOnClass x).causes = x.causes := by
    unfold bladeOnClass
    split
    · exact judgeBlade_causes x
    · rfl
  have hguardOnClass (x : State) : (guardOnClass x).causes = x.causes := by
    by_cases hx : x.guard.recovery = true ∧ x.loops.posClass = .insideAll
    · rw [guardOnClass_recovers hx.1 hx.2, judgeBlade_causes, post_causes]
    · rw [guardOnClass_plain hx]
  by_cases h : classBy s.loops.recs.l0.coils = s.loops.posClass
  · rw [recomputeClass_same h]
  · rw [recomputeClass_changed h, hguardOnClass, hbladeOnClass, post_causes]
    rfl

theorem publishNear_unlisted {s : State} (ha : s.plan.active = none) :
    (publishNear s).causes.contactList = s.causes.contactList := by
  have hnear : (judgeNear s).causes.contactList = s.causes.contactList := by
    unfold judgeNear
    dsimp only
    split <;> rfl
  have hplan : (judgeNear s).plan = s.plan := by rw [(judgeNear_near s).leaves]
  have hdock (x : State) : (dockOnNear x).causes = x.causes ∧ (dockOnNear x).plan = x.plan := by
    unfold dockOnNear
    split
    · split
      · exact ⟨post_causes _ _, by rw [enterNear, post_eq_update]; rfl⟩
      · exact ⟨rfl, rfl⟩
    · exact ⟨rfl, rfl⟩
  unfold publishNear
  dsimp only
  generalize judgeNear s = x at *
  obtain ⟨hcauses, hdockPlan⟩ := hdock x
  split
  · exact hnear
  · rw [testWatch_idle (by rw [hdockPlan, hplan, ha]), hcauses, hnear]

/-! ### A frame report (R26..R28, R31, R32, R34) -/

/-- The state with a report in its sub-record, before anything follows from it. -/
def reportTaken (f : FrameReport) (s : State) : State :=
  setCoils f.loop ((s.loops.recs.get f.loop).coils.set f.coil
    (((s.loops.recs.get f.loop).coils.get f.coil).report f s.partTime)) s

/-- The three claims of a sub-record that takes a report: what it measured, how long it agrees, and the side (R26, R27). -/
theorem report_eq (r : SubRecord) (f : FrameReport) (now : Time) : r.report f now =
    { state := if r.state = .lost then .weak else r.state
      side := if r.candidate = some f.polarity ∧ 2 ≤ r.agree then
        (if f.polarity = .positive then .inside else .outside) else r.side
      candidate := some f.polarity
      agree := if r.candidate = some f.polarity then (if r.agree < 3 then r.agree + 1 else 3) else 1
      amplitude := f.amplitude
      polarity := some f.polarity
      lastFrame := some now
      window := if r.window < 255 then r.window + 1 else 255 } := by
  rw [SubRecord.report, satAdd_one]
  unfold SubRecord.agreeWith
  by_cases hc : r.candidate = some f.polarity
  · have hside : f.polarity.side = if f.polarity = .positive then .inside else .outside := by
      cases f.polarity <;> rfl
    by_cases h2 : 2 ≤ r.agree
    · simp [hc, h2, hside, satAdd_one]
    · simp [hc, h2, satAdd_one]
  · simp [hc]

theorem reportTaken_coils (f : FrameReport) (s : State) (m : Loop) (j : Coil) :
    ((reportTaken f s).loops.recs.get m).coils.get j = if m = f.loop ∧ j = f.coil then
      ((s.loops.recs.get f.loop).coils.get f.coil).report f s.partTime else (s.loops.recs.get m).coils.get j := by
  unfold reportTaken
  by_cases hm : m = f.loop
  · rw [hm, setCoils_get]
    by_cases hj : j = f.coil
    · rw [hj, Three.get_set_same, if_pos ⟨rfl, rfl⟩]
    · rw [Three.get_set_other _ hj, if_neg fun h => hj h.2]
  · rw [if_neg fun h => hm h.1, setCoils, Four.get_set_other _ _ hm]

theorem reportTaken_state (f : FrameReport) (s : State) (m : Loop) :
    ((reportTaken f s).loops.recs.get m).state = (s.loops.recs.get m).state := by
  by_cases hm : m = f.loop
  · rw [hm, reportTaken, setCoils, Four.get_set_same]
  · rw [reportTaken, setCoils, Four.get_set_other _ _ hm]

/-- What follows from a report that is taken, with no segment active. -/
structure ReportFollows (f : FrameReport) (y u : State) : Prop where
  tabled : Tabled y u
  states : ∀ m, (u.loops.recs.get m).state = if m = f.loop then loopStateOf y m else (y.loops.recs.get m).state
  near : u.loops.stationNear = if f.loop = 3 ∧ f.coil ≠ .rear then
    nearBy y.plan.applied.nearAmp y.loops.stationNear y.loops.recs.l3.coils else y.loops.stationNear
  unlisted : u.causes.contactList = y.causes.contactList

theorem frameReport_follows {f : FrameReport} {s : State} (ha : s.plan.active = none) (hd : s.dropsReport f = false) :
    ReportFollows f (reportTaken f s) (frameReport f s) := by
  obtain ⟨y, hy⟩ : ∃ y, y = reportTaken f s := ⟨_, rfl⟩
  have hactive : y.plan.active = none := by rw [hy]; exact ha
  obtain ⟨w, hw⟩ : ∃ w, w = recomputeLoop f.loop y := ⟨_, rfl⟩
  have hstated := stated_recomputeLoop f.loop y
  have hwloops := (recomputed f.loop y).loops
  have hwlist := recomputeLoop_unlisted f.loop y
  rw [← hw] at hstated hwloops hwlist
  have hwactive : w.plan.active = none := by rw [hstated.publishes.leaves]; exact hactive
  obtain ⟨htabled, hloops⟩ := tabled_class hactive hstated
  have hclassList : (publishClass (testWatch w)).causes.contactList = y.causes.contactList := by
    rw [testWatch_idle hwactive, publishClass_idle hwactive, recomputeClass_unlisted, hwlist]
  have hreport : frameReport f s = if feedsNear f.loop f.coil then publishNear (publishClass (testWatch w))
      else publishClass (testWatch w) := by
    rw [frameReport, if_neg (by rw [hd]; decide), hw, hy]
    rfl
  rw [hreport, ← hy]
  generalize publishClass (testWatch w) = x at *
  have hxrecs : x.loops.recs = w.loops.recs := by rw [hloops]
  have hxnear : x.loops.stationNear = y.loops.stationNear := by rw [hloops, hwloops]
  have hstates (m : Loop) :
      (x.loops.recs.get m).state = if m = f.loop then loopStateOf y m else (y.loops.recs.get m).state := by
    rw [hxrecs, hwloops]
    by_cases hm : m = f.loop
    · rw [hm, if_pos rfl, Four.get_set_same]
    · rw [if_neg hm, Four.get_set_other _ _ hm]
  have hfeeds : feedsNear f.loop f.coil = true ↔ f.loop = 3 ∧ f.coil ≠ .rear := by simp [feedsNear]
  by_cases hf : f.loop = 3 ∧ f.coil ≠ .rear
  · obtain ⟨hnear, hnearLoops⟩ := htabled.near hactive
    have hxactive : x.plan.active = none := by rw [htabled.leaves]; exact hactive
    rw [if_pos (hfeeds.2 hf)]
    refine ⟨hnear, fun m => ?_, ?_, (publishNear_unlisted hxactive).trans hclassList⟩
    · rw [hnearLoops]
      exact hstates m
    · rw [hnearLoops, if_pos hf, hxnear]
  · rw [if_neg fun h => hf (hfeeds.1 h)]
    exact ⟨htabled, hstates, by rw [if_neg hf, hxnear], hclassList⟩

/-! ### The decoder at the parity bit (R13) -/

theorem decode_parity_odd {c : Channel} {f : Frame} {p : EndedPulse} (hd : c.decoder = .parity f) (h : Passes c f p)
    (hodd : (onesOf f.value + (if p.width ≤ 70 then 0 else 1)) % 2 = 1) :
    c.decode p = ({ c with decoder := .hunt, gap := .stopped }, some (f, f.value)) := by
  simp only [Channel.decode, hd, bitOf_passes h]
  exact if_pos hodd

/-- A channel whose frame is complete. -/
abbrev frameDone (c : Channel) (peak : Byte) : Channel :=
  { c with pulse := .none, held := false, noted := false, peak := peak, decoder := .hunt, gap := .stopped }

/-- A running part whose channel has completed a frame. -/
abbrev frameHeard (i : Coil) (t : Capture) (peak : Byte) (s : State) : State :=
  setChannel i (frameDone (s.recv.channels.get i) peak) { s with timebase := t, causes := Causes.none }

theorem loopOfCode_some {m : Four Nat} {code : Nat} {n : Loop} (h15 : code ≠ 15) (hn : m.get n = code)
    (hlow : ∀ k, k < n → m.get k ≠ code) : loopOfCode m code = some n := by
  have hbefore (k : Loop) (hk : k < n) : ¬ m.get k = code := hlow k hk
  unfold loopOfCode
  rw [if_neg h15]
  rcases n.cases_four with rfl | rfl | rfl | rfl
  · exact if_pos hn
  · exact (if_neg (hbefore 0 (by decide))).trans (if_pos hn)
  · exact (if_neg (hbefore 0 (by decide))).trans ((if_neg (hbefore 1 (by decide))).trans (if_pos hn))
  · exact (if_neg (hbefore 0 (by decide))).trans ((if_neg (hbefore 1 (by decide))).trans
      ((if_neg (hbefore 2 (by decide))).trans (if_pos hn)))

theorem loopOfCode_none {m : Four Nat} {code : Nat} (h : code = 15 ∨ ∀ n, m.get n ≠ code) : loopOfCode m code = none := by
  unfold loopOfCode
  rcases h with h | h
  · exact if_pos h
  · have hnot (n : Loop) : ¬ m.get n = code := h n
    split
    · rfl
    · exact (if_neg (hnot 0)).trans ((if_neg (hnot 1)).trans ((if_neg (hnot 2)).trans (if_neg (hnot 3))))

theorem setChannel_twice (i : Coil) (c d : Channel) (s : State) : setChannel i d (setChannel i c s) = setChannel i d s := by
  cases i <;> rfl

section
variable {i : Coil} {t : Capture} {peak : Byte} {s : State} {f : Frame} {leading : Capture}

/-- The parity bit of a good frame hands the frame on (R13, R17). -/
theorem trailingAt_completes (hopen : s.recv.blankEnd = none) (hh : Heard s t sourceTrailing)
    (hp : (s.recv.channels.get i).pulse = .opened leading (some (sampleOf f.start)))
    (hheld : (s.recv.channels.get i).held = false) (hd : (s.recv.channels.get i).decoder = .parity f)
    (hg1 : 30 ≤ since leading (s.recv.channels.get i).prevTrailing)
    (hg2 : since leading (s.recv.channels.get i).prevTrailing ≤ 70)
    (hw : 30 ≤ since t leading ∧ since t leading ≤ 70 ∨ 80 ≤ since t leading ∧ since t leading ≤ 120)
    (hodd : (onesOf f.value + (if since t leading ≤ 70 then 0 else 1)) % 2 = 1) :
    trailingAt i t peak { s with timebase := t, causes := Causes.none } = completeFrame i f f.value
      (frameHeard i t peak s) := by
  have hearly : ∀ e, s.recv.blankEnd = some e → due t e = false := by simp [hopen]
  have hwide : 25 ≤ since t leading := by omega
  have hedge := trailingEdge_decode (peak := peak) hp hheld hwide (sampleOf_ne_void f.start)
  rw [Option.bind_some, sampleOf_polarity, ← show s.recv.blankEnd.isSome = false by simp [hopen],
    decode_parity_odd (c := endedAs (s.recv.channels.get i) .none peak) (f := f) hd ⟨hg1, hg2, rfl, hw⟩ hodd] at hedge
  refine (trailingAt_heard (s := { s with timebase := t, causes := Causes.none })
    ((hearsTrailing_iff s t).2 hh) hearly).trans ?_
  exact congrArg (takeDecoded i · _) hedge

/-- A channel whose frame was foreign (R17). -/
abbrev foreignDone (c : Channel) (peak : Byte) (code : Nat) : Channel :=
  { frameDone c peak with foreign := if c.foreign < 65535 then c.foreign + 1 else 65535, lastForeign := some code }

theorem foreignFrame_done (code : Nat) (x : State) : foreignFrame i code (setChannel i (frameDone (s.recv.channels.get i) peak) x) =
    setChannel i (foreignDone (s.recv.channels.get i) peak code) x := by
  rw [foreignFrame, setChannel_get, setChannel_twice, Channel.countForeign, satAdd_one]

/-- A code of no loop, and in a self-check any code but 15, is foreign (R17, R22). -/
theorem completeFrame_foreign {x : State} (h : if x.recv.check.result = .running then f.value ≠ 15
    else f.value = 15 ∨ ∀ m, x.plan.applied.loopMap.get m ≠ f.value) :
    completeFrame i f f.value x = foreignFrame i f.value x := by
  unfold completeFrame
  by_cases hc : x.recv.check.result = .running
  · rw [if_pos hc] at h
    rw [if_pos (show x.checking = true from decide_eq_true hc)]
    exact if_neg h
  · rw [if_neg hc] at h
    rw [if_neg (show ¬ x.checking = true from fun hx => hc (of_decide_eq_true hx)), loopOfCode_none h]

theorem completeFrame_reports {x : State} {n : Loop} (hc : x.recv.check.result ≠ .running) (h15 : f.value ≠ 15)
    (hn : x.plan.applied.loopMap.get n = f.value) (hlow : ∀ m, m < n → x.plan.applied.loopMap.get m ≠ f.value) :
    completeFrame i f f.value x = frameReport ⟨i, n, f.start, f.amplitude⟩ x := by
  unfold completeFrame
  rw [if_neg (show ¬ x.checking = true from fun hx => hc (of_decide_eq_true hx)), loopOfCode_some h15 hn hlow]

theorem completeFrame_counts {x : State} (hc : x.recv.check.result = .running) (h15 : f.value = 15) :
    completeFrame i f f.value x = { x with recv := { x.recv with check := { x.recv.check with
      coils := x.recv.check.coils.set i ((x.recv.check.coils.get i).decoded15 f.start x.recv.check.sent) } } } := by
  unfold completeFrame
  rw [if_pos (show x.checking = true from decide_eq_true hc)]
  exact if_pos h15

end

/-- The table drops a report with its check flag set, and in PARKED for a sub-record held LOST (R26). -/
theorem dropsReport_iff (s : State) (f : FrameReport) : s.dropsReport f = true ↔
    s.loops.checkFlag = true ∨ s.guard.machine = .parked ∧ ¬ (f.coil = .rear ∧ (f.loop = 0 ∨ f.loop = 3)) := by
  rw [State.dropsReport, Bool.or_eq_true, Bool.and_eq_true, heldWhileParked_iff, State.parked, decide_eq_true_iff]
  tauto

/-- A report that the contact list and PARKED do not show, in the event of the trailing edge. -/
theorem exec_reported {i : Coil} {t : Capture} {peak : Byte} {s v : State} (hr : s.resetting = none)
    (hb : trailingAt i t peak { s with timebase := t, causes := Causes.none } = v)
    (hl : v.contact.list = s.contact.list) (hp : v.parked = s.parked) (hn : v.causes.contactList = false) :
    ∃ u, exec (.comparatorTrailingEdge i t peak) s = .next u ∧
      u = { v with port := u.port, mem := u.mem, causes := s.causes } ∧ ∀ a, a ≠ 0x180 → u.word a = v.word a := by
  have hevent : s.event (fun a => trailingAt i t peak (a.atTime t)) =
      { startMirrors false { s with causes := Causes.none } v with causes := s.causes } := by
    rw [event_running hr, State.noting, ← hb]
    rfl
  have hleaves := startMirrors_eq_update false { s with causes := Causes.none } v
  have hword {a : Nat} (ha : a ≠ 0x180) :=
    startMirrors_table (w := false) (a := { s with causes := Causes.none }) (b := v) hl hp hn ha
  generalize startMirrors false { s with causes := Causes.none } v = w at *
  refine ⟨_, congrArg Host.Outcome.next hevent, ?_, fun a ha => hword ha⟩
  rw [hleaves]

/-- Settles O10, by what the code of the frame means. -/
theorem frameReported : Obligations.FrameReported := by
  unfold Obligations.FrameReported
  intro i t peak s f leading hr hopen hh
  dsimp only
  intro hpulse hheld hd hg1 hg2 hw hodd
  have hp : (s.recv.channels.get i).pulse = .opened leading (some (sampleOf f.start)) := by
    cases hs : f.start <;> rw [hs] at hpulse <;> exact hpulse
  have hcompletes := trailingAt_completes (peak := peak) hopen hh hp hheld hd hg1 hg2 hw hodd
  refine ⟨fun hc n h15 hn hlow => ?report, fun hforeign => ?foreign, fun hc h15 => ?counted⟩
  case report =>
    have hreports := hcompletes.trans (completeFrame_reports hc h15 hn hlow)
    have hdrops := dropsReport_iff (frameHeard i t peak s) ⟨i, n, f.start, f.amplitude⟩
    refine ⟨fun hdrop => ?dropped, fun hdrop ha => ?taken⟩
    case dropped => exact congrArg Host.Outcome.next (event_channel (trailingAt i t peak) hr
        (hreports.trans (if_pos (hdrops.2 hdrop))) rfl)
    case taken =>
      have hfollows := frameReport_follows (f := ⟨i, n, f.start, f.amplitude⟩) (s := frameHeard i t peak s) ha
        (Bool.eq_false_iff.2 (mt hdrops.1 hdrop))
      have hcoils := reportTaken_coils ⟨i, n, f.start, f.amplitude⟩ (frameHeard i t peak s)
      have hstate := reportTaken_state ⟨i, n, f.start, f.amplitude⟩ (frameHeard i t peak s)
      obtain ⟨y, hy⟩ : ∃ y, y = reportTaken ⟨i, n, f.start, f.amplitude⟩ (frameHeard i t peak s) := ⟨_, rfl⟩
      have hyleaves : y = { s with
          timebase := t
          recv := { s.recv with channels := s.recv.channels.set i (frameDone (s.recv.channels.get i) peak) }
          loops := { s.loops with recs := y.loops.recs }
          causes := Causes.none } := by rw [hy]; rfl
      rw [← hy] at hfollows hcoils hstate
      generalize frameReport ⟨i, n, f.start, f.amplitude⟩ (frameHeard i t peak s) = v at *
      obtain ⟨htabled, hstates, hnear, hunlisted⟩ := hfollows
      have hvlist : v.contact.list = s.contact.list := by rw [htabled.leaves, hyleaves]
      have hvmachine : v.guard.machine = s.guard.machine := by rw [htabled.guard, hyleaves]
      have hvcauses : v.causes.contactList = false := by rw [hunlisted, hyleaves]; rfl
      obtain ⟨u, hu, huleaves, hword⟩ := exec_reported hr hreports hvlist (by rw [State.parked, State.parked, hvmachine])
        hvcauses
      have huloops : u.loops = v.loops := by rw [huleaves]
      have huguard : u.guard = v.guard := by rw [huleaves]
      have hublade : u.blade = v.blade := by rw [huleaves]
      have hcoil (m : Loop) (j : Coil) : (u.loops.recs.get m).coils.get j = if m = n ∧ j = i then
          ((s.loops.recs.get n).coils.get i).report ⟨i, n, f.start, f.amplitude⟩ s.partTime
          else (s.loops.recs.get m).coils.get j := by
        rw [huloops, htabled.coils m]
        exact hcoils m j
      have hustate (m : Loop) : (u.loops.recs.get m).state =
          if m = n then loopStateBy (u.loops.recs.get n).coils else (s.loops.recs.get m).state := by
        have hmapped : ¬ y.plan.applied.loopMap.get n = 15 := by
          rw [hyleaves]
          exact fun h => h15 (hn.symm.trans h)
        rw [huloops, hstates m, htabled.coils n]
        by_cases hm : m = n
        · rw [if_pos hm, if_pos hm, hm, loopStateOf_eq, if_neg hmapped]
        · rw [if_neg hm, if_neg hm]
          exact hstate m
      have hclass : u.loops.posClass = classBy u.loops.recs.l0.coils := by
        rw [huloops, ← show (v.loops.recs.get 0).coils = v.loops.recs.l0.coils from rfl, htabled.coils 0, htabled.loops]
        rfl
      have hy0 : y.loops.recs.l0.state = s.loops.recs.l0.state := hstate 0
      have hy1 : y.loops.recs.l1.state = s.loops.recs.l1.state := hstate 1
      have hy2 : y.loops.recs.l2.state = s.loops.recs.l2.state := hstate 2
      have hy3 : y.loops.recs.l3.state = s.loops.recs.l3.state := hstate 3
      have hyclass : y.loops.posClass = s.loops.posClass := by rw [hyleaves]
      have hyguard : y.guard = s.guard := by rw [hyleaves]
      have hyblade : y.blade = s.blade := by rw [hyleaves]
      have hypart : y.partTime = s.partTime := by rw [hyleaves]
      have hynotice : y.notice = s.notice := by rw [hyleaves]
      have hymem : y.mem = s.mem := by rw [hyleaves]
      have hyheld : y.noticesHeld = s.noticesHeld := by rw [hyleaves]; rfl
      refine ⟨u, hu, ?leaves, ?coil, fun m j hother => ?others, hustate, hclass, ?near, ?guard, ?hears, ?judged, ?blade,
        fun hopen => ?posts, fun a ha h180 hblade => ?word⟩
      case leaves =>
        rw [huleaves, htabled.leaves, hyleaves]
      case coil =>
        rw [hcoil, if_pos ⟨rfl, rfl⟩, report_eq]
      case others =>
        rw [hcoil, if_neg fun h => hother.elim (fun hm => hm h.1) (fun hj => hj h.2)]
      case near =>
        have hcoils3 : u.loops.recs.l3.coils = y.loops.recs.l3.coils := by rw [huloops]; exact htabled.coils 3
        rw [hcoils3, huloops, hnear, hyleaves]
      case guard => rw [huguard, htabled.guard, hyguard]
      case hears =>
        have hheard := htabled.hears
        unfold GuardHears RecoveryEnds ClassMoved Silent at hheard ⊢
        rw [hy0, hyclass, hyguard, hypart] at hheard
        rw [huguard, huloops]
        exact hheard
      case judged =>
        intro hmoved hrecovery
        rw [ClassMoved, huloops, ← hyclass] at hmoved
        have hjudged : Judged y u := judged_congr (htabled.judged hmoved (hyguard ▸ hrecovery)) hublade (by rw [huleaves])
          (effectiveDirective_congr (by rw [huleaves]) (by rw [huguard]) (by rw [huguard]) (by rw [huloops]))
        unfold Judged SpinsUp at hjudged ⊢
        rwa [hyblade, hypart] at hjudged
      case blade =>
        intro hno
        rw [ClassMoved, huloops, ← hyclass, ← hyguard] at hno
        rw [hublade, htabled.blade hno, hyblade]
      case posts =>
        have htold := htabled.loop (hyheld.trans hopen)
        have hbetween : reportsBetween y v = reportsBetween s u := by
          rw [reportsBetween, reportsBetween, hy0, hy1, hy2, hy3, hyclass, hyguard, huloops]
        have henabled : y.noticeEnable = s.noticeEnable := by rw [State.noticeEnable, State.word, hymem]; rfl
        refine loopPosts_of_told ?_
        rw [show u.notice = v.notice by rw [huleaves], htold, hbetween, hynotice, henabled]
      case word =>
        rw [hword a h180, htabled.word a (.inr ha) (hblade.imp_right (by omega)), State.word, hymem]
        rfl
  case foreign =>
    have hat := hcompletes.trans ((completeFrame_foreign (x := frameHeard i t peak s) hforeign).trans (foreignFrame_done f.value _))
    have hreceived := event_channel_received (trailingAt i t peak) hr hat
    exact ⟨_, rfl, hreceived.leaves, hreceived.word⟩
  case counted =>
    have hat := hcompletes.trans (completeFrame_counts hc h15)
    exact congrArg Host.Outcome.next (event_timed (trailingAt i t peak) hr hat { Unshown.refl s with channels := channelView_set rfl } rfl)

end Sys2Proof.Proofs
end

section
/-! SUPPORT. ARM: its table of refusals and its effect (R64, R138, R158, R159, R164, R165). -/

namespace Sys2Proof.Proofs

open Sys2Proof.Machine Sys2Proof.Safety

/-! ### Staged settings applied with the blade at rest (R64) -/

/-- A blade that is not driven, under a standing directive that is OFF. -/
structure AtRestOff (s : State) : Prop where
  off : s.plan.standing = .off
  rest : ¬ Driven s.blade.state

/-- What the Loop Table's part of an application leaves of a blade at rest. -/
structure LeavesRest (s u : State) : Prop where
  plan : u.plan = s.plan
  state : u.blade.state = s.blade.state

theorem LeavesRest.refl (s : State) : LeavesRest s s := ⟨rfl, rfl⟩

theorem LeavesRest.after {s t u : State} (k : LeavesRest t u) (h : LeavesRest s t) : LeavesRest s u :=
  ⟨k.plan.trans h.plan, k.state.trans h.state⟩

theorem LeavesRest.rests {s u : State} (h : LeavesRest s u) (hs : AtRestOff s) : AtRestOff u :=
  ⟨by rw [h.plan, hs.off], by rw [h.state]; exact hs.rest⟩

theorem leavesRest_post (r : Report) (s : State) : LeavesRest s (post r s) := by
  rw [post_eq_update]
  exact ⟨rfl, rfl⟩

theorem leavesRest_judgeBlade {s : State} (h : AtRestOff s) : LeavesRest s (judgeBlade s) := by
  rw [judgeBlade_idle (.inl h.off) h.rest]
  exact ⟨rfl, rfl⟩

theorem leavesRest_recomputeClass {s : State} (h : AtRestOff s) : LeavesRest s (recomputeClass s) := by
  by_cases hc : classBy s.loops.recs.l0.coils = s.loops.posClass
  · rw [recomputeClass_same hc]
    exact .refl s
  · rw [recomputeClass_changed hc]
    obtain ⟨x, hx⟩ : ∃ x, x = post (.positionClass (classBy s.loops.recs.l0.coils)) (noteLoops
      { s with loops := { s.loops with posClass := classBy s.loops.recs.l0.coils } }) := ⟨_, rfl⟩
    have hposted : LeavesRest s x := by
      rw [hx]
      exact (leavesRest_post _ _).after ⟨rfl, rfl⟩
    have hbladed : LeavesRest s (bladeOnClass x) := by
      unfold bladeOnClass
      split
      · exact (leavesRest_judgeBlade (hposted.rests h)).after hposted
      · exact hposted
    rw [← hx]
    generalize bladeOnClass x = y at hbladed
    by_cases hy : y.guard.recovery = true ∧ y.loops.posClass = .insideAll
    · have hended := (leavesRest_post .recoveryEnd
        { y with guard := { y.guard with escape := 0, recovery := false } }).after ⟨hbladed.plan, hbladed.state⟩
      rw [guardOnClass_recovers hy.1 hy.2]
      exact (leavesRest_judgeBlade (hended.rests h)).after hended
    · rw [guardOnClass_plain hy]
      exact ⟨hbladed.plan, hbladed.state⟩

theorem leavesRest_loopsOnApply (before : Four Nat) {s : State} (h : AtRestOff s) :
    LeavesRest s (loopsOnApply before s) := by
  have hall := recomputedAll (clearChanged before s)
  have hloops : LeavesRest s (recomputeLoops (clearChanged before s)) := by
    refine ⟨?_, congrArg Blade.state hall.blade⟩
    rw [hall.publishes.leaves]
    rfl
  have hnear (x : State) : LeavesRest x (judgeNear x) := by
    rw [(judgeNear_near x).leaves]
    exact ⟨rfl, rfl⟩
  unfold loopsOnApply
  dsimp only
  split
  · exact (hnear _).after hloops
  · exact (hnear _).after ((leavesRest_recomputeClass (hloops.rests h)).after hloops)

/-- What an application of staged settings, if any, leaves of a machine whose blade is at rest. -/
structure AppliesAtRest (s u : State) : Prop where
  same : s.stageGen = s.plan.appliedGen → u = s
  state : u.blade.state = s.blade.state
  gen : u.plan.appliedGen = s.stageGen
  applied : s.stageGen ≠ s.plan.appliedGen → u.plan.applied = Settings.ofList (clampSettings s.stagedValues)

theorem appliesAtRest {s : State} (h : AtRestOff s) : AppliesAtRest s (applyIfStaged s) := by
  by_cases hgen : s.stageGen = s.plan.appliedGen
  · have hsame : applyIfStaged s = s := if_pos hgen
    rw [hsame]
    exact ⟨fun _ => rfl, rfl, hgen.symm, fun hne => absurd hgen hne⟩
  · have hstaged : applyIfStaged s = applySettings s := if_neg hgen
    obtain ⟨x, hx⟩ : ∃ x : State, x = { s with
      plan := { s.plan with applied := Settings.ofList (clampSettings s.stagedValues), appliedGen := s.stageGen }
      mem := s.mem.writeAll (cellsFrom addrApplied ((clampSettings s.stagedValues).map wordN) ++
        [(addrAppliedGenMirror, s.stageGen), (addrAppliedGen, s.stageGen)]) } := ⟨_, rfl⟩
    have hxrest : AtRestOff x := by
      rw [hx]
      exact ⟨h.off, h.rest⟩
    have hleaves := (leavesRest_post (.settingsApplied (clampedCount s.stagedValues (clampSettings s.stagedValues)))
      _).after (leavesRest_loopsOnApply s.plan.applied.loopMap hxrest)
    have happly : applySettings s = post (.settingsApplied (clampedCount s.stagedValues (clampSettings s.stagedValues)))
        (loopsOnApply s.plan.applied.loopMap x) := by rw [hx, applySettings]
    rw [hstaged, happly]
    refine ⟨fun hsame => absurd hsame hgen, hleaves.state.trans (by rw [hx]), ?_, fun _ => ?_⟩
    · rw [hleaves.plan, hx]
    · rw [hleaves.plan, hx]

/-! ### The table of refusals (R158) -/

/-- The answer of the first row that applies. -/
theorem judgeArm_verdict (s : State) : (s.judgeArm.code, s.judgeArm.reason) =
    if s.port.args.a0 ≠ 0 ∧ s.port.args.a0 ≠ 1 then ((4, 0) : Word × Word)
    else if s.guard.machine ≠ .safe then (2, 0)
    else if s.pins.lift.left = true ∨ s.pins.lift.right = true then (3, 2)
    else if s.plan.applied.slopeTrip ≤ s.gov.slope then (3, 3)
    else if s.pins.stopKey = true then (3, 4)
    else if s.loops.recs.l0.state = .lost ∨ s.loops.recs.l0.state = .unused then (3, 5)
    else if s.blade.state ≠ .off ∧ s.blade.state ≠ .lockedOut then (3, 6)
    else if s.port.args.a0 = 0 ∧ s.loops.posClass = .outsideAll then (3, 7)
    else (1, 0) := by
  have hlift : s.standsLift = true ↔ s.pins.lift.left = true ∨ s.pins.lift.right = true := Bool.or_eq_true _ _ ▸ Iff.rfl
  have htilt : s.standsTilt = true ↔ s.plan.applied.slopeTrip ≤ s.gov.slope := decide_eq_true_iff
  have hsignal : s.standsNoSignal = true ↔ s.loops.recs.l0.state = .lost ∨ s.loops.recs.l0.state = .unused := silent_iff _
  rw [State.judgeArm, if_congr hlift rfl rfl, if_congr htilt rfl rfl, if_congr hsignal rfl rfl]
  rw [State.standsStopKey]
  (repeat' split) <;> rfl

/-! ### A taken ARM (R138, R159) -/

theorem judgePinging_leaves (s : State) : judgePinging s = { s with contact := (judgePinging s).contact } := by
  unfold judgePinging
  dsimp only
  (repeat' split) <;> rfl

theorem judgePinging_still {s : State} (hm : s.drive.motion ≠ .forward) (hp : s.contact.pinging = false) :
    judgePinging s = s := by
  simp [judgePinging, hm, hp]

theorem judgePinging_forward {s : State} (ha : s.guard.machine = .armed) (hm : s.drive.motion = .forward)
    (hp : s.contact.pinging = false) : judgePinging s = pingOn s := by
  simp [judgePinging, State.armed, ha, hm, hp]

theorem pingOn_triggers (s : State) : ((pingOn s).contact.sonar.get s.contact.nextSensor).trigger = true := by
  simp [pingOn, triggerNext]

/-- ARMED with nothing driven. -/
def armedState (s : State) : State := { armGuard s with
  guard := { (armGuard s).guard with machine := .armed }
  mem := s.mem.write addrMachineState 2
  blade := { s.blade with effective := .off } }

theorem takeArm_eq {s x : State} (hx : x = applyIfStaged s) (h : AtRestOff x) : takeArm s = judgePinging (armedState x) := by
  have hset : setMachine .armed (armGuard x) = armedState x := judgeBlade_idle (.inl h.off) h.rest
  rw [takeArm, ← hx, hset]

/-- The counts and the arguments of an answered request. -/
theorem requestEvent_counted {s b : State} {code : Word} {r : Result} (hr : s.resetting = none)
    (hnot : s.restarts code = false) (hb : judgedRequest code s = answerWith code r (s.port.requestCount + 1) b) :
    (s.requestEvent code).port.requestCount = b.port.requestCount ∧ (s.requestEvent code).port.args = b.port.args := by
  rw [requestEvent_judged hr hnot, hb, answerWith_eq_update]
  simp

theorem judgeArm_rests {s : State} (h : s.judgeArm = .done) :
    s.guard.machine = .safe ∧ ¬ Driven s.blade.state := by
  have hverdict := judgeArm_verdict s
  rw [(result_done_iff _).1 h] at hverdict
  constructor
  · by_contra hsafe
    rw [if_pos hsafe] at hverdict
    split at hverdict <;> exact absurd hverdict (by decide)
  · intro hd
    have hbusy : s.blade.state ≠ .off ∧ s.blade.state ≠ .lockedOut := by
      rcases hd with hd | hd <;> rw [hd] <;> decide
    rw [if_pos hbusy] at hverdict
    (repeat' split at hverdict) <;> exact absurd hverdict (by decide)

theorem valuesFrom_congr {s t : State} {n : Nat} :
    ∀ {a : Nat}, (∀ b, a ≤ b → t.word b = s.word b) → t.valuesFrom a n = s.valuesFrom a n := by
  induction n with
  | zero => exact fun _ => rfl
  | succ n ih =>
    intro a h
    rw [State.valuesFrom, State.valuesFrom, h a le_rfl, ih fun b hb => h b (by omega)]

/-- What ARM hands to its answer. -/
def armAsked (s : State) : State := if s.judgeArm = .done then takeArm s else s

/-- Settles O34, by the rows of the table, and by whether settings are newly staged. -/
theorem armRefusalsAndEffect : Obligations.ArmRefusalsAndEffect := by
  unfold Obligations.ArmRefusalsAndEffect
  intro s hr hm hc choice verdict
  have hverdict : ((arrived 1 s).judgeArm.code, (arrived 1 s).judgeArm.reason) = verdict := judgeArm_verdict _
  have hcode : (arrived 1 s).judgeArm.code = verdict.1 := congrArg Prod.fst hverdict
  have hreason : (arrived 1 s).judgeArm.reason = verdict.2 := congrArg Prod.snd hverdict
  have hask : judgedRequest 1 s = askArm (s.port.requestCount + 1) (arrived 1 s) :=
    judgeRequest_owner (s := arrived 1 s) hm hc _ _
  have hnot : s.restarts 1 = false := restarts_false fun h => absurd h (by decide)
  have hasked : judgedRequest 1 s = answerWith 1 (arrived 1 s).judgeArm (s.port.requestCount + 1) (armAsked (arrived 1 s)) := by
    rw [hask, askArm, armAsked]
    split
    case isTrue hd => rw [hd]
    case isFalse => rfl
  have hport : (armAsked (arrived 1 s)).port = (arrived 1 s).port := by
    unfold armAsked
    split <;> simp
  have hsettled := requestEvent_settled hr hnot hasked
  obtain ⟨hcount, hargs⟩ := requestEvent_counted hr hnot hasked
  rw [hport] at hcount hargs
  refine ⟨_, rfl, hcount, hargs, ?answer, fun hno => ?refused, fun hyes hoff => ?taken⟩
  case answer => rw [hsettled.answer, hcode, hreason]
  case refused =>
    have hd : (arrived 1 s).judgeArm ≠ .done := fun h => hno (hverdict ▸ (result_done_iff _).1 h)
    have hb : judgedRequest 1 s = answerWith 1 (arrived 1 s).judgeArm (s.port.requestCount + 1) (arrived 1 s) :=
      hask.trans (if_neg hd)
    have hanswered : Answered s (arrived 1 s) (s.requestEvent 1) 1 (arrived 1 s).judgeArm :=
      requestEvent_answered hr hnot hb { Unshown.refl s with } rfl
    have hleaves := requestEvent_turnedAway hr hnot hb
    have hword {a : Nat} (ha : 0x040 ≤ a) (hne : a ≠ 0x041) := (hanswered.word (.inr ha)).trans (arrived_word 1 s hne)
    have hanswer := hsettled.answer
    generalize s.requestEvent 1 = u at *
    rw [hanswer]
    exact ⟨hleaves, fun a => hword⟩
  case taken =>
    have hd : (arrived 1 s).judgeArm = .done := (result_done_iff _).2 (hverdict.trans hyes)
    obtain ⟨hsafe, hrest⟩ := judgeArm_rests hd
    have hatRest : AtRestOff (arrived 1 s) := ⟨hoff, hrest⟩
    obtain ⟨x, hx⟩ : ∃ x, x = applyIfStaged (arrived 1 s) := ⟨_, rfl⟩
    have happlies := appliesAtRest hatRest
    have hsteady := steady_applyIfStaged (arrived 1 s)
    have hxframe := applyIfStaged_frame (arrived 1 s)
    rw [← hx] at happlies hsteady hxframe
    obtain ⟨-, hpart, -, -, hrecv, hdrive, -, -, hcontact, -, hxport, -⟩ := hxframe
    have hstanding : x.plan.standing = .off := by rw [hx]; simp [hoff]
    have htaken : armAsked (arrived 1 s) = judgePinging (armedState x) :=
      (if_pos hd).trans (takeArm_eq hx ⟨hstanding, by rw [happlies.state]; exact hrest⟩)
    obtain ⟨htimebase, hupart, hurecv, hloops, hplan, hudrive, htrack, hgov, hblade, hucontact, hguard, hdock⟩ :=
      hsettled.blocks
    obtain ⟨-, hword, -, -⟩ := requestEvent_port hr hnot hasked
    have hleft := judgePinging_leaves (armedState x)
    have hguardOf : (armAsked (arrived 1 s)).guard = (armedState x).guard := by rw [htaken, hleft]
    have hsilenceWord : x.word 0x063 = s.word 0x063 :=
      (hsteady.words _ (by decide) (by decide)).trans (arrived_word 1 s (by decide))
    have hhostSilence : x.hostSilence = max 100 (min 5000 (s.word 0x063).toNat) := by
      rw [← hsilenceWord]
      exact clampN_eq (by decide) _
    have hgen : (arrived 1 s).stageGen = s.word 0x0BF := arrived_word 1 s (by decide)
    have hstaged : (arrived 1 s).stagedValues = s.stagedValues :=
      valuesFrom_congr fun b hb => arrived_word 1 s (by simp only [addrStaged] at hb; omega)
    have hmachineWord : (armedState x).word 0x002 = 2 := read_write_of_wf_or_ne_zero _ (.inr (by decide))
    refine ⟨?_, ?_, ?_, ?_, ?_, ?_, ?_, ?_, fun hne => ?_, fun heq => ?unstaged⟩
    · rw [hguard, hguardOf]; rfl
    · rw [hguard, hguardOf]; rfl
    · rw [hword, htaken, hleft]; exact hmachineWord
    · rw [hguard, hguardOf, ← hhostSilence, ← show x.partTime = s.partTime from hpart]; rfl
    · rw [hplan, htaken, hleft]; exact happlies.gen.trans hgen
    · rw [hudrive, htaken, hleft]; exact hdrive
    · rw [hurecv, htaken, hleft]; exact hrecv
    · rw [hblade, htaken, hleft]; exact happlies.state
    · rw [hplan, htaken, hleft, ← hstaged]
      exact happlies.applied (by rw [hgen]; exact hne)
    case unstaged =>
      have hxsame : x = arrived 1 s := happlies.same (hgen.trans heq)
      rw [hxsame] at htaken hleft
      have hlist : (judgePinging (armedState (arrived 1 s))).contact.list = s.contact.list := by simp [armedState, armGuard]
      have hstill := judgePinging_still (s := armedState (arrived 1 s))
      have hforward := judgePinging_forward (s := armedState (arrived 1 s)) rfl
      obtain ⟨b, hb⟩ : ∃ b, b = judgePinging (armedState (arrived 1 s)) := ⟨_, rfl⟩
      rw [← hb] at htaken hleft hlist hstill hforward
      rw [htaken, hd] at hasked
      have hparked : b.parked = s.parked := by
        rw [hleft, State.parked, State.parked, show s.guard.machine = .safe from hsafe]
        rfl
      have hanswered : Answered s b (s.requestEvent 1) 1 .done := requestEvent_answered hr hnot hasked
        { recs := by rw [hleft]; rfl, posClass := by rw [hleft]; rfl, near := by rw [hleft]; rfl
          channels := fun i => by rw [hleft]; rfl
          list := hlist, parked := hparked } (by rw [hleft]; rfl)
      have hword {a : Nat} (ha : 0x040 ≤ a) (hne : a ≠ 0x041) : (s.requestEvent 1).word a = s.word a := by
        refine (hanswered.word (.inr ha)).trans ?_
        rw [hleft]
        exact (Memory.read_write_other _ _ (by simp only [addrMachineState]; omega)).trans (arrived_word 1 s hne)
      have hleaves := hanswered.leaves
      have hanswer := hsettled.answer
      rw [hd] at hanswer
      rw [htaken] at hucontact hguard
      generalize s.requestEvent 1 = u at *
      refine ⟨?_, fun a => hword, fun hm hp => ?_, fun hm hp => ?_⟩
      · have hrecovery : decide (choice = 1 ∧ s.loops.posClass ≠ .insideAll) =
            (decide (choice = 1) && decide (s.loops.posClass ≠ .insideAll)) := Bool.decide_and ..
        have hbguard : b.guard = (armedState (arrived 1 s)).guard := by rw [hleft]
        rw [hanswer, hguard, hucontact, hrecovery, hbguard, hleaves]
        dsimp only
        rw [hleft]
        rfl
      · rw [hucontact, hstill hm hp]
        rfl
      · rw [hucontact, hforward hm hp]
        exact ⟨rfl, rfl, rfl, pingOn_triggers (armedState (arrived 1 s))⟩

end Sys2Proof.Proofs
end

section
/-! SUPPORT. A contact appended: its entry, its disposition, and a trap (R142..R144, R147, R150, R153). -/

namespace Sys2Proof.Proofs

open Sys2Proof.Machine Sys2Proof.Safety

/-! ### A trap (R57, R59, R153) -/

/-- A segment's end posts for PLAN and DOCK alone. -/
theorem closed_notice {seg : Segment} {cause : EndCause} {a : Source} (s : State) (hp : a ≠ .plan) (hd : a ≠ .dock) :
    (closed seg cause s).notice.get a = s.notice.get a := by
  have hdock (x : State) : (endDock cause x).notice = x.notice := by
    unfold endDock
    split <;> rfl
  have hclose : (closeSegment seg cause s).notice.get a = s.notice.get a := by
    unfold closeSegment reportDocked
    split
    · exact (post_get_other (by exact hd) _).trans (congrArg (Notices.get · a) (hdock _))
    · exact congrArg (Notices.get · a) (hdock _)
  refine Eq.trans ?_ hclose
  unfold closed postEnd
  split
  · rfl
  · split <;> exact post_get_other (by exact hp) _

/-- An end that holds the plan. -/
theorem endActive_holding {s : State} {seg : Segment} {cause : EndCause} (ha : s.plan.active = some seg)
    (hc : ∀ o, cause.continuation o = .held) : endActive cause s = post (.planHeld seg.slot seg.fields.tag cause) (startHold
      { closed seg cause s with plan := { (closed seg cause s).plan with state := .held, heldSlot := some seg.slot } }) := by
  rw [endActive_held hc, settleEnd, ha]
  simp only [continuePlan, hc]

theorem startHold_notice (s : State) : (startHold s).notice = s.notice := by
  unfold startHold
  split
  · rfl
  · split
    · simp [handStanding]
    · rfl

theorem endActive_holds_notice {s : State} {seg : Segment} {cause : EndCause} {a : Source} (ha : s.plan.active = some seg)
    (hc : ∀ o, cause.continuation o = .held) (hp : a ≠ .plan) (hd : a ≠ .dock) :
    (endActive cause s).notice.get a = s.notice.get a := by
  rw [endActive_holding ha hc, post_get_other (by exact hp), startHold_notice]
  exact closed_notice s hp hd

theorem planTrapped_reflex (s : State) : (planTrapped s).notice.get .reflex = s.notice.get .reflex := by
  unfold planTrapped
  split
  case h_1 seg ha => exact endActive_holds_notice ha (fun _ => rfl) (by decide) (by decide)
  case h_2 =>
    split
    · rw [post_get_other (by decide), startHold_notice]
    · rfl

/-- The outcomes that a trap writes: those of a running episode, or the newest entry's. -/
def trappedList (s : State) : List Entry :=
  if s.contact.stage = .quiet then mapNewest (fun e => { e with outcome := some .trapped }) s.contact.list
  else s.contact.list.map fun e =>
    if due e.time s.contact.record.episodeStart = true then { e with outcome := some .trapped } else e

/-- The plan told of a trap, with the reflex QUIET. -/
def trapTold (s : State) : State := planTrapped { s with contact := { s.contact with stage := .quiet } }

/-- A trap tells the plan, writes its outcomes and is posted. -/
theorem takeTrap_eq (c : TrapCause) (s : State) : takeTrap c s =
    post (.trapped c) { trapTold s with contact := { s.contact with stage := .quiet, list := trappedList s } } := by
  have htold : (trapTold s).contact = { s.contact with stage := .quiet } := planTrapped_contact _
  unfold takeTrap trappedList
  dsimp only
  rw [← trapTold]
  generalize trapTold s = x at htold ⊢
  by_cases hq : s.contact.stage = .quiet
  · rw [if_neg (by simp [hq]), if_pos hq, writeNewest, setList, htold]
  · rw [if_pos (by simp [hq]), if_neg hq, writeEpisode, setList, htold]
    rfl

/-- What a trap leaves. -/
structure TakesTrap (c : TrapCause) (s u : State) : Prop where
  contact : u.contact = { s.contact with stage := .quiet, list := trappedList s }
  notice : u.notice.reflex = postedTo s .reflex 2 [c.code]
  told : u.plan = (trapTold s).plan ∧ u.drive = (trapTold s).drive ∧ u.track = (trapTold s).track ∧
    u.dock = (trapTold s).dock ∧ u.guard = (trapTold s).guard
  words : ∀ a, 0x040 ≤ a → u.word a = (trapTold s).word a

theorem takesTrap {c : TrapCause} {s : State} (hm : s.guard.machine = .armed) : TakesTrap c s (takeTrap c s) := by
  have hcontacted := contacted_planTrapped { s with contact := { s.contact with stage := .quiet } }
  have hreflex := planTrapped_reflex { s with contact := { s.contact with stage := .quiet } }
  rw [← trapTold] at hcontacted hreflex
  rw [takeTrap_eq]
  obtain ⟨y, hy⟩ : ∃ y : State, y = { trapTold s with
    contact := { s.contact with stage := .quiet, list := trappedList s } } := ⟨_, rfl⟩
  have hmachine : y.guard.machine = .armed := by rw [hy]; exact (congrArg Guard.machine hcontacted.guard).trans hm
  have hmask : y.word 0x062 = s.word 0x062 := by rw [hy]; exact hcontacted.words _ (by decide) (by decide)
  have hnotice : y.notice.get .reflex = s.notice.get .reflex := by rw [hy]; exact hreflex
  rw [← hy]
  constructor
  case contact => simp [hy]
  case notice =>
    have hget := setSource_get .reflex (postedTo y .reflex 2 [c.code]) y
    have hposted : postedTo y .reflex 2 [c.code] = postedTo s .reflex 2 [c.code] := by
      rw [postedTo, postedTo, hnotice, hmask]
    rw [post_open (noticesHeld_armed hmachine), posted_eq]
    exact hget.trans hposted
  case told => simp [hy]
  case words =>
    intro a ha
    rw [post_word _ _ (.inr ha), hy]
    rfl

theorem TakesTrap.trapped {c : TrapCause} {s u : State} {seg : Segment} (h : TakesTrap c s u)
    (ha : s.plan.active = some seg) : Trapped u seg c.code ∧ u.drive.wheels = s.drive.wheels := by
  obtain ⟨hclosed, hstate, hnone, hheld⟩ := endActive_holds (cause := .trapped)
    (s := { s with contact := { s.contact with stage := .quiet } }) ha rfl
  have htold : trapTold s = endActive .trapped { s with contact := { s.contact with stage := .quiet } } := by
    rw [trapTold, planTrapped]
    simp only [ha]
  obtain ⟨hplan, hdrive, htrack, hdock, -⟩ := h.told
  have hwords := h.words
  have hcontact := h.contact
  have hnotice := h.notice
  have hslot := slotBase_ge seg.slot
  rw [htold] at hplan hdrive htrack hdock hwords
  generalize endActive .trapped { s with contact := { s.contact with stage := .quiet } } = x at *
  refine ⟨⟨by rw [hcontact], by rw [hplan, hstate], by rw [hplan, hheld], ⟨by rw [hplan, hnone], ?_, ?_, ?_, ?_, ?_⟩, ?_, ?_⟩,
    ?_⟩
  · exact (hwords _ (by omega)).trans hclosed.slot.1
  · exact (hwords _ (by omega)).trans hclosed.slot.2
  · rw [htrack, hclosed.track]; rfl
  · rw [hdock, hclosed.dock]; exact endedDock_run _ _
  · rw [hdrive, hclosed.drive]
  · rw [hnotice]; rfl
  · rw [hnotice]; rfl
  · rw [hdrive, hclosed.drive]

/-- A trap in a deferral holds the plan and forgets the deferred head (R59, R153). -/
theorem TakesTrap.deferral {c : TrapCause} {s u : State} (h : TakesTrap c s u) (ha : s.plan.active = none)
    (hrun : s.plan.state = .running) :
    u.plan.state = .held ∧ u.plan.deferred = none ∧ u.plan.heldSlot = none := by
  have hdeferral : s.deferral = true := by simp [State.deferral, hrun, ha]
  have htold : trapTold s = post .planHeldDeferral (startHold
      { s with contact := { s.contact with stage := .quiet }
               plan := { s.plan with state := .held, deferred := none, heldSlot := none } }) := by
    rw [trapTold, planTrapped]
    simp only [ha]
    exact if_pos hdeferral
  have hpost (r : Report) (x : State) : (post r x).plan = x.plan := by simp
  obtain ⟨hstate, -, hslot, hdeferred⟩ := startHold_state
    { s with contact := { s.contact with stage := .quiet }
             plan := { s.plan with state := .held, deferred := none, heldSlot := none } }
  rw [h.told.1, htold, hpost]
  exact ⟨hstate, hdeferred, hslot⟩

/-! ### An appended entry (R142, R144) -/

/-- The list before an append: entries of the last 600 s, at most seven of them. -/
def keptEntries (now : Time) (l : List Entry) : List Entry :=
  if (l.filter fun e => decide (since now e.time ≤ 600000)).length < 8 then l.filter fun e => decide (since now e.time ≤ 600000)
  else (l.filter fun e => decide (since now e.time ≤ 600000)).drop 1

theorem appendEntry_eq (e : Entry) (l : List Entry) : appendEntry e l = keptEntries e.time l ++ [e] := by
  have hcapacity : Config.contactCapacity = 8 := rfl
  unfold appendEntry dropOldest purgeOld keptEntries
  rw [hcapacity]
  split
  · rw [if_neg (by omega)]
  · rw [if_pos (by omega)]

/-- An entry counts in the trap test of a new one (R153). -/
def nearEntry (a : Settings) (new e : Entry) : Bool :=
  decide (since new.time e.time ≤ a.trapWindow * 1000 ∧
    max (-30000) (min 30000 (e.x - new.x)) * max (-30000) (min 30000 (e.x - new.x)) +
      max (-30000) (min 30000 (e.y - new.y)) * max (-30000) (min 30000 (e.y - new.y)) ≤
    (a.trapRadius : Int) * a.trapRadius)

theorem trapCounts_near (a : Settings) (new e : Entry) : trapCounts a.trapWindow a.trapRadius new e = nearEntry a new e := by
  unfold trapCounts nearEntry
  dsimp only
  rw [clampI_eq (by decide), clampI_eq (by decide), Bool.decide_and]

theorem nearEntry_self (a : Settings) (e : Entry) : nearEntry a e e = true := by
  have hsquare : (0 : Int) ≤ (a.trapRadius : Int) * a.trapRadius := Int.mul_nonneg (Int.natCast_nonneg _) (Int.natCast_nonneg _)
  simp [nearEntry, since_self, hsquare]

/-- The state in which an appended entry is disposed of. -/
def appended (e : Entry) (s : State) : State := countContact (setList (keptEntries e.time s.contact.list ++ [e]) s)

theorem appendContact_eq (e : Entry) (s : State) : appendContact e s = dispose e (appended e s) := by
  rw [appendContact, appendEntry_eq]
  rfl

/-- The trap test of an appended entry, which counts itself (R153). -/
theorem trapFound_appended (e : Entry) (s : State) : (appended e s).trapFound e = true ↔
    s.plan.applied.trapCount ≤ ((keptEntries e.time s.contact.list).filter (nearEntry s.plan.applied e)).length + 1 := by
  have hcounts : trapCounts s.plan.applied.trapWindow s.plan.applied.trapRadius e = nearEntry s.plan.applied e :=
    funext (trapCounts_near _ _)
  have hlength : ((keptEntries e.time s.contact.list ++ [e]).filter (nearEntry s.plan.applied e)).length =
      ((keptEntries e.time s.contact.list).filter (nearEntry s.plan.applied e)).length + 1 := by
    rw [List.filter_append, List.length_append, List.filter_singleton, nearEntry_self]
    rfl
  rw [← hlength, ← hcounts]
  exact decide_eq_true_iff

theorem formContact_appends {src : Sources} {range : Option Nat} {s : State}
    (h : ∀ e, s.contact.list.getLast? = some e → 50 < since s.partTime e.time) :
    formContact src range s = dispose (s.entryOf src range) (appended (s.entryOf src range) s) := by
  rw [← appendContact_eq, formContact, newest_eq]
  cases hlast : s.contact.list.getLast? with
  | none => rfl
  | some e => exact if_neg (Nat.not_le.2 (h e hlast))

end Sys2Proof.Proofs
end

section
/-! SUPPORT. What becomes of an appended bump: discarded, a reflex, a join, a restart or a trap (R143, R147, R150, R153). -/

namespace Sys2Proof.Proofs

open Sys2Proof.Machine Sys2Proof.Safety

/-! ### The dispositions (R143) -/

theorem appended_contact (e : Entry) (s : State) :
    (appended e s).contact = { s.contact with list := keptEntries e.time s.contact.list ++ [e] } := rfl

theorem appended_idle {e : Entry} {s : State} (ha : s.plan.active = none) : (appended e s).plan = s.plan := by
  have hactive : s.plan.active.map (fun seg => { seg with contacts := satAdd 65535 seg.contacts 1 }) = s.plan.active := by
    rw [ha]
    rfl
  exact congrArg (fun a => { s.plan with active := a }) hactive

/-- A segment counts its contacts (R52). -/
abbrev counting (seg : Segment) : Segment := { seg with contacts := satAdd 65535 seg.contacts 1 }

theorem appended_active {e : Entry} {s : State} {seg : Segment} (ha : s.plan.active = some seg) :
    (appended e s).plan = { s.plan with active := some (counting seg) } := by
  have hactive : s.plan.active.map counting = some (counting seg) := by rw [ha]; rfl
  exact congrArg (fun a => { s.plan with active := a }) hactive

theorem dispose_idle {e : Entry} {x : State} (hq : x.contact.stage = .quiet) (ha : x.plan.active = none) :
    dispose e x = writeNewest (some .discarded) x := by
  have hkind : x.activeKind = none := by simp [State.activeKind, ha]
  rw [dispose, if_neg (not_not.2 hq), if_neg (by rw [hkind]; nofun), startsReflex_none ha]
  rfl

/-- A ROLL, TURN, PAUSE or TRACK starts a reflex, or is trapped. -/
theorem dispose_starts {e : Entry} {x : State} {seg : Segment} (hq : x.contact.stage = .quiet)
    (ha : x.plan.active = some seg) (hrun : x.plan.state = .running) (hlow : 1 ≤ seg.fields.kind.toNat)
    (hhigh : seg.fields.kind.toNat ≤ 4) : dispose e x = startOrTrap e x := by
  have hkind : x.activeKind = seg.fields.kind? := by simp [State.activeKind, ha]
  have hsome : seg.fields.kind? = some .roll ∨ seg.fields.kind? = some .turn ∨ seg.fields.kind? = some .pause ∨
      seg.fields.kind? = some .track := by
    simp only [kind?_iff, kindWord]
    rcases (by omega : seg.fields.kind.toNat = 1 ∨ seg.fields.kind.toNat = 2 ∨ seg.fields.kind.toNat = 3 ∨
      seg.fields.kind.toNat = 4) with h | h | h | h
    · exact .inl (BitVec.eq_of_toNat_eq h)
    · exact .inr (.inl (BitVec.eq_of_toNat_eq h))
    · exact .inr (.inr (.inl (BitVec.eq_of_toNat_eq h)))
    · exact .inr (.inr (.inr (BitVec.eq_of_toNat_eq h)))
  have hdock : x.activeKind ≠ some .dock := by
    rw [hkind]
    rcases hsome with h | h | h | h <;> rw [h] <;> decide
  have hstarts : x.startsReflex = true := by
    unfold State.startsReflex
    rw [hkind, decide_eq_true hrun]
    rcases hsome with h | h | h | h <;> rw [h] <;> rfl
  rw [dispose, if_neg (not_not.2 hq), if_neg fun h => hdock h.1, if_pos hstarts]

theorem dispose_joins {e : Entry} {x : State} (hs : x.contact.stage ≠ .quiet) : dispose e x = joinReflex e x := if_pos hs

theorem joinReflex_traps {e : Entry} {x : State} (h : x.trapFound e = true) : joinReflex e x = takeTrap .area x := if_pos h

theorem joinReflex_stopping {e : Entry} {x : State} (h : x.trapFound e = false) (hs : x.contact.stage = .stopping) :
    joinReflex e x = joinHits e.sources x := by
  rw [joinReflex, h, hs]
  rfl

theorem joinReflex_restarts {e : Entry} {x : State} (h : x.trapFound e = false)
    (hs : x.contact.stage = .backing ∨ x.contact.stage = .turning) : joinReflex e x = restartOrTrap e x := by
  rcases hs with hs | hs <;> · rw [joinReflex, h, hs]; rfl

/-! ### A bump that holds for 20 ms (R137) -/

/-- The input CLOSED, before its contact. -/
abbrev bumped (i : LR) (s : State) : State := setBump i .closed none { s with causes := Causes.none }

/-- The entry that a bump makes. -/
def bumpEntry (i : LR) (s : State) : Entry := (bumped i s).entryOf (bumpSource i) none

/-- The state in which a bump's entry is disposed of. -/
def bumpAppended (i : LR) (s : State) : State := appended (bumpEntry i s) (bumped i s)

/-- Enough entries near the new one, itself among them (R153). -/
abbrev AreaTrap (i : LR) (s : State) : Prop := s.plan.applied.trapCount ≤
  ((keptEntries s.partTime s.contact.list).filter (nearEntry s.plan.applied (bumpEntry i s))).length + 1

theorem bump_area (i : LR) (s : State) : (bumpAppended i s).trapFound (bumpEntry i s) = true ↔ AreaTrap i s :=
  trapFound_appended (bumpEntry i s) (bumped i s)

section
variable {i : LR} {s : State} {e : Time} (hr : s.resetting = none) (he : s.contact.bumpTimer.get i = some e)
  (hd : due s.partTime e = true)
include hr he hd

theorem exec_bump_unarmed (hm : s.guard.machine ≠ .armed) : exec (.bumpDebounceExpiry i) s = .next { s with
    contact := { s.contact with bump := s.contact.bump.set i .closed, bumpTimer := s.contact.bumpTimer.set i none } } := by
  have hexpiry : bumpExpiry i { s with causes := Causes.none } = bumped i s := by
    unfold bumpExpiry
    rw [if_pos (dueOpt_true he hd)]
    exact if_neg (mt of_decide_eq_true (by exact hm))
  exact congrArg Host.Outcome.next (event_unshown hr hexpiry { Unshown.refl s with } rfl)

theorem exec_bump_armed (hm : s.guard.machine = .armed) : ∃ u, exec (.bumpDebounceExpiry i) s = .next u ∧
    Ran s (formContact (bumpSource i) none (bumped i s)) u :=
  ⟨_, rfl, event_ran hr (bumpExpiry_due (s := { s with causes := Causes.none }) hm he hd)⟩

/-- A bump whose newest entry is older than 50 ms. -/
theorem exec_bump_appends (hm : s.guard.machine = .armed)
    (hl : ∀ e, s.contact.list.getLast? = some e → 50 < since s.partTime e.time) :
    ∃ u, exec (.bumpDebounceExpiry i) s = .next u ∧ Ran s (dispose (bumpEntry i s) (bumpAppended i s)) u := by
  have happends := formContact_appends (src := bumpSource i) (range := none) (s := bumped i s) hl
  obtain ⟨u, hu, hran⟩ := exec_bump_armed hr he hd hm
  rw [happends] at hran
  exact ⟨u, hu, hran⟩

end

/-- A trap stands over the refreshes of its event. -/
theorem trapped_ran {s b u : State} {seg : Segment} {c : Word} (h : Trapped b seg c) (hran : Ran s b u) : Trapped u seg c := by
  obtain ⟨hstage, hstate, hheld, ⟨hnone, hslot, hcause, htrack, hdock, hsuspended⟩, hstatus, hdetails⟩ := h
  obtain ⟨-, -, -, -, uplan, udrive, utrack, -, -, ucontact, -, udock, unotice, -⟩ := hran.blocks
  have hbase := slotBase_ge seg.slot
  refine ⟨ucontact ▸ hstage, uplan ▸ hstate, uplan ▸ hheld, ⟨uplan ▸ hnone, (hran.word _ ?_ ?_ ?_).trans hslot,
    (hran.word _ ?_ ?_ ?_).trans hcause, utrack ▸ htrack, udock ▸ hdock, udrive ▸ hsuspended⟩, unotice ▸ hstatus,
    unotice ▸ hdetails⟩ <;> omega

/-- A reflex's trap, by the list that it writes. -/
theorem trap_ends {c : TrapCause} {s x u : State} {seg : Segment} (hm : x.guard.machine = .armed)
    (ha : x.plan.active = some (counting seg)) (hran : Ran s (takeTrap c x) u) :
    Trapped u seg c.code ∧ u.contact.list = trappedList x ∧ u.drive.wheels = x.drive.wheels ∧
      u.notice.reflex = postedTo x .reflex 2 [c.code] := by
  have htakes := takesTrap (c := c) hm
  obtain ⟨htrapped, hwheels⟩ := htakes.trapped ha
  obtain ⟨-, -, -, -, -, udrive, -, -, -, ucontact, -, -, unotice, -⟩ := hran.blocks
  refine ⟨trapped_ran htrapped hran, ?_, udrive ▸ hwheels, unotice ▸ htakes.notice⟩
  rw [ucontact, htakes.contact]

theorem trappedList_quiet {x : State} {l : List Entry} {e : Entry} (hq : x.contact.stage = .quiet)
    (hl : x.contact.list = l ++ [e]) : trappedList x = l ++ [{ e with outcome := some .trapped }] := by
  rw [trappedList, if_pos hq, hl, mapNewest_concat]

theorem trappedList_running {x : State} (hs : x.contact.stage ≠ .quiet) : trappedList x = x.contact.list.map fun e =>
    if due e.time x.contact.record.episodeStart = true then { e with outcome := some .trapped } else e := if_neg hs

end Sys2Proof.Proofs
end

section
/-! SUPPORT. The bump's contact by the reflex and the plan that it finds (R137, R141..R153). -/

namespace Sys2Proof.Proofs

open Sys2Proof.Machine Sys2Proof.Safety

/-- The entries of an episode take an outcome (R145). -/
abbrev judgedEntries (start : Time) (o : ContactOutcome) (l : List Entry) : List Entry :=
  l.map fun e => if due e.time start = true then { e with outcome := some o } else e

section
variable {i : LR} {s u : State} (hm : s.guard.machine = .armed)
  (hran : Ran s (dispose (bumpEntry i s) (bumpAppended i s)) u)
include hm hran

omit hm in
/-- With no segment and no reflex a bump is listed, and DISCARDED (R143). -/
theorem bump_discarded (hq : s.contact.stage = .quiet) (ha : s.plan.active = none) :
    u.plan = s.plan ∧ u.drive = s.drive ∧ u.contact.stage = .quiet ∧ u.contact.list =
      keptEntries s.partTime s.contact.list ++ [{ bumpEntry i s with outcome := some .discarded }] := by
  have hplan : (bumpAppended i s).plan = s.plan := appended_idle (s := bumped i s) ha
  have hdispose := dispose_idle (e := bumpEntry i s) (x := bumpAppended i s) hq (by rw [hplan, ha])
  rw [hdispose] at hran
  obtain ⟨-, -, -, -, uplan, udrive, -, -, -, ucontact, -⟩ := hran.blocks
  refine ⟨uplan.trans hplan, udrive, by rw [ucontact]; exact hq, ?_⟩
  rw [ucontact]
  exact mapNewest_concat _ _ _

/-- An area trap of a reflex in a deferral (R59, R153). -/
theorem bump_traps_deferral (hs : s.contact.stage ≠ .quiet) (harea : AreaTrap i s) (ha : s.plan.active = none)
    (hrun : s.plan.state = .running) : u.contact.stage = .quiet ∧ u.plan.state = .held ∧ u.plan.deferred = none ∧
      u.plan.heldSlot = none ∧ u.notice.reflex = postedTo s .reflex 2 [1] := by
  have hplan : (bumpAppended i s).plan = s.plan := appended_idle (s := bumped i s) ha
  rw [dispose_joins (x := bumpAppended i s) (by exact hs), joinReflex_traps ((bump_area i s).2 harea)] at hran
  have htakes := takesTrap (c := .area) (s := bumpAppended i s) hm
  obtain ⟨hheld, hdeferred, hslot⟩ := htakes.deferral (by rw [hplan, ha]) (by rw [hplan, hrun])
  obtain ⟨-, -, -, -, uplan, -, -, -, -, ucontact, -, -, unotice, -⟩ := hran.blocks
  rw [ucontact, uplan, unotice, htakes.contact, htakes.notice]
  exact ⟨rfl, hheld, hdeferred, hslot, rfl⟩

section
variable {seg : Segment} (ha : s.plan.active = some seg)
include ha

/-- An area trap of a first contact (R153). -/
theorem bump_traps_first (hrun : s.plan.state = .running) (hq : s.contact.stage = .quiet)
    (hlow : 1 ≤ seg.fields.kind.toNat) (hhigh : seg.fields.kind.toNat ≤ 4) (harea : AreaTrap i s) :
    Trapped u seg 1 ∧ u.contact.list =
        keptEntries s.partTime s.contact.list ++ [{ bumpEntry i s with outcome := some .trapped }] ∧
      u.drive.wheels = s.drive.wheels ∧ u.notice.reflex = postedTo s .reflex 2 [1] := by
  have hplan := appended_active (e := bumpEntry i s) (s := bumped i s) ha
  have hactive : (bumpAppended i s).plan.active = some (counting seg) := by rw [bumpAppended, hplan]
  have hstate : (bumpAppended i s).plan.state = .running := by rw [bumpAppended, hplan]; exact hrun
  rw [dispose_starts (by exact hq) hactive hstate hlow hhigh, startOrTrap, if_pos ((bump_area i s).2 harea)] at hran
  obtain ⟨htrapped, hlist, hwheels, hnotice⟩ := trap_ends (by exact hm) hactive hran
  rw [trappedList_quiet (by exact hq) rfl] at hlist
  exact ⟨htrapped, hlist, hwheels, hnotice⟩

omit hm in
/-- A first contact starts a reflex (R147). -/
theorem bump_starts (hrun : s.plan.state = .running) (hq : s.contact.stage = .quiet) (hlow : 1 ≤ seg.fields.kind.toNat)
    (hhigh : seg.fields.kind.toNat ≤ 4) (harea : ¬ AreaTrap i s) :
    u.contact.stage = .stopping ∧ u.drive.suspended = true ∧
      u.contact.list = keptEntries s.partTime s.contact.list ++ [bumpEntry i s] ∧
      u.contact.record = ⟨s.partTime, seg.activation, bumpSource i,
        ⟨s.contact.sonar.left.range, s.contact.sonar.right.range⟩, none, s.partTime, 0, 0, 0, 0⟩ := by
  have hplan := appended_active (e := bumpEntry i s) (s := bumped i s) ha
  have hactive : (bumpAppended i s).plan.active = some (counting seg) := by rw [bumpAppended, hplan]
  have hstate : (bumpAppended i s).plan.state = .running := by rw [bumpAppended, hplan]; exact hrun
  have hnumber : (bumpAppended i s).activeNumber = seg.activation := by
    rw [State.activeNumber, hactive]
  rw [dispose_starts (by exact hq) hactive hstate hlow hhigh, startOrTrap, if_neg (mt (bump_area i s).1 harea)] at hran
  obtain ⟨-, -, -, -, -, udrive, -, -, -, ucontact, -⟩ := hran.blocks
  rw [udrive, ucontact]
  refine ⟨rfl, rfl, rfl, ?_⟩
  rw [← hnumber]
  rfl

/-- An area trap of a running reflex (R150, R153). -/
theorem bump_traps (hs : s.contact.stage ≠ .quiet) (harea : AreaTrap i s) : Trapped u seg 1 ∧ u.contact.list =
    judgedEntries s.contact.record.episodeStart .trapped (keptEntries s.partTime s.contact.list ++ [bumpEntry i s]) := by
  have hplan := appended_active (e := bumpEntry i s) (s := bumped i s) ha
  have hactive : (bumpAppended i s).plan.active = some (counting seg) := by rw [bumpAppended, hplan]
  rw [dispose_joins (x := bumpAppended i s) (by exact hs), joinReflex_traps ((bump_area i s).2 harea)] at hran
  obtain ⟨htrapped, hlist, -, -⟩ := trap_ends (by exact hm) hactive hran
  rw [trappedList_running (by exact hs)] at hlist
  exact ⟨htrapped, hlist⟩

omit ha hm in
/-- STOPPING takes the source into its hits (R150). -/
theorem bump_joins (hs : s.contact.stage = .stopping) (harea : ¬ AreaTrap i s) :
    u.contact.stage = .stopping ∧ u.contact.list = keptEntries s.partTime s.contact.list ++ [bumpEntry i s] ∧
      u.contact.record = { s.contact.record with hits := s.contact.record.hits ||| bumpSource i } := by
  have hnone : (bumpAppended i s).trapFound (bumpEntry i s) = false := Bool.eq_false_iff.2 (mt (bump_area i s).1 harea)
  rw [dispose_joins (x := bumpAppended i s) (show s.contact.stage ≠ .quiet by rw [hs]; decide), joinReflex_stopping hnone (by exact hs)] at hran
  obtain ⟨-, -, -, -, -, -, -, -, -, ucontact, -⟩ := hran.blocks
  rw [ucontact]
  exact ⟨hs, rfl, rfl⟩

/-- A third restart is a trap (R150). -/
theorem bump_traps_restart (hs : s.contact.stage = .backing ∨ s.contact.stage = .turning) (harea : ¬ AreaTrap i s)
    (hn : 2 ≤ s.contact.record.restarts) : Trapped u seg 2 ∧ u.contact.list =
    judgedEntries s.contact.record.episodeStart .trapped (keptEntries s.partTime s.contact.list ++ [bumpEntry i s]) := by
  have hquiet : s.contact.stage ≠ .quiet := by rcases hs with hs | hs <;> rw [hs] <;> decide
  have hnone : (bumpAppended i s).trapFound (bumpEntry i s) = false := Bool.eq_false_iff.2 (mt (bump_area i s).1 harea)
  have hplan := appended_active (e := bumpEntry i s) (s := bumped i s) ha
  obtain ⟨x, hx⟩ : ∃ x : State, x = { bumpAppended i s with contact := { (bumpAppended i s).contact with
      record := { s.contact.record with restarts := s.contact.record.restarts + 1 } } } := ⟨_, rfl⟩
  have hrestart : restartOrTrap (bumpEntry i s) (bumpAppended i s) = takeTrap .restarts x := by
    rw [hx]
    exact if_pos (show 3 ≤ s.contact.record.restarts + 1 by omega)
  have hactive : x.plan.active = some (counting seg) := by rw [hx, bumpAppended, hplan]
  have hmachine : x.guard.machine = .armed := by rw [hx]; exact hm
  have hstage : x.contact.stage ≠ .quiet := by rw [hx]; exact hquiet
  rw [dispose_joins (x := bumpAppended i s) (by exact hquiet), joinReflex_restarts hnone (by exact hs), hrestart] at hran
  obtain ⟨htrapped, hlist, -, -⟩ := trap_ends hmachine hactive hran
  rw [trappedList_running hstage, hx] at hlist
  exact ⟨htrapped, hlist⟩

omit ha hm in
/-- A restart begins again in STOPPING (R150). -/
theorem bump_restarts (hs : s.contact.stage = .backing ∨ s.contact.stage = .turning) (harea : ¬ AreaTrap i s)
    (hn : s.contact.record.restarts < 2) : u.contact.stage = .stopping ∧
      u.contact.list = keptEntries s.partTime s.contact.list ++ [bumpEntry i s] ∧
      u.contact.record = { s.contact.record with
        hits := bumpSource i
        ranges := ⟨recapture s.contact.sonar.left.range s.contact.record.ranges.left,
          recapture s.contact.sonar.right.range s.contact.record.ranges.right⟩
        turn := none, stageEntry := s.partTime, distance := 0, turned := 0, still := 0
        restarts := s.contact.record.restarts + 1 } := by
  have hquiet : s.contact.stage ≠ .quiet := by rcases hs with hs | hs <;> rw [hs] <;> decide
  have hnone : (bumpAppended i s).trapFound (bumpEntry i s) = false := Bool.eq_false_iff.2 (mt (bump_area i s).1 harea)
  have hrestart : restartOrTrap (bumpEntry i s) (bumpAppended i s) = restartReflex (bumpEntry i s)
      { bumpAppended i s with contact := { (bumpAppended i s).contact with
        record := { s.contact.record with restarts := s.contact.record.restarts + 1 } } } :=
    if_neg (show ¬ 3 ≤ s.contact.record.restarts + 1 by omega)
  rw [dispose_joins (x := bumpAppended i s) (by exact hquiet), joinReflex_restarts hnone (by exact hs), hrestart] at hran
  obtain ⟨-, -, -, -, -, -, -, -, -, ucontact, -⟩ := hran.blocks
  rw [ucontact]
  exact ⟨rfl, rfl, rfl⟩

end

end

end Sys2Proof.Proofs
end

section
/-! SUPPORT. The stalls of a control period (R141, R142, R147). -/

namespace Sys2Proof.Proofs

open Sys2Proof.Machine Sys2Proof.Safety

/-! ### Steps 1 to 5 leave the entries and the stalls (R145, R151) -/

theorem relisted_runStage (cap : Nat) (moved : Bool) (p : Pair) (s : State) : Relisted s (runStage cap moved p s).state := by
  unfold runStage
  dsimp only
  split
  · exact (relisted_takeTrap _ _).after ⟨rfl, rfl⟩
  · exact ⟨rfl, rfl⟩

theorem relisted_reflexStep (cap : Nat) (v : Travel) (s : State) : Relisted s (reflexStep cap v s).state := by
  unfold reflexStep
  split
  · exact .refl s
  · split
    · exact ⟨rfl, rfl⟩
    · exact .refl s
  · split
    · exact ⟨rfl, rfl⟩
    · exact relisted_runStage ..
  · split
    · exact .refl s
    · exact relisted_runStage ..

theorem relisted_finishReflex (s : State) : Relisted s (finishReflex s) := by
  have hreport : Relisted s (reportReflex { s with contact := { s.contact with stage := .quiet } }).1 :=
    Relisted.after (.of_contact (by simp)) (show Relisted s { s with contact := { s.contact with stage := .quiet } } from ⟨rfl, rfl⟩)
  unfold finishReflex
  dsimp only
  generalize reportReflex { s with contact := { s.contact with stage := .quiet } } = r at hreport ⊢
  have hwritten := (relisted_writeEpisode r.2 r.1).after hreport
  exact (Relisted.of_contact (by simp)).after hwritten

theorem relisted_settled (v : Travel) (y : State) : Relisted y (ReflexOut.settled (periodChosen v y).1) := by
  have hreflex : Relisted y (periodChosen v y).1.state :=
    (relisted_reflexStep _ _ _).after (.of_contact (by simp))
  unfold ReflexOut.settled
  split
  · exact (relisted_finishReflex _).after hreflex
  · exact hreflex

/-- A calm period finds no escape. -/
theorem calm_stays {t : Capture} {pitch roll : Byte} {s : State} (h : CalmPeriod s pitch roll) :
    ¬ (Strays (stamped t s) ∧ (stamped t s).plan.applied.escapeLimit ≤
      min 4294967295 ((stamped t s).guard.escape + (meanTravel (stamped t s)).natAbs) / 256) := by
  obtain ⟨-, -, -, hclass, -⟩ := h
  rintro ⟨⟨-, hrecovery, hout⟩, -⟩
  rcases hclass with hne | hrec
  · exact hne hout
  · exact absurd (hrec.symm.trans hrecovery) nofun

/-- A finding does not leave the machine ARMED. -/
theorem find_armed_free {c : TripCause} {s : State} (h : (find c s).guard.machine = .armed) : False := by
  by_cases hm : s.guard.machine = .armed
  · rw [find_armed hm, trip_guard] at h
    cases h
  · unfold find at h
    split at h
    case h_1 hm' => exact hm hm'
    case h_2 hm' => simp [hm'] at h
    all_goals exact hm h

/-- The tilt's judgement leaves the Contact Unit of a machine that it leaves ARMED. -/
theorem judgeTilt_armed {s : State} (h : (judgeTilt s).guard.machine = .armed) :
    (judgeTilt s).contact = s.contact ∧ (judgeTilt s).partTime = s.partTime := by
  unfold judgeTilt at h ⊢
  split
  · exact ⟨rfl, rfl⟩
  · split
    · exact ⟨rfl, rfl⟩
    · split
      · rename_i hslope _ _ hstart hlong
        rw [if_neg hslope, hstart] at h
        have hfound := h
        simp only [if_pos hlong] at hfound
        exact (find_armed_free hfound).elim
      · exact ⟨rfl, rfl⟩

theorem stepEnds_contact (s : State) : (stepEnds s).contact = s.contact ∧ (stepEnds s).partTime = s.partTime := by
  unfold stepEnds
  split
  · exact ⟨rfl, rfl⟩
  · split
    · simp
    · exact ⟨rfl, rfl⟩

/-- A calm period in which the machine stays ARMED up to step 5 leaves the Contact Unit but for the reflex's travel. -/
theorem periodJudged_contact {t : Capture} {pitch roll : Byte} {s : State} (h : CalmPeriod s pitch roll)
    (hm : (periodJudged t pitch roll (stamped t s)).guard.machine = .armed) :
    (periodJudged t pitch roll (stamped t s)).contact = (calmTravelled t (stamped t s)).contact ∧
      (periodJudged t pitch roll (stamped t s)).partTime = s.partTime := by
  obtain ⟨hcontact, hpart⟩ := judgeTilt_armed hm
  obtain ⟨g, hleaves, -⟩ := calmTravelled_leaves t (stamped t s)
  have hcalmPart : (calmTravelled t (stamped t s)).partTime = s.partTime := by rw [hleaves]
  have hended : periodEnded t (stamped t s) = stepEnds (calmTravelled t (stamped t s)) := by
    rw [periodEnded_eq, travelStep_calm (calm_stays h)]
  obtain ⟨hends, hendsPart⟩ := stepEnds_contact (calmTravelled t (stamped t s))
  rw [← hended] at hends hendsPart
  exact ⟨hcontact.trans hends, hpart.trans (hendsPart.trans hcalmPart)⟩

/-! ### One wheel's stall (R141) -/

section
variable {i : LR} {x : State}

/-- The wheel stands at a duty of 900 or more. -/
abbrev Blocked (x : State) (i : LR) : Prop := 900 ≤ (x.drive.wheels.get i).duty.natAbs ∧ (x.drive.wheels.get i).measured = 0

theorem judgeStall_free (h : ¬ Blocked x i) : judgeStall i x = setStall i none x := by
  unfold judgeStall
  dsimp only
  refine if_neg fun hb => h ?_
  simp only [Bool.and_eq_true, decide_eq_true_eq] at hb
  exact ⟨hb.1.2, hb.2⟩

/-- What becomes of a wheel that stands. -/
def stallTaken (i : LR) (x : State) : Option Time → State
  | none => setStall i (some x.partTime) x
  | some t => if 300 ≤ since x.partTime t then formContact (stallSource i) none (setStall i none x) else x

theorem judgeStall_eq (hm : x.guard.machine = .armed) (h : Blocked x i) :
    judgeStall i x = stallTaken i x (x.contact.stall.get i) := by
  have hblocked : (x.armed && decide (900 ≤ (x.drive.wheels.get i).duty.natAbs) &&
      decide ((x.drive.wheels.get i).measured = 0)) = true := by
    simp only [Bool.and_eq_true, decide_eq_true_eq]
    exact ⟨⟨decide_eq_true hm, h.1⟩, h.2⟩
  unfold judgeStall stallTaken
  dsimp only
  refine (if_pos hblocked).trans ?_
  cases x.contact.stall.get i <;> rfl

section
variable (hm : x.guard.machine = .armed) (h : Blocked x i)
include hm h

theorem judgeStall_begins (hn : x.contact.stall.get i = none) : judgeStall i x = setStall i (some x.partTime) x := by
  have hblocked := judgeStall_eq hm h
  rwa [hn] at hblocked

theorem judgeStall_waits {a : Time} (ha : x.contact.stall.get i = some a) (hshort : since x.partTime a < 300) :
    judgeStall i x = x := by
  have hblocked := judgeStall_eq hm h
  rw [ha] at hblocked
  exact hblocked.trans (if_neg (Nat.not_le.2 hshort))

theorem judgeStall_forms {a : Time} (ha : x.contact.stall.get i = some a) (hlong : 300 ≤ since x.partTime a) :
    judgeStall i x = formContact (stallSource i) none (setStall i none x) := by
  have hblocked := judgeStall_eq hm h
  rw [ha] at hblocked
  exact hblocked.trans (if_pos hlong)

end

end

end Sys2Proof.Proofs
end

section
/-! SUPPORT. The stalls of a control period and their contacts (R141, R142, R144, R147). -/

namespace Sys2Proof.Proofs

open Sys2Proof.Machine Sys2Proof.Safety

/-! ### A second contact keeps the first one's source (R142) -/

theorem or_keeps {a b c : Sources} (h : a &&& c = c) : (a ||| b) &&& c = c := by
  rw [BitVec.or_comm, ← h]
  ext i
  simp
  tauto

/-- A contact that follows at once is folded into the newest entry. -/
theorem Listed.formContact {src : Sources} {x : State} (h : Listed src none x.partTime x.contact.list) (second : Sources) :
    Listed src none x.partTime (Machine.formContact second none x).contact.list := by
  obtain ⟨entry, hlast, hsources, -, hyoung, hlength⟩ := h
  have hfolded : Listed src none x.partTime (mapNewest (fun d => d.folded second none) x.contact.list) :=
    ⟨entry.folded second none, by rw [mapNewest_last, hlast]; rfl, or_keeps hsources, nofun, hyoung,
      by rw [mapNewest_length]; exact hlength⟩
  have hfolds : Machine.formContact second none x = foldContact entry second none x := by
    unfold Machine.formContact
    rw [newest_eq, hlast]
    exact if_pos hyoung
  rw [hfolds]
  exact hfolded.relisted (relisted_foldContact entry second none x).entries

/-! ### The stall of one wheel after its judgement (R141) -/

section
variable {i j : LR} {x : State}

/-- Since when a wheel that stands has stood, after its judgement: a stall of 300 ms has formed its contact. -/
def stallNoted (now : Time) : Option Time → Option Time
  | none => some now
  | some a => if 300 ≤ since now a then none else some a

/-- Since when a wheel stands, after its judgement. -/
def stallAfter (j : LR) (x : State) : Option Time :=
  if x.guard.machine = .armed ∧ Blocked x j then stallNoted x.partTime (x.contact.stall.get j) else none

theorem stallAfter_congr {y : State} (hm : y.guard.machine = x.guard.machine) (hw : y.drive.wheels = x.drive.wheels)
    (hpart : y.partTime = x.partTime) (hstall : y.contact.stall.get j = x.contact.stall.get j) :
    stallAfter j y = stallAfter j x := by
  unfold stallAfter Blocked
  rw [hm, hw, hpart, hstall]

theorem formContact_stall (src : Sources) (y : State) : (Machine.formContact src none y).contact.stall = y.contact.stall := by
  have hsensors := formContact_sensors src none y
  simp only [sensors, Prod.mk.injEq] at hsensors
  exact hsensors.2.2.2.2.2.2

theorem setStall_get (v : Option Time) : (setStall i v x).contact.stall.get i = v := Two.get_set_same _ _ _

theorem judgeStall_unarmed (hm : x.guard.machine ≠ .armed) : judgeStall i x = setStall i none x := by
  unfold judgeStall
  exact if_neg fun h => hm (of_decide_eq_true (Bool.and_eq_true_iff.1 (Bool.and_eq_true_iff.1 h).1).1)

theorem judgeStall_get_same : (judgeStall i x).contact.stall.get i = stallAfter i x := by
  unfold stallAfter
  by_cases h : x.guard.machine = .armed ∧ Blocked x i
  · obtain ⟨hm, hblocked⟩ := h
    rw [if_pos ⟨hm, hblocked⟩]
    cases ha : x.contact.stall.get i with
    | none =>
      rw [judgeStall_begins hm hblocked ha]
      exact setStall_get _
    | some a =>
      by_cases hlong : 300 ≤ since x.partTime a
      · rw [judgeStall_forms hm hblocked ha hlong, formContact_stall]
        exact (setStall_get _).trans (if_pos hlong).symm
      · rw [judgeStall_waits hm hblocked ha (Nat.not_le.1 hlong), ha]
        exact (if_neg hlong).symm
  · rw [if_neg h]
    by_cases hm : x.guard.machine = .armed
    · rw [judgeStall_free fun hblocked => h ⟨hm, hblocked⟩]
      exact setStall_get _
    · rw [judgeStall_unarmed hm]
      exact setStall_get _

/-- What a wheel's judgement can be: its stall noted or dropped, or its contact. -/
theorem judgeStall_cases (i : LR) (x : State) :
    (∃ v, judgeStall i x = setStall i v x) ∨ judgeStall i x = Machine.formContact (stallSource i) none (setStall i none x) := by
  by_cases h : x.guard.machine = .armed ∧ Blocked x i
  · obtain ⟨hm, hblocked⟩ := h
    rw [judgeStall_eq hm hblocked]
    cases ha : x.contact.stall.get i with
    | none => exact .inl ⟨_, rfl⟩
    | some a =>
      by_cases hlong : 300 ≤ since x.partTime a
      · exact .inr (if_pos hlong)
      · refine .inl ⟨some a, (if_neg hlong).trans ?_⟩
        rw [setStall, ← ha, Two.set_get]
  · by_cases hm : x.guard.machine = .armed
    · exact .inl ⟨none, judgeStall_free fun hblocked => h ⟨hm, hblocked⟩⟩
    · exact .inl ⟨none, judgeStall_unarmed hm⟩

theorem judgeStall_get_other (h : j ≠ i) : (judgeStall i x).contact.stall.get j = x.contact.stall.get j := by
  rcases judgeStall_cases i x with ⟨v, hv⟩ | hforms
  · rw [hv]
    exact Two.get_set_other _ _ h
  · rw [hforms, formContact_stall]
    exact Two.get_set_other _ _ h

theorem judgeStall_sonar : (judgeStall i x).contact.sonar = x.contact.sonar := by
  rcases judgeStall_cases i x with ⟨v, hv⟩ | hforms
  · rw [hv]
    rfl
  · have hsensors := formContact_sensors (stallSource i) none (setStall i none x)
    simp only [sensors, Prod.mk.injEq] at hsensors
    rw [hforms]
    exact hsensors.2.2.2.2.2.1

theorem judgeStall_length (h : x.contact.list.length ≤ 8) : (judgeStall i x).contact.list.length ≤ 8 := by
  rcases judgeStall_cases i x with ⟨v, hv⟩ | hforms
  · rw [hv]
    exact h
  · rw [hforms]
    obtain ⟨-, -, -, -, -, hlength⟩ := formContact_listed (src := stallSource i) (range := none) (s := setStall i none x) h
    exact hlength

theorem Listed.judgeStall {src : Sources} (h : Listed src none x.partTime x.contact.list) (i : LR) :
    Listed src none x.partTime (Machine.judgeStall i x).contact.list := by
  rcases judgeStall_cases i x with ⟨v, hv⟩ | hforms
  · rw [hv]
    exact h
  · rw [hforms]
    exact Listed.formContact (x := setStall i none x) h (stallSource i)

end

/-! ### Both wheels -/

/-- Both wheels judged. -/
abbrev stallsJudged (x : State) : State := judgeStall .right (judgeStall .left x)

section
variable (x : State)

theorem stallsJudged_get (j : LR) : (stallsJudged x).contact.stall.get j = stallAfter j x := by
  cases j with
  | left =>
    rw [stallsJudged, judgeStall_get_other (by decide), judgeStall_get_same]
  | right =>
    rw [stallsJudged, judgeStall_get_same]
    exact stallAfter_congr (by simp) (by simp) (by simp) (judgeStall_get_other (by decide))

theorem stallsJudged_wheels : (stallsJudged x).drive.wheels = x.drive.wheels := by simp [stallsJudged]

variable {x}

/-- A wheel that has stood for 300 ms forms its contact, and the other wheel's contact keeps it. -/
theorem stallsJudged_listed {j : LR} {a : Time} (hm : x.guard.machine = .armed) (h : Blocked x j)
    (ha : x.contact.stall.get j = some a) (hlong : 300 ≤ since x.partTime a) (hl : x.contact.list.length ≤ 8) :
    Listed (stallSource j) none x.partTime (stallsJudged x).contact.list := by
  cases j with
  | left =>
    have hlisted : Listed (stallSource .left) none x.partTime (judgeStall .left x).contact.list := by
      rw [judgeStall_forms hm h ha hlong]
      exact formContact_listed (s := setStall .left none x) hl
    have hpart : (judgeStall .left x).partTime = x.partTime := by simp
    rw [← hpart] at hlisted ⊢
    exact hlisted.judgeStall .right
  | right =>
    have hframe := judgeStall_frame .left x
    obtain ⟨-, hpart, -, -, -, -, -, -, hmachine, -, -, -, hwheels, -⟩ := hframe
    have hblocked : Blocked (judgeStall .left x) .right := by rw [Blocked, hwheels]; exact h
    rw [stallsJudged, judgeStall_forms (hmachine.trans hm) hblocked ((judgeStall_get_other (by decide)).trans ha)
      (by rw [hpart]; exact hlong), ← hpart]
    exact formContact_listed (s := setStall .right none (judgeStall .left x)) (judgeStall_length hl)

/-- What the first contact of a ROLL leaves of the reflex. -/
structure StartsStalled (seg : Segment) (src : Sources) (x y : State) : Prop where
  list : y.contact.list = [⟨x.partTime, src, Int.tdiv x.drive.x 256, Int.tdiv x.drive.y 256, x.drive.heading, none,
    some seg.slot, none⟩]
  stage : y.contact.stage = .stopping
  suspended : y.drive.suspended = true
  record : y.contact.record = ⟨x.partTime, seg.activation, src,
    ⟨x.contact.sonar.left.range, x.contact.sonar.right.range⟩, none, x.partTime, 0, 0, 0, 0⟩

theorem StartsStalled.setStall {seg : Segment} {src : Sources} {y : State} (h : StartsStalled seg src x y) (i : LR)
    (v : Option Time) : StartsStalled seg src x (Machine.setStall i v y) := ⟨h.list, h.stage, h.suspended, h.record⟩

theorem StartsStalled.of_setStall {seg : Segment} {src : Sources} {y : State} {i : LR} {v : Option Time}
    (h : StartsStalled seg src (Machine.setStall i v x) y) : StartsStalled seg src x y :=
  ⟨h.list, h.stage, h.suspended, h.record⟩

theorem formContact_stalled {src : Sources} {seg : Segment} (hl : x.contact.list = []) (hq : x.contact.stage = .quiet)
    (hrun : x.plan.state = .running) (ha : x.plan.active = some seg) (hk : seg.fields.kind = 1)
    (htrap : 2 ≤ x.plan.applied.trapCount) : StartsStalled seg src x (Machine.formContact src none x) := by
  have hslot : x.activeSlot = some seg.slot := by simp [State.activeSlot, ha]
  have hactivation : (firstContact src none x).activeNumber = seg.activation := by
    simp [State.activeNumber, firstContact, countContact, setList, ha]
  have hentry : x.entryOf src none = ⟨x.partTime, src, Int.tdiv x.drive.x 256, Int.tdiv x.drive.y 256, x.drive.heading, none,
      some seg.slot, none⟩ := by
    rw [State.entryOf, hslot]
    rfl
  rw [formContact_starts hl hq hrun ha hk htrap]
  constructor
  case list => exact congrArg (fun e => [e]) hentry
  case stage => rfl
  case suspended => rfl
  case record =>
    rw [← hactivation]
    rfl

/-- The one wheel that has stood for 300 ms starts the reflex of a ROLL. -/
theorem stallsJudged_starts {j : LR} {a : Time} {seg : Segment} (hm : x.guard.machine = .armed) (h : Blocked x j)
    (hstart : x.contact.stall.get j = some a) (hlong : 300 ≤ since x.partTime a)
    (halone : ∀ k, k ≠ j → x.contact.stall.get k = none) (hl : x.contact.list = []) (hq : x.contact.stage = .quiet)
    (hrun : x.plan.state = .running) (ha : x.plan.active = some seg) (hk : seg.fields.kind = 1)
    (htrap : 2 ≤ x.plan.applied.trapCount) : StartsStalled seg (stallSource j) x (stallsJudged x) := by
  cases j with
  | left =>
    have hforms := judgeStall_forms hm h hstart hlong
    have hright : (judgeStall .left x).contact.stall.get .right = none :=
      (judgeStall_get_other (by decide)).trans (halone .right (by decide))
    obtain ⟨v, hv⟩ := judgeStall_first hright
    rw [stallsJudged, hv, hforms]
    exact ((formContact_stalled (x := setStall .left none x) hl hq hrun ha hk htrap).of_setStall).setStall _ _
  | right =>
    obtain ⟨v, hv⟩ := judgeStall_first (halone .left (by decide))
    have hforms := judgeStall_forms (i := .right) (x := setStall .left v x) hm h
      ((Two.get_set_other _ _ (by decide)).trans hstart) hlong
    rw [stallsJudged, hv, hforms]
    exact (formContact_stalled (x := setStall .right none (setStall .left v x)) hl hq hrun ha hk htrap).of_setStall.of_setStall

end

end Sys2Proof.Proofs
end

section
/-! SUPPORT. A calm control period's stalls (O26: R141, R147). -/

namespace Sys2Proof.Proofs

open Sys2Proof.Machine Sys2Proof.Safety

section
variable {t : Capture} {pitch roll : Byte} {s u : State}

theorem periodDriven_partTime (t : Capture) (pitch roll : Byte) (s : State) :
    (periodDriven t pitch roll s).partTime = s.partTime := by
  have hperiod : (controlPeriod t pitch roll s).partTime = s.partTime := by simp
  rw [controlPeriod_driven] at hperiod
  have hstalls : (latch (judgeStall .right (judgeStall .left (periodDriven t pitch roll s)))).partTime =
      (periodDriven t pitch roll s).partTime := by simp
  exact hstalls.symm.trans hperiod

theorem controlPeriod_wheels (t : Capture) (pitch roll : Byte) (s : State) :
    (controlPeriod t pitch roll s).drive.wheels = (periodDriven t pitch roll s).drive.wheels := by
  rw [controlPeriod_driven]
  generalize periodDriven t pitch roll s = x
  exact stallsJudged_wheels x

theorem choose_unarmed {z : State} (hm : z.guard.machine ≠ .armed) (cap : Nat) (p : Option Pair) (r : Request) :
    z.choose cap p r = (.zero, (0, 0)) := by
  unfold State.choose
  exact if_pos (by simp [State.armed, hm])

/-- A wheel that stands and is asked for nothing has no duty. -/
theorem driveBy_rest {accel kf ki : Nat} {w : WheelState} (h : (WheelState.driveBy accel kf ki 0 w).measured = 0) :
    (WheelState.driveBy accel kf ki 0 w).duty = 0 := by
  have htarget : (WheelState.driveBy accel kf ki 0 w).target = 0 := by
    rw [driveBy_eq_update]
    exact (rateLimit_limited accel 0 w.target).trans (limited_zero _ _)
  obtain ⟨hstands, -⟩ := driveBy_duty accel kf ki 0 (w := w) rfl
  exact (hstands ⟨htarget, h⟩).2

/-- A wheel that stands at a duty belongs to an ARMED machine, for any other chooses 0 (R72, R75). -/
theorem blocked_armed {j : LR} (h : Blocked (periodDriven t pitch roll s) j) :
    (periodDriven t pitch roll s).guard.machine = .armed := by
  by_contra hm
  have hsettled : (periodChosen (periodTravel t s) (periodJudged t pitch roll s)).1.state.guard.machine ≠ .armed := by
    rw [← settled_machine]
    exact fun harmed => hm ((congrArg Guard.machine (periodDriven_blocks t pitch roll s).guard).trans harmed)
  have hchoice : periodChoice t pitch roll s = (.zero, (0, 0)) := choose_unarmed hsettled _ _ _
  obtain ⟨hduty, hspeed⟩ := h
  have hpair : pairOf (periodChoice t pitch roll s).2 j = 0 := by
    rw [hchoice]
    cases j <;> rfl
  rw [← controlPeriod_wheels, controlPeriod_wheel, hpair] at hduty hspeed
  rw [driveBy_rest hspeed] at hduty
  exact absurd hduty (by decide)

/-- Steps 1 to 7 leave the entries and the stalls of a machine that stays ARMED. -/
theorem periodDriven_relisted (h : CalmPeriod s pitch roll)
    (hm : (periodDriven t pitch roll (stamped t s)).guard.machine = .armed) :
    (periodDriven t pitch roll (stamped t s)).contact.list.map unjudged = s.contact.list.map unjudged ∧
      (periodDriven t pitch roll (stamped t s)).contact.stall = s.contact.stall := by
  obtain ⟨hlist, -, -, hstall, -⟩ := periodDriven_contact t pitch roll (stamped t s)
  obtain ⟨hmachine, -⟩ := settled_machine_wheels (periodTravel t (stamped t s)) (periodJudged t pitch roll (stamped t s))
  have harmed : (periodJudged t pitch roll (stamped t s)).guard.machine = .armed :=
    hmachine.symm.trans ((congrArg Guard.machine (periodDriven_blocks t pitch roll (stamped t s)).guard).symm.trans hm)
  obtain ⟨hcontact, -⟩ := periodJudged_contact h harmed
  have hsettled := relisted_settled (periodTravel t (stamped t s)) (periodJudged t pitch roll (stamped t s))
  have hentries := hsettled.entries
  have hsensors := hsettled.sensors
  simp only [sensors, Prod.mk.injEq] at hsensors
  rw [hcontact, calmTravelled_reflex] at hentries hsensors
  exact ⟨(congrArg (List.map unjudged) hlist).trans hentries, hstall.trans hsensors.2.2.2.2.2.2⟩

theorem blocked_congr {x y : State} {j : LR} (h : y.drive.wheels = x.drive.wheels) : Blocked y j ↔ Blocked x j := by
  unfold Blocked
  rw [h]

/-- The Contact Unit and the wheels after the period. -/
theorem period_stalls (hran : Ran s (controlPeriod t pitch roll (stamped t s)) u) :
    u.contact = (stallsJudged (periodDriven t pitch roll (stamped t s))).contact ∧
      u.drive = (stallsJudged (periodDriven t pitch roll (stamped t s))).drive ∧
      ∀ j, Blocked u j ↔ Blocked (periodDriven t pitch roll (stamped t s)) j := by
  obtain ⟨-, -, -, -, -, hdrive, -, -, -, hcontact, -⟩ := hran.blocks
  rw [controlPeriod_driven] at hdrive hcontact
  generalize periodDriven t pitch roll (stamped t s) = x at hdrive hcontact ⊢
  exact ⟨hcontact, hdrive, fun j => blocked_congr ((congrArg Drive.wheels hdrive).trans (stallsJudged_wheels x))⟩

/-- A ROLL's request leaves the state (R81). -/
theorem requestStep_roll {y : State} {seg : Segment} (ha : y.plan.active = some seg) (hk : seg.fields.kind = 1) (cap : Nat) :
    requestStep cap y = (y, if y.drive.suspended then .nothing else .pair (y.rollPair seg.fields cap) false) := by
  have hrequest : kindRequest false cap y = (y, y.basicRequest (y.rollPair seg.fields cap)) := by
    unfold kindRequest
    rw [ha]
    simp only [kind?_iff (k := .roll).2 hk]
  unfold requestStep
  rw [hrequest]
  unfold State.basicRequest
  cases y.drive.suspended <;> rfl

/-- A ROLL that runs on reaches the stalls as it is. -/
theorem periodDriven_rolling {seg : Segment} (h : CalmPeriod s pitch roll) (ha : s.plan.active = some seg)
    (hk : seg.fields.kind = 1) (hends : ¬ BasicEnds s seg) (hl : s.contact.list = []) (hq : s.contact.stage = .quiet) :
    (periodDriven t pitch roll (stamped t s)).plan = s.plan ∧ (periodDriven t pitch roll (stamped t s)).contact.list = [] ∧
      (periodDriven t pitch roll (stamped t s)).contact.stage = .quiet := by
  have hnone : ∀ g, s.plan.active = some g → ¬ BasicEnds s g := fun g hg => by
    rw [ha] at hg
    cases hg
    exact hends
  have hbegun := calmBegun (t := t) h hnone
  obtain ⟨-, -, -, -, -, hplan, -⟩ := calm_run hbegun ha
  have hleaves := congrArg State.contact hbegun.leaves
  have hcontact := hleaves.trans (calmTravelled_reflex t (stamped t s))
  have hquiet : (periodJudged t pitch roll (stamped t s)).contact.stage = .quiet := by rw [hcontact]; exact hq
  obtain ⟨hlist, hstage, -⟩ := periodDriven_contact t pitch roll (stamped t s)
  have hactive : (periodJudged t pitch roll (stamped t s)).plan.active = some seg := by rw [hplan, ha]
  obtain ⟨r, hrequest⟩ : ∃ r, requestStep (periodJudged t pitch roll (stamped t s)).gov.cap
      (periodJudged t pitch roll (stamped t s)) = (periodJudged t pitch roll (stamped t s), r) := by
    generalize periodJudged t pitch roll (stamped t s) = y at hplan hactive
    exact ⟨_, requestStep_roll hactive hk y.gov.cap⟩
  obtain ⟨hsettled, -⟩ := quiet_choice hquiet hrequest
  rw [hsettled] at hlist hstage
  refine ⟨(periodDriven_blocks t pitch roll (stamped t s)).plan.trans ((congrArg State.plan hsettled).trans hplan), ?_,
    hstage.trans hquiet⟩
  rw [hlist, hcontact]
  exact hl

/-! ### The clauses of O26 -/

section
variable (h : CalmPeriod s pitch roll) (hran : Ran s (controlPeriod t pitch roll (stamped t s)) u) {j : LR}
include hran

theorem stall_after : u.contact.stall.get j = stallAfter j (periodDriven t pitch roll (stamped t s)) := by
  obtain ⟨hcontact, -, -⟩ := period_stalls hran
  rw [hcontact]
  exact stallsJudged_get _ j

theorem stall_free (hfree : ¬ Blocked u j) : u.contact.stall.get j = none := by
  obtain ⟨-, -, hsame⟩ := period_stalls hran
  rw [stall_after hran]
  exact if_neg fun hstands => hfree ((hsame j).2 hstands.2)

include h

/-- A wheel that stands after the period: since when it has stood. -/
theorem stall_stands (hblocked : Blocked u j) :
    u.contact.stall.get j = stallNoted s.partTime (s.contact.stall.get j) := by
  obtain ⟨-, -, hsame⟩ := period_stalls hran
  have hdriven := (hsame j).1 hblocked
  have hm := blocked_armed hdriven
  obtain ⟨-, hstall⟩ := periodDriven_relisted h hm
  have hpart : (periodDriven t pitch roll (stamped t s)).partTime = s.partTime := periodDriven_partTime _ _ _ _
  rw [stall_after hran, stallAfter, if_pos ⟨hm, hdriven⟩, hstall, hpart]

theorem stall_listed {a : Time} (hblocked : Blocked u j) (hstart : s.contact.stall.get j = some a)
    (hlong : 300 ≤ since s.partTime a) (hl : s.contact.list.length ≤ 8) :
    Listed (stallSource j) none s.partTime u.contact.list := by
  obtain ⟨hcontact, -, hsame⟩ := period_stalls hran
  have hdriven := (hsame j).1 hblocked
  have hm := blocked_armed hdriven
  obtain ⟨hentries, hstall⟩ := periodDriven_relisted h hm
  have hpart : (periodDriven t pitch roll (stamped t s)).partTime = s.partTime := periodDriven_partTime _ _ _ _
  have hlength : (periodDriven t pitch roll (stamped t s)).contact.list.length ≤ 8 := by
    have hmapped := congrArg List.length hentries
    simp only [List.length_map] at hmapped
    omega
  rw [hcontact, ← hpart]
  exact stallsJudged_listed hm hdriven ((congrArg (fun w => Two.get w j) hstall).trans hstart) (by rw [hpart]; exact hlong) hlength

/-- The stall of a ROLL that has met nothing starts its reflex. -/
theorem stall_starts {a : Time} {seg : Segment} (hblocked : Blocked u j) (hstart : s.contact.stall.get j = some a)
    (hlong : 300 ≤ since s.partTime a) (ha : s.plan.active = some seg) (hk : seg.fields.kind = 1) (hends : ¬ BasicEnds s seg)
    (hrun : s.plan.state = .running) (hl : s.contact.list = []) (hq : s.contact.stage = .quiet)
    (htrap : 2 ≤ s.plan.applied.trapCount) (halone : ∀ k, k ≠ j → s.contact.stall.get k = none) :
    StartsStalled seg (stallSource j) { s with drive := u.drive, contact := u.contact } u := by
  obtain ⟨hcontact, hdrive, hsame⟩ := period_stalls hran
  have hdriven := (hsame j).1 hblocked
  have hm := blocked_armed hdriven
  obtain ⟨-, hstall⟩ := periodDriven_relisted h hm
  have hpart : (periodDriven t pitch roll (stamped t s)).partTime = s.partTime := periodDriven_partTime _ _ _ _
  obtain ⟨hplan, hempty, hquiet⟩ := periodDriven_rolling (t := t) h ha hk hends hl hq
  generalize periodDriven t pitch roll (stamped t s) = x at *
  have hsonar : (stallsJudged x).contact.sonar = x.contact.sonar := judgeStall_sonar.trans judgeStall_sonar
  have hpose : u.drive = { x.drive with suspended := u.drive.suspended } := by
    rw [hdrive]
    exact (contacted_periodStalls x).drive
  have hplace : u.drive.x = x.drive.x ∧ u.drive.y = x.drive.y ∧ u.drive.heading = x.drive.heading := by
    rw [hpose]
    exact ⟨rfl, rfl, rfl⟩
  obtain ⟨hx, hy, hheading⟩ := hplace
  have hstarts := stallsJudged_starts hm hdriven ((congrArg (fun w => Two.get w j) hstall).trans hstart)
    (by rw [hpart]; exact hlong) (fun k hk => (congrArg (fun w => Two.get w k) hstall).trans (halone k hk)) hempty hquiet
    (by rw [hplan]; exact hrun) (by rw [hplan]; exact ha) hk (by rw [hplan]; exact htrap)
  obtain ⟨hlist, hstage, hsuspended, hrecord⟩ := hstarts
  rw [← hcontact, hpart] at hlist hrecord
  rw [← hcontact] at hstage
  rw [← hdrive] at hsuspended
  rw [← hx, ← hy, ← hheading] at hlist
  rw [← hsonar, ← hcontact] at hrecord
  exact ⟨hlist, hstage, hsuspended, hrecord⟩

end

end

end Sys2Proof.Proofs
end

section
/-! SUPPORT. The bump's events as O26 states them (R137, R142, R147). -/

namespace Sys2Proof.Proofs

open Sys2Proof.Machine Sys2Proof.Safety

/-! ### An event that the contact list alone shows (R145, R195) -/

theorem startMirrors_listed {a b : State} (hl : loopMirrorChanged a b = false) (hp : a.parked = b.parked)
    (hn : b.causes.loopTable = false) {x : Nat} (hx : x ≠ 0x200) : (startMirrors false a b).word x = b.word x := by
  unfold startMirrors
  simp only [hl, hp, hn, Bool.or_false, Bool.false_eq_true, if_false, if_true]
  split
  · exact startRefresh_word .contactList b hx
  · rfl

/-- The count of a segment's contacts saturates (R52). -/
theorem counting_eq (seg : Segment) : counting seg = { seg with
    contacts := if seg.contacts < 65535 then seg.contacts + 1 else 65535 } := by
  have hcount : satAdd 65535 seg.contacts 1 = if seg.contacts < 65535 then seg.contacts + 1 else 65535 := by
    rw [satAdd_eq_min]
    split <;> omega
  exact congrArg (fun n => { seg with contacts := n }) hcount

theorem recapture_eq (latest captured : Option Nat) :
    recapture latest captured = if latest.isSome = true then latest else captured := by
  cases latest <;> rfl

/-- The entry of a ROLL's bump. -/
def bumpFirst (i : LR) (seg : Segment) (s : State) : Entry :=
  ⟨s.partTime, bumpSource i, Int.tdiv s.drive.x 256, Int.tdiv s.drive.y 256, s.drive.heading, none, some seg.slot, none⟩

/-- A ROLL's bump has started its reflex. -/
def bumpStarted (i : LR) (seg : Segment) (s : State) : State := { s with
  plan := { s.plan with active := some (counting seg) }
  drive := { s.drive with suspended := true }
  contact := { s.contact with
    bump := s.contact.bump.set i .closed, bumpTimer := s.contact.bumpTimer.set i none
    list := [bumpFirst i seg s]
    stage := .stopping
    record := ⟨s.partTime, seg.activation, bumpSource i,
      ⟨s.contact.sonar.left.range, s.contact.sonar.right.range⟩, none, s.partTime, 0, 0, 0, 0⟩ } }

section
variable {i : LR} {s : State} (hr : s.resetting = none)
include hr

theorem exec_bump_still (hd : ∀ e, s.contact.bumpTimer.get i = some e → due s.partTime e = false) :
    exec (.bumpDebounceExpiry i) s = .next s :=
  congrArg Host.Outcome.next (event_still hr (if_neg (by
    rw [show dueOpt s.partTime (s.contact.bumpTimer.get i) = false from dueOpt_false hd]
    decide)))

variable {e : Time} (he : s.contact.bumpTimer.get i = some e) (hd : due s.partTime e = true)
  (hm : s.guard.machine = .armed)
include he hd hm

/-- A bump of the ARMED machine is listed, and the sensors and the machine stand. -/
theorem exec_bump_listed (hl : s.contact.list.length ≤ 8) : ∃ u entry, exec (.bumpDebounceExpiry i) s = .next u ∧
    u.contact.bump = s.contact.bump.set i .closed ∧ u.contact.bumpTimer = s.contact.bumpTimer.set i none ∧
    u.contact.list.getLast? = some entry ∧ entry.sources &&& bumpSource i = bumpSource i ∧
    since s.partTime entry.time ≤ 50 ∧ u.contact.list.length ≤ 8 ∧ u.timebase = s.timebase ∧ u.partTime = s.partTime ∧
    u.pins = s.pins ∧ u.recv = s.recv ∧ u.gov = s.gov ∧ u.guard.machine = .armed := by
  obtain ⟨u, hexec, hran⟩ := exec_bump_armed hr he hd hm
  obtain ⟨utimebase, upart, urecv, -, -, -, -, ugov, -, ucontact, uguard, -, -, upins⟩ := hran.blocks
  obtain ⟨entry, hlast, hsources, -, htime, hmost⟩ := formContact_listed (src := bumpSource i) (range := none)
    (s := bumped i s) hl
  have hsensors := formContact_sensors (bumpSource i) none (bumped i s)
  simp only [sensors, Prod.mk.injEq] at hsensors
  obtain ⟨hbump, htimer, -⟩ := hsensors
  have hframe := formContact_frame (bumpSource i) none (bumped i s)
  obtain ⟨ftimebase, fpart, -, fpins, frecv, fgov, -, -, fmachine, -⟩ := hframe
  exact ⟨u, entry, hexec, by rw [ucontact]; exact hbump, by rw [ucontact]; exact htimer, by rw [ucontact]; exact hlast,
    hsources, htime, by rw [ucontact]; exact hmost, utimebase.trans ftimebase, upart.trans fpart, upins.trans fpins,
    urecv.trans frecv, ugov.trans fgov, (congrArg Guard.machine uguard).trans (fmachine.trans hm)⟩

omit hr he hd hm in
theorem bumped_starts {seg : Segment} (hl : s.contact.list = []) (hq : s.contact.stage = .quiet)
    (hrun : s.plan.state = .running) (ha : s.plan.active = some seg) (hk : seg.fields.kind = 1)
    (htrap : 2 ≤ s.plan.applied.trapCount) :
    formContact (bumpSource i) none (bumped i s) = { bumpStarted i seg s with causes := Causes.none } := by
  have hslot : (bumped i s).activeSlot = some seg.slot := by simp [State.activeSlot, setBump, ha]
  have hentry : (bumped i s).entryOf (bumpSource i) none = bumpFirst i seg s := by
    rw [State.entryOf, hslot]
    rfl
  have hplan : (firstContact (bumpSource i) none (bumped i s)).plan = { s.plan with active := some (counting seg) } := by
    have hactive : s.plan.active.map counting = some (counting seg) := by rw [ha]; rfl
    exact congrArg (fun a => { s.plan with active := a }) hactive
  have hnumber : (firstContact (bumpSource i) none (bumped i s)).activeNumber = seg.activation := by
    rw [State.activeNumber, hplan]
  have hlisted : (firstContact (bumpSource i) none (bumped i s)).contact.list = [bumpFirst i seg s] :=
    congrArg (fun e => [e]) hentry
  have hfirst : firstContact (bumpSource i) none (bumped i s) = { bumped i s with
      plan := { s.plan with active := some (counting seg) }
      contact := { (bumped i s).contact with list := [bumpFirst i seg s] } } := by
    rw [← hplan, ← hlisted]
    rfl
  rw [formContact_starts (s := bumped i s) hl hq hrun ha hk htrap, hentry, startReflex, hnumber, hfirst]
  rfl

/-- The first contact of a ROLL is listed and starts its reflex; nothing else changes. -/
theorem exec_bump_rolls {seg : Segment} (hl : s.contact.list = []) (hq : s.contact.stage = .quiet)
    (hrun : s.plan.state = .running) (ha : s.plan.active = some seg) (hk : seg.fields.kind = 1)
    (htrap : 2 ≤ s.plan.applied.trapCount) : ∃ u, exec (.bumpDebounceExpiry i) s = .next u ∧
      u = { bumpStarted i seg s with port := u.port, mem := u.mem } ∧ ∀ a, a ≠ 0x200 → u.word a = s.word a := by
  obtain ⟨b, hb⟩ : ∃ b : State, b = { bumpStarted i seg s with causes := Causes.none } := ⟨_, rfl⟩
  have hexpiry : bumpExpiry i { s with causes := Causes.none } = b :=
    (bumpExpiry_due (s := { s with causes := Causes.none }) hm he hd).trans
      ((bumped_starts hl hq hrun ha hk htrap).trans hb.symm)
  have hevent : s.event (bumpExpiry i) = { startMirrors false { s with causes := Causes.none } b with causes := s.causes } := by
    rw [event_running hr, State.noting, hexpiry]
  have hmirrors : loopMirrorChanged { s with causes := Causes.none } b = false := by
    rw [hb]
    exact loopMirrorChanged_false rfl rfl rfl fun _ => rfl
  refine ⟨_, congrArg Host.Outcome.next hevent, ?_, fun a ha => ?_⟩
  · rw [startMirrors_eq_update, hb]
    rfl
  · have hword := startMirrors_listed hmirrors (by rw [hb]; rfl) (by rw [hb]; rfl) ha
    exact hword.trans (by rw [hb]; rfl)

end

end Sys2Proof.Proofs
end

section
/-! SUPPORT. A calm control period of a reflex (R148). -/

namespace Sys2Proof.Proofs

open Sys2Proof.Machine Sys2Proof.Safety

/-! ### The record that step 5 reads (R148) -/

/-- The reflex's record with the period's travel. -/
def travelledRecord (s : State) : ReflexRecord :=
  match s.contact.stage with
  | .backing => { s.contact.record with distance := s.contact.record.distance + (meanTravel s).natAbs }
  | .turning => { s.contact.record with turned := s.contact.record.turned + headingTravel s }
  | .quiet => s.contact.record
  | .stopping => s.contact.record

theorem reflexTravel_record {v : Travel} {x s : State} (hx : x.contact = s.contact) (hv : v = ⟨meanTravel s, headingTravel s⟩) :
    (reflexTravel v x).contact.record = travelledRecord s := by
  unfold reflexTravel travelledRecord
  rw [hv]
  cases hs : s.contact.stage <;> simp [hx, hs]

theorem calmTravelled_record (t : Capture) (s : State) : (calmTravelled t s).contact.record = travelledRecord s := by
  have hcontact : (dockTravel (periodTravel t s) (periodTravelled t s)).contact = s.contact := by
    rw [dockTravel_eq_update, periodTravelled_eq_update]
  exact reflexTravel_record hcontact (periodTravel_eq t s)

/-! ### The period by what the reflex makes of step 5 -/

/-- What the reflex makes of a period in which the active kind requests nothing. -/
abbrev reflexOut (s y : State) : ReflexOut := reflexStep y.gov.cap ⟨meanTravel s, headingTravel s⟩ y

theorem choose_reflex {z : State} (hm : z.guard.machine = .armed) (cap : Nat) (p : Pair) :
    (z.choose cap (some p) .nothing).2 = if cap = 0 then (0, 0) else p := by
  unfold State.choose
  by_cases hcap : cap = 0
  · simp [hcap]
  · simp [State.armed, hm, hcap]

/-- What step 5 begins with in a period of a reflex. -/
structure ReflexBegun (s y : State) : Prop where
  machine : y.guard.machine = .armed
  plan : y.plan = s.plan
  suspended : y.drive.suspended = s.drive.suspended
  part : y.partTime = s.partTime
  contact : y.contact = { s.contact with record := travelledRecord s }
  loops : y.loops = s.loops
  mem : y.mem = s.mem
  sense : y.dock.sense = s.dock.sense

/-- A period by the reflex's part of step 5. -/
structure ReflexDriven (s y u : State) : Prop where
  machine : u.guard.machine = .armed
  gov : u.gov = y.gov
  speed : ∀ i, (u.drive.wheels.get i).measured = (y.drive.wheels.get i).measured
  undisturbed : Undisturbed (ReflexOut.settled (reflexOut s y)) u
  list : u.contact.list = (ReflexOut.settled (reflexOut s y)).contact.list
  record : u.contact.record = (ReflexOut.settled (reflexOut s y)).contact.record
  drive : u.drive = { (ReflexOut.settled (reflexOut s y)).drive with
    choice := u.drive.choice, wheels := u.drive.wheels, motion := u.drive.motion, suspended := u.drive.suspended }
  takes : ∀ p, (reflexOut s y).pair = some p → Takes s u p
  rests : (reflexOut s y).pair = none → AtRest u

section
variable {t : Capture} {pitch roll : Byte} {s : State}

theorem reflexBegun {y : State} (h : CalmBegun t (stamped t s) y) (hm : s.guard.machine = .armed) : ReflexBegun s y := by
  have hsuspended : (periodTravelled t (stamped t s)).drive.suspended = s.drive.suspended := by
    unfold periodTravelled odometryStep
    dsimp only
    split <;> rfl
  have hcontact : (calmTravelled t (stamped t s)).contact = { s.contact with record := travelledRecord s } :=
    (calmTravelled_reflex t (stamped t s)).trans
      (congrArg (fun r => { s.contact with record := r }) (calmTravelled_record t (stamped t s)))
  have hsense : (calmTravelled t (stamped t s)).dock.sense = s.dock.sense := by
    rw [calmTravelled_eq]
  have hmachine := h.machine
  obtain ⟨hleaves, -⟩ := h
  rw [hcontact] at hleaves
  constructor
  case machine => exact hmachine.trans hm
  all_goals rw [hleaves]
  case suspended => exact hsuspended
  case sense => exact hsense

theorem exec_calm_reflex (h : CalmPeriod s pitch roll) (hends : ∀ seg, s.plan.active = some seg → ¬ BasicEnds s seg)
    (hstall : s.contact.stall = ⟨none, none⟩)
    (hrequest : ∀ y : State, y.plan = s.plan → y.drive.suspended = s.drive.suspended →
      requestStep y.gov.cap y = (y, .nothing)) :
    ∃ y u, exec (.controlPeriod t pitch roll) s = .next u ∧ ReflexBegun s y ∧ ReflexDriven s y u := by
  have hcalmBegun := calmBegun (t := t) h hends
  have hbegun := reflexBegun hcalmBegun h.2.2.1
  have hran := exec_controlPeriod_due (t := t) (pitch := pitch) (roll := roll) h.1 h.2.1
  have hwheel := hcalmBegun.wheel
  have hnothing := hrequest _ hbegun.plan hbegun.suspended
  have hsettledEq : periodSettled t pitch roll (stamped t s) =
      ReflexOut.settled (periodChosen (periodTravel t (stamped t s)) (periodJudged t pitch roll (stamped t s))).1 := rfl
  have hchoiceEq : periodChoice t pitch roll (stamped t s) =
      (periodChosen (periodTravel t (stamped t s)) (periodJudged t pitch roll (stamped t s))).1.state.choose
        (periodJudged t pitch roll (stamped t s)).gov.cap
        (periodChosen (periodTravel t (stamped t s)) (periodJudged t pitch roll (stamped t s))).1.pair
        (periodChosen (periodTravel t (stamped t s)) (periodJudged t pitch roll (stamped t s))).2 := rfl
  have hsteady := settled_machine_wheels (periodTravel t (stamped t s)) (periodJudged t pitch roll (stamped t s))
  have hrelisted := relisted_settled (periodTravel t (stamped t s)) (periodJudged t pitch roll (stamped t s))
  have htravel : periodTravel t (stamped t s) = ⟨meanTravel s, headingTravel s⟩ := periodTravel_eq t (stamped t s)
  have hdriving := driving hran
  have hundisturbed := undisturbed_first hran
  refine ⟨periodJudged t pitch roll (stamped t s), _, rfl, hbegun, ?_⟩
  generalize s.event (fun a => controlExpiry t pitch roll (a.atTime t)) = u at *
  generalize periodChoice t pitch roll (stamped t s) = c at *
  generalize periodSettled t pitch roll (stamped t s) = z at *
  generalize periodJudged t pitch roll (stamped t s) = y at *
  have hchosen : periodChosen (periodTravel t (stamped t s)) y = (reflexOut s y, .nothing) := by
    unfold periodChosen
    rw [hnothing, htravel]
  rw [hchosen] at hsettledEq hchoiceEq hsteady hrelisted
  subst hsettledEq
  subst hchoiceEq
  obtain ⟨zmachine, zwheels, zgov⟩ := hsteady
  have hsensors := hrelisted.sensors
  simp only [sensors, Prod.mk.injEq, hbegun.contact] at hsensors
  obtain ⟨hquiet, hlist, hrecord⟩ := hundisturbed (hsensors.2.2.2.2.2.2.trans hstall)
  have hmachine : (reflexOut s y).state.guard.machine = .armed := by
    rw [← settled_machine]
    exact zmachine.trans hbegun.machine
  constructor
  case machine => exact (congrArg Guard.machine hdriving.guard).trans (zmachine.trans hbegun.machine)
  case gov => exact hdriving.gov.trans zgov
  case speed =>
    intro i
    rw [hdriving.speed, zwheels]
  case undisturbed => exact hquiet
  case list => exact hlist
  case record => exact hrecord
  case drive =>
    have hdrive := hdriving.drive
    have hchoice := congrArg Drive.choice hdrive
    generalize u.drive = d at hdrive hchoice ⊢
    rw [hchoice]
    exact hdrive
  case takes =>
    intro p hp
    refine hdriving.takes (fun i => ?_) ?_
    · rw [zwheels]
      exact hwheel i
    · rw [hp, zgov]
      exact choose_reflex hmachine _ p
  case rests =>
    intro hp
    refine hdriving.rests ?_
    rw [hp, choose_rest (.inl rfl)]

end

end Sys2Proof.Proofs
end

section
/-! SUPPORT. The stages of a reflex, control period by control period (R148, R149). -/

namespace Sys2Proof.Proofs

open Sys2Proof.Machine Sys2Proof.Safety

theorem atRest_of_takes {s u : State} (h : Takes s u (0, 0)) : AtRest u := by
  obtain ⟨hleft, hright⟩ := h
  rw [limited_zero, ite_self] at hleft hright
  exact ⟨hleft, hright⟩

/-- The still time after a stage's period (R148). -/
theorem stillAfter_eq (cap still : Nat) (moves : Prop) [Decidable moves] : stillAfter cap (decide moves) still =
    if cap = 0 then still else if moves then 0 else still + 10 := by simp [stillAfter]

theorem travelledRecord_stopping {s : State} (h : s.contact.stage = .stopping) : travelledRecord s = s.contact.record := by
  simp [travelledRecord, h]

theorem travelledRecord_backing {s : State} (h : s.contact.stage = .backing) : travelledRecord s =
    { s.contact.record with distance := s.contact.record.distance + (meanTravel s).natAbs } := by
  simp [travelledRecord, h]

theorem travelledRecord_turning {s : State} (h : s.contact.stage = .turning) : travelledRecord s =
    { s.contact.record with turned := s.contact.record.turned + headingTravel s } := by
  simp [travelledRecord, h]

theorem ReflexBegun.reflex {s y : State} (h : ReflexBegun s y) :
    y.contact.stage = s.contact.stage ∧ y.contact.record = travelledRecord s := by
  rw [h.contact]
  exact ⟨rfl, rfl⟩

/-- A stage that stood still for 2000 ms has trapped the machine (R148, R153). -/
def StillTrapped (u : State) (seg : Segment) : Prop :=
  u.contact.stage = .quiet ∧ u.plan.state = .held ∧ Over u seg slotCut 12 ∧ AtRest u ∧ u.notice.reflex.status = 2 ∧
    u.notice.reflex.details = [3]

section
variable {s y u : State} {seg : Segment} (hb : ReflexBegun s y) (hd : ReflexDriven s y u)
include hb hd

omit hb in
/-- A stage that ends or runs on with a pair of its own. -/
theorem stage_takes {z : State} {p : Pair} (hout : reflexOut s y = ⟨z, some p, false⟩) :
    u.contact.stage = z.contact.stage ∧ u.contact.record = z.contact.record ∧ Takes s u p := by
  have hsettled : ReflexOut.settled (reflexOut s y) = z := by rw [hout]; rfl
  have hstage := hd.undisturbed.stage
  have hrecord := hd.record
  rw [hsettled] at hstage hrecord
  exact ⟨hstage, hrecord, hd.takes p (by rw [hout])⟩

theorem stage_runs {moved : Bool} {p : Pair} (ha : s.plan.active = some seg)
    (hout : reflexOut s y = runStage y.gov.cap moved p y) :
    (stillAfter u.gov.cap moved y.contact.record.still < 2000 → u.contact.stage = y.contact.stage ∧ Takes s u p ∧
      u.contact.record = { y.contact.record with still := stillAfter u.gov.cap moved y.contact.record.still }) ∧
    (2000 ≤ stillAfter u.gov.cap moved y.contact.record.still → StillTrapped u seg) := by
  rw [hd.gov]
  constructor
  · intro hlow
    have hruns : runStage y.gov.cap moved p y = ⟨{ y with contact := { y.contact with record := { y.contact.record with
        still := stillAfter y.gov.cap moved y.contact.record.still } } }, some p, false⟩ := if_neg (Nat.not_le.2 hlow)
    obtain ⟨hstage, hrecord, htakes⟩ := stage_takes hd (hout.trans hruns)
    exact ⟨hstage, htakes, hrecord⟩
  · intro hlong
    obtain ⟨x, hx⟩ : ∃ x : State, x = { y with contact := { y.contact with record := { y.contact.record with
        still := stillAfter y.gov.cap moved y.contact.record.still } } } := ⟨_, rfl⟩
    have htrap : reflexOut s y = ⟨takeTrap .still x, none, false⟩ := by
      rw [hout, hx]
      exact if_pos hlong
    have hsettled : ReflexOut.settled (reflexOut s y) = takeTrap .still x := by rw [htrap]; rfl
    have hactive : x.plan.active = some seg := by
      rw [hx]
      exact (congrArg Plan.active hb.plan).trans ha
    have hmachine : x.guard.machine = .armed := by
      rw [hx]
      exact hb.machine
    obtain ⟨htrapped, -⟩ := (takesTrap (c := .still) hmachine).trapped hactive
    obtain ⟨hquiet, hheld, -, hover, hstatus, hdetails⟩ := htrapped
    have hsame := hd.undisturbed
    have hrest := hd.rests (by rw [htrap])
    rw [hsettled] at hsame
    exact ⟨hsame.stage.trans hquiet, (congrArg Plan.state hsame.plan).trans hheld, over_undisturbed hover hsame, hrest,
      (congrArg (fun n : Notices => n.reflex.status) hsame.notice).trans hstatus,
      (congrArg (fun n : Notices => n.reflex.details) hsame.notice).trans hdetails⟩

/-! ### STOPPING (R148) -/

/-- STOPPING's end: both wheels stand, or 300 ms have passed. -/
abbrev StoppingOver (s u : State) : Prop := u.drive.wheels.left.measured = 0 ∧ u.drive.wheels.right.measured = 0 ∨
  300 ≤ since s.partTime s.contact.record.stageEntry

theorem stopping_out (hs : s.contact.stage = .stopping) : reflexOut s y = if StoppingOver s u then
    ⟨enterBacking y, some (backPair y.gov.cap), false⟩ else ⟨y, some (0, 0), false⟩ := by
  obtain ⟨hstage, hrecord⟩ := hb.reflex
  have hentry : y.contact.record = s.contact.record := hrecord.trans (travelledRecord_stopping hs)
  have hleft : y.drive.wheels.left.measured = u.drive.wheels.left.measured := (hd.speed .left).symm
  have hright : y.drive.wheels.right.measured = u.drive.wheels.right.measured := (hd.speed .right).symm
  have hover : (decide (y.drive.wheels.left.measured = 0) && decide (y.drive.wheels.right.measured = 0) ||
      decide (300 ≤ since y.partTime y.contact.record.stageEntry)) = true ↔ StoppingOver s u := by
    rw [hentry, hleft, hright, hb.part]
    simp [StoppingOver]
  rw [reflexOut, reflexStep, hstage, hs]
  exact if_congr hover rfl rfl

theorem stopping_ends (hs : s.contact.stage = .stopping) (h : StoppingOver s u) :
    u.contact.stage = .backing ∧ u.contact.record = { s.contact.record with stageEntry := s.partTime, still := 0 } ∧
      Takes s u (backPair u.gov.cap) := by
  have hrecord := hb.reflex.2.trans (travelledRecord_stopping hs)
  obtain ⟨ustage, urecord, htakes⟩ := stage_takes hd ((stopping_out hb hd hs).trans (if_pos h))
  refine ⟨ustage, urecord.trans ?_, hd.gov ▸ htakes⟩
  rw [← hrecord, ← hb.part]
  rfl

theorem stopping_waits (hs : s.contact.stage = .stopping) (h : ¬ StoppingOver s u) :
    u.contact.stage = .stopping ∧ u.contact.record = s.contact.record ∧ AtRest u := by
  have hrecord := hb.reflex.2.trans (travelledRecord_stopping hs)
  obtain ⟨ustage, urecord, htakes⟩ := stage_takes hd ((stopping_out hb hd hs).trans (if_neg h))
  exact ⟨ustage.trans (hb.reflex.1.trans hs), urecord.trans hrecord, atRest_of_takes htakes⟩

/-! ### BACKING (R148, R149) -/

theorem backing_ends (hs : s.contact.stage = .backing)
    (h : s.plan.applied.reflexBack ≤ (s.contact.record.distance + (meanTravel s).natAbs) / 256) :
    u.contact.stage = .turning ∧
      Takes s u (turnAside u.gov.cap (some (turnDirection s.contact.record.hits s.contact.record.ranges))) ∧
      u.contact.record = { s.contact.record with
        distance := s.contact.record.distance + (meanTravel s).natAbs, stageEntry := s.partTime, still := 0, turned := 0
        turn := some (turnDirection s.contact.record.hits s.contact.record.ranges) } := by
  obtain ⟨hstage, hrecord⟩ := hb.reflex
  rw [travelledRecord_backing hs] at hrecord
  have hout : reflexOut s y = ⟨enterTurning y, some (turnAside y.gov.cap (enterTurning y).contact.record.turn), false⟩ := by
    rw [reflexOut, reflexStep, hstage, hs]
    refine if_pos ?_
    rw [hb.plan, hrecord]
    exact h
  obtain ⟨ustage, urecord, htakes⟩ := stage_takes hd hout
  have hturning : (enterTurning y).contact.record = { s.contact.record with
        distance := s.contact.record.distance + (meanTravel s).natAbs, stageEntry := s.partTime, still := 0, turned := 0
        turn := some (turnDirection s.contact.record.hits s.contact.record.ranges) } := by
    unfold enterTurning
    rw [hrecord, hb.part]
  rw [hturning] at htakes urecord
  exact ⟨ustage, hd.gov ▸ htakes, urecord⟩

theorem backing_runs (ha : s.plan.active = some seg) (hs : s.contact.stage = .backing)
    (h : (s.contact.record.distance + (meanTravel s).natAbs) / 256 < s.plan.applied.reflexBack) :
    (stillAfter u.gov.cap (decide (meanTravel s ≠ 0)) s.contact.record.still < 2000 →
      u.contact.stage = .backing ∧ Takes s u (backPair u.gov.cap) ∧ u.contact.record = { s.contact.record with
        distance := s.contact.record.distance + (meanTravel s).natAbs
        still := stillAfter u.gov.cap (decide (meanTravel s ≠ 0)) s.contact.record.still }) ∧
    (2000 ≤ stillAfter u.gov.cap (decide (meanTravel s ≠ 0)) s.contact.record.still → StillTrapped u seg) := by
  obtain ⟨hstage, hrecord⟩ := hb.reflex
  rw [travelledRecord_backing hs] at hrecord
  have hout : reflexOut s y = runStage y.gov.cap (decide (meanTravel s ≠ 0)) (backPair y.gov.cap) y := by
    rw [reflexOut, reflexStep, hstage, hs]
    refine if_neg ?_
    rw [hb.plan, hrecord]
    exact Nat.not_le.2 h
  have hruns := stage_runs hb hd ha hout
  rw [hrecord, hstage, hs, ← hd.gov] at hruns
  exact hruns

/-! ### TURNING (R148, R149) -/

theorem turning_runs (ha : s.plan.active = some seg) (hs : s.contact.stage = .turning)
    (h : (s.contact.record.turned + headingTravel s).natAbs < s.plan.applied.reflexTurn) :
    (stillAfter u.gov.cap (decide (headingTravel s ≠ 0)) s.contact.record.still < 2000 →
      u.contact.stage = .turning ∧ Takes s u (turnAside u.gov.cap s.contact.record.turn) ∧
        u.contact.record = { s.contact.record with
          turned := s.contact.record.turned + headingTravel s
          still := stillAfter u.gov.cap (decide (headingTravel s ≠ 0)) s.contact.record.still }) ∧
    (2000 ≤ stillAfter u.gov.cap (decide (headingTravel s ≠ 0)) s.contact.record.still → StillTrapped u seg) := by
  obtain ⟨hstage, hrecord⟩ := hb.reflex
  rw [travelledRecord_turning hs] at hrecord
  have hout : reflexOut s y = runStage y.gov.cap (decide (headingTravel s ≠ 0))
      (turnAside y.gov.cap y.contact.record.turn) y := by
    rw [reflexOut, reflexStep, hstage, hs]
    refine if_neg ?_
    rw [hb.plan, hrecord]
    exact Nat.not_le.2 h
  have hruns := stage_runs hb hd ha hout
  rw [hrecord, hstage, hs, ← hd.gov] at hruns
  exact hruns

/-- TURNING's end ends the reflex, at rest. -/
theorem turning_ends (hs : s.contact.stage = .turning)
    (h : s.plan.applied.reflexTurn ≤ (s.contact.record.turned + headingTravel s).natAbs) :
    ReflexOut.settled (reflexOut s y) = finishReflex y ∧ AtRest u := by
  obtain ⟨hstage, hrecord⟩ := hb.reflex
  rw [travelledRecord_turning hs] at hrecord
  have hout : reflexOut s y = ⟨y, some (0, 0), true⟩ := by
    rw [reflexOut, reflexStep, hstage, hs]
    refine if_pos ?_
    rw [hb.plan, hrecord]
    exact h
  have htakes := hd.takes (0, 0) (by rw [hout])
  rw [hout]
  exact ⟨rfl, atRest_of_takes htakes⟩

end

end Sys2Proof.Proofs
end

section
/-! SUPPORT. A segment's start and end leave the reflex's notice (R67, R151). -/

namespace Sys2Proof.Proofs

open Sys2Proof.Machine Sys2Proof.Safety

/-- The reflex's notice stands. -/
def ReflexUnposted (s t : State) : Prop := t.notice.reflex = s.notice.reflex

theorem ReflexUnposted.refl (s : State) : ReflexUnposted s s := rfl

theorem ReflexUnposted.after {s t u : State} (k : ReflexUnposted t u) (h : ReflexUnposted s t) : ReflexUnposted s u :=
  Eq.trans k h

theorem ReflexUnposted.of_notice {s t : State} (h : t.notice = s.notice) : ReflexUnposted s t := congrArg Notices.reflex h

theorem unposted_post {r : Report} (h : Source.reflex ≠ r.source) (s : State) : ReflexUnposted s (post r s) :=
  post_get_other h s

theorem unposted_handStanding (d : Directive) (s : State) : ReflexUnposted s (handStanding d s) :=
  .of_notice (by simp [handStanding])

theorem unposted_becomeIdle (s : State) : ReflexUnposted s (becomeIdle s) := unposted_handStanding _ _

/-! ### The end of a segment (R51..R55) -/

theorem unposted_closed (seg : Segment) (cause : EndCause) (s : State) : ReflexUnposted s (closed seg cause s) :=
  closed_notice (a := .reflex) s (by decide) (by decide)

theorem unposted_settleEnd (cause : EndCause) (s : State) : ReflexUnposted s (settleEnd cause s).1 := by
  unfold settleEnd
  split
  · exact .refl s
  case h_2 seg _ =>
    refine ReflexUnposted.after ?_ (unposted_closed seg cause s)
    unfold continuePlan
    split
    · split
      · exact .refl _
      · exact (unposted_post (by nofun) _).after (unposted_becomeIdle _)
    · exact (unposted_post (by nofun) _).after (.of_notice (startHold_notice _))
    · exact unposted_becomeIdle _
    · exact .refl _

/-! ### The settings newly staged (R64, R65) -/

theorem unposted_recomputeLoop (n : Loop) (s : State) : ReflexUnposted s (recomputeLoop n s) := by
  unfold recomputeLoop
  dsimp only
  generalize (if entryUnused _ = true then LoopState.unused else _) = st
  split
  · exact .refl s
  · have hposted := unposted_post (r := .loopState n) (by nofun) (noteLoops { s with loops := { s.loops with
        recs := s.loops.recs.set n { s.loops.recs.get n with state := st } } })
    split
    · refine ReflexUnposted.after ?_ hposted
      unfold followNoSignal
      split
      · split <;> exact .refl _
      · exact .refl _
    · exact hposted

theorem unposted_recomputeLoops (s : State) : ReflexUnposted s (recomputeLoops s) :=
  (unposted_recomputeLoop 3 _).after ((unposted_recomputeLoop 2 _).after ((unposted_recomputeLoop 1 _).after
    (unposted_recomputeLoop 0 s)))

theorem unposted_judgeBlade (s : State) : ReflexUnposted s (judgeBlade s) := .of_notice (by simp)

theorem unposted_guardOnClass (s : State) : ReflexUnposted s (guardOnClass s) := by
  have hescape : ReflexUnposted s (if s.loops.posClass = .outsideAll then s
      else { s with guard := { s.guard with escape := 0 } }) := by
    split <;> exact .refl s
  unfold guardOnClass
  dsimp only
  generalize (if s.loops.posClass = .outsideAll then s else _) = escaped at hescape ⊢
  split
  · exact (unposted_judgeBlade _).after ((unposted_post (by nofun) _).after hescape)
  · exact hescape

theorem unposted_recomputeClass (s : State) : ReflexUnposted s (recomputeClass s) := by
  have hposted := unposted_post (r := .positionClass s.computedClass) (by nofun)
    (noteLoops { s with loops := { s.loops with posClass := s.computedClass } })
  unfold recomputeClass bladeOnClass
  dsimp only
  split
  · exact .refl s
  · refine (unposted_guardOnClass _).after ?_
    split
    · exact (unposted_judgeBlade _).after hposted
    · exact hposted

theorem unposted_judgeNear (s : State) : ReflexUnposted s (judgeNear s) := by
  unfold judgeNear
  dsimp only
  split <;> exact .refl s

theorem unposted_applyIfStaged (s : State) : ReflexUnposted s (applyIfStaged s) := by
  obtain ⟨x, hx⟩ : ∃ x : State, x = clearChanged s.plan.applied.loopMap { s with
      plan := { s.plan with applied := Settings.ofList (clampSettings s.stagedValues), appliedGen := s.stageGen }
      mem := s.mem.writeAll (cellsFrom addrApplied ((clampSettings s.stagedValues).map wordN) ++
        [(addrAppliedGenMirror, s.stageGen), (addrAppliedGen, s.stageGen)]) } := ⟨_, rfl⟩
  have hloops : ReflexUnposted s (recomputeLoops x) := (unposted_recomputeLoops x).after (by rw [hx]; exact .refl s)
  unfold applyIfStaged applySettings loopsOnApply
  dsimp only
  rw [← hx]
  split
  · exact .refl s
  · refine (unposted_post (by nofun) _).after ((unposted_judgeNear _).after ?_)
    split
    · exact hloops
    · exact (unposted_recomputeClass _).after hloops

/-! ### Activation (R45..R50) -/

theorem unposted_enterNear (s : State) : ReflexUnposted s (enterNear s) := unposted_post (by nofun) _

theorem unposted_beginKind (seg : Segment) (s : State) : ReflexUnposted s (beginKind seg s) := by
  unfold beginKind
  split
  case h_2 =>
    unfold beginDock
    dsimp only
    split
    · exact .refl s
    · split
      · exact unposted_enterNear _
      · exact .refl s
  all_goals exact .refl s

theorem unposted_handOn (s : State) : ReflexUnposted s (handOn s).1 := by
  have hclamp : ReflexUnposted s (clampActive s) := by
    unfold clampActive
    split <;> exact .refl s
  have hwatch (x : State) : ReflexUnposted x (startWatch x) := by
    unfold startWatch
    split <;> exact .refl x
  unfold handOn
  dsimp only
  split
  · exact hclamp
  case h_2 seg _ =>
    have hbegun := (hwatch _).after ((unposted_handStanding (directiveAfter (clampActive s).plan.standing seg.fields.blade)
      _).after ((unposted_beginKind seg _).after hclamp))
    split
    · exact (unposted_settleEnd _ _).after hbegun
    · exact hbegun

theorem unposted_activateOne (h : Slot) (s : State) : ReflexUnposted s (activateOne h s).1 := by
  unfold activateOne checkCaptured
  split
  · exact unposted_becomeIdle s
  · split
    · exact (unposted_post (by nofun) _).after (.of_notice (startHold_notice _))
    · have hcaptured : ReflexUnposted s (captureSlot h (applyIfStaged s)) := unposted_applyIfStaged s
      split
      · exact hcaptured
      · split
        · exact (unposted_settleEnd _ _).after hcaptured
        · split
          · exact (unposted_settleEnd _ _).after hcaptured
          · exact (unposted_handOn _).after hcaptured

theorem unposted_activateChain (n : Nat) (h : Slot) (s : State) : ReflexUnposted s (activateChain n h s) := by
  induction n generalizing h s with
  | zero => exact .refl s
  | succ n ih =>
    have hone := unposted_activateOne h s
    unfold activateChain
    cases hr : activateOne h s with
    | mk x next =>
      rw [hr] at hone
      cases next with
      | none => exact hone
      | some g => exact (ih g x).after hone

theorem unposted_activate (h : Slot) (s : State) : ReflexUnposted s (activate h s) := unposted_activateChain 49 h s

theorem unposted_endActive (cause : EndCause) (s : State) : ReflexUnposted s (endActive cause s) := by
  have hends := unposted_settleEnd cause s
  unfold endActive goOn
  split
  · exact hends
  · exact (unposted_activate _ _).after hends

/-! ### Resume and the publication of QUIET (R59, R79) -/

theorem unposted_resumeSegment (s : State) : ReflexUnposted s (resumeSegment s) := by
  have hkind (f : Fields) (x : State) : ReflexUnposted x (resumeKind f x) := by
    unfold resumeKind
    split
    case h_3 =>
      split
      · exact unposted_enterNear x
      · exact .refl x
    all_goals exact .refl x
  have hwatch (x : State) : ReflexUnposted x (startWatch x) := by
    unfold startWatch
    split <;> exact .refl x
  unfold resumeSegment
  split
  · exact .refl s
  case h_2 seg _ =>
    have hresumed := hkind seg.fields { s with drive := { s.drive with suspended := false } }
    dsimp only
    split
    · exact (unposted_endActive _ _).after hresumed
    · exact (hwatch _).after hresumed

theorem unposted_publishQuiet (s : State) : ReflexUnposted s (publishQuiet s) := by
  unfold publishQuiet
  split
  · split
    · exact unposted_resumeSegment s
    · exact .refl s
  · split
    · split
      · exact unposted_activate _ s
      · exact .refl s
    · exact .refl s

end Sys2Proof.Proofs
end

section
/-! SUPPORT. The end of a reflex (R151, R57, R79). -/

namespace Sys2Proof.Proofs

open Sys2Proof.Machine Sys2Proof.Safety

/-- The reflex is QUIET. -/
abbrev quieted (s : State) : State := { s with contact := { s.contact with stage := .quiet } }

/-- The end of a reflex before its publication: the outcomes and CONTACT_HANDLED. -/
def reflexHandled (s : State) : State :=
  post (.contactHandled (reportReflex (quieted s)).2) (writeEpisode (reportReflex (quieted s)).2 (reportReflex (quieted s)).1)

theorem finishReflex_eq (s : State) : finishReflex s = publishQuiet (reflexHandled s) := rfl

theorem reflexHandled_contact (s : State) : (reflexHandled s).contact = { s.contact with
    stage := .quiet
    list := judgedEntries s.contact.record.episodeStart (reportReflex (quieted s)).2 s.contact.list } := by
  have hpost (r : Report) (x : State) : (post r x).contact = x.contact := by simp
  have hreport : (reportReflex (quieted s)).1.contact = (quieted s).contact := by simp
  unfold reflexHandled
  generalize reportReflex (quieted s) = r at hreport ⊢
  rw [hpost, writeEpisode, setList, hreport]
  rfl

theorem reflexHandled_notice {s : State} (hm : s.guard.machine = .armed) :
    (reflexHandled s).notice.reflex.status = 1 ∧
      (reflexHandled s).notice.reflex.details = [(reportReflex (quieted s)).2.code] := by
  have hmachine : (reportReflex (quieted s)).1.guard.machine = s.guard.machine := by simp
  unfold reflexHandled
  generalize reportReflex (quieted s) = r at hmachine ⊢
  exact post_status (r := .contactHandled r.2) (s := writeEpisode r.2 r.1) (noticesHeld_armed (hmachine.trans hm))

theorem finishReflex_contact (s : State) : (finishReflex s).contact = (reflexHandled s).contact := by
  rw [finishReflex_eq]
  simp

/-- What the report leaves beside the contact and the notices stands over its posting. -/
structure Handled (x u : State) : Prop where
  plan : u.plan = x.plan
  drive : u.drive = x.drive
  track : u.track = x.track
  dock : u.dock = x.dock
  words : ∀ a, 0x040 ≤ a → u.word a = x.word a

theorem reflexHandled_handled (s : State) : Handled (reportReflex (quieted s)).1 (reflexHandled s) := by
  unfold reflexHandled
  generalize reportReflex (quieted s) = r
  constructor
  case words => exact fun a ha => post_word _ _ (.inr ha)
  all_goals simp [writeEpisode, setList]

theorem Handled.over {x u : State} {seg : Segment} {a b : Word} (h : Handled x u) (k : Over x seg a b) : Over u seg a b := by
  obtain ⟨hnone, hstate, hcause, htrack, hdock, hsuspended⟩ := k
  have hslot := slotBase_ge seg.slot
  exact ⟨(congrArg Plan.active h.plan).trans hnone, (h.words _ (by omega)).trans hstate, (h.words _ (by omega)).trans hcause,
    (congrArg Track.running h.track).trans htrack, (congrArg Dock.run h.dock).trans hdock,
    (congrArg Drive.suspended h.drive).trans hsuspended⟩

/-- The publication changes nothing where no segment is suspended and no head deferred. -/
theorem publishQuiet_over {x : State} (ha : x.plan.active = none) (hs : x.plan.state ≠ .running) : publishQuiet x = x := by
  have hdeferral : x.deferral = false := by simp [State.deferral, hs]
  unfold publishQuiet
  rw [ha]
  cases x.plan.deferred with
  | none => rfl
  | some h => exact if_neg (by rw [hdeferral]; decide)

theorem publishQuiet_running {x : State} {seg : Segment} (ha : x.plan.active = some seg) (hs : x.drive.suspended = false) :
    publishQuiet x = x := by
  unfold publishQuiet
  rw [ha]
  exact if_neg (by rw [hs]; decide)

section
variable {y : State} {seg : Segment} (ha : y.plan.active = some seg) (hact : seg.activation = y.contact.record.activation)
include ha hact

theorem report_known : reportReflex (quieted y) = match seg.fields.onContact? with
    | some .resume => (resumeSegment (quieted y), .resumed)
    | some .hold => (endActive .contact (quieted y), .held)
    | some .advance => (endActive .contact (quieted y), .advanced)
    | none => (endActive .contact (quieted y), .advanced) := by
  have hactive : (quieted y).plan.active = some seg := ha
  unfold reportReflex
  rw [hactive]
  exact if_neg (not_not.2 hact)

/-- The segment goes on with its chain, which ends (R57, R53). -/
theorem reflex_advances (hc : seg.fields.onContact = 0) (hnext : seg.fields.next = 255) :
    (finishReflex y).plan.state = .idle ∧ Over (finishReflex y) seg slotCut 5 := by
  have hadvance : seg.fields.onContact? = some .advance := by simp [Fields.onContact?, OnContact.ofWord, hc]
  have hreport : (reportReflex (quieted y)).1 = endActive .contact (quieted y) := by
    rw [report_known ha hact, hadvance]
  obtain ⟨hclosed, hplan⟩ := endActive_ends (s := quieted y) (seg := seg) (cause := .contact) ha (by rw [hnext]; decide)
    (by rw [hadvance]; rfl)
  have hhandled := reflexHandled_handled y
  rw [hreport] at hhandled
  have hnone : (endActive .contact (quieted y)).plan.active = none := by rw [hplan]; rfl
  have hidle : (endActive .contact (quieted y)).plan.state = .idle := by rw [hplan]; rfl
  have hstate := (congrArg Plan.state hhandled.plan).trans hidle
  rw [finishReflex_eq, publishQuiet_over ((congrArg Plan.active hhandled.plan).trans hnone) (by rw [hstate]; decide)]
  exact ⟨hstate, hhandled.over (hclosed.over hnone)⟩

/-- The segment's end holds the plan (R57). -/
theorem reflex_holds (hc : seg.fields.onContact = 2) :
    (finishReflex y).plan.state = .held ∧ Over (finishReflex y) seg slotCut 5 := by
  have hhold : seg.fields.onContact? = some .hold := by simp [Fields.onContact?, OnContact.ofWord, hc]
  have hreport : (reportReflex (quieted y)).1 = endActive .contact (quieted y) := by
    rw [report_known ha hact, hhold]
  obtain ⟨hclosed, hheld, hnone, -⟩ := endActive_holds (s := quieted y) (seg := seg) (cause := .contact) ha
    (by rw [hhold]; rfl)
  have hhandled := reflexHandled_handled y
  rw [hreport] at hhandled
  have hstate := (congrArg Plan.state hhandled.plan).trans hheld
  rw [finishReflex_eq, publishQuiet_over ((congrArg Plan.active hhandled.plan).trans hnone) (by rw [hstate]; decide)]
  exact ⟨hstate, hhandled.over (hclosed.over hnone)⟩

/-- The ROLL resumes on the heading it has (R79, R81). -/
theorem reflex_resumes (hc : seg.fields.onContact = 1) (hk : seg.fields.kind = 1) (hw : y.plan.watch = none)
    (hb : ¬ AtBoundary y seg.fields) : (finishReflex y).plan.active = some seg ∧
      (finishReflex y).drive.suspended = false ∧ (finishReflex y).drive.headingRef = (finishReflex y).drive.heading ∧
      finishReflex y = reflexHandled y ∧ (reportReflex (quieted y)).2 = .resumed := by
  have hresume : seg.fields.onContact? = some .resume := by simp [Fields.onContact?, OnContact.ofWord, hc]
  have hreport : reportReflex (quieted y) = (resumeSegment (quieted y), .resumed) := by
    rw [report_known ha hact, hresume]
  obtain ⟨x, hx⟩ : ∃ x : State, x = { quieted y with
      drive := { y.drive with suspended := false, headingRef := y.drive.heading } } := ⟨_, rfl⟩
  have hactive : x.plan.active = some seg := by rw [hx]; exact ha
  have hkind : resumeKind seg.fields { quieted y with drive := { y.drive with suspended := false } } = x := by
    unfold resumeKind
    simp only [kind?_iff (k := .roll).2 hk, hx]
  have hend : x.wireEnd seg.fields = none := by
    unfold State.wireEnd
    rw [if_neg, hx]
    · simp only [hw]
    · rw [hx]
      exact mt (atBoundary_iff (quieted y) seg.fields).1 hb
  have hresumed : resumeSegment (quieted y) = startWatch x := by
    unfold resumeSegment
    rw [show (quieted y).plan.active = some seg from ha]
    simp only [hkind, hend]
  have hwatch : (startWatch x).plan.active = some seg ∧ (startWatch x).drive = x.drive := by
    unfold startWatch
    rw [hactive]
    exact ⟨hactive, rfl⟩
  have hhandled := reflexHandled_handled y
  rw [hreport, hresumed] at hhandled
  obtain ⟨wactive, wdrive⟩ := hwatch
  have hplan := (congrArg Plan.active hhandled.plan).trans wactive
  have hdrive : (reflexHandled y).drive = x.drive := hhandled.drive.trans wdrive
  have hrest : (reflexHandled y).drive.suspended = false := by rw [hdrive, hx]
  have hfinish : finishReflex y = reflexHandled y := publishQuiet_running hplan hrest
  have houtcome : (reportReflex (quieted y)).2 = .resumed := by rw [hreport]
  rw [hfinish]
  generalize reflexHandled y = z at *
  rw [hdrive, hx]
  exact ⟨hplan, rfl, rfl, rfl, houtcome⟩

end

end Sys2Proof.Proofs
end

section
/-! SUPPORT. The end of TURNING as O26 states it, and the deferred head (R59, R151). -/

namespace Sys2Proof.Proofs

open Sys2Proof.Machine Sys2Proof.Safety

/-! ### A deferral's reflex (R59, R151) -/

section
variable {s y : State} {h : Slot} (hb : ReflexBegun s y) (ha : s.plan.active = none) (hrun : s.plan.state = .running)
  (hd : s.plan.deferred = some h)
include hb ha

theorem report_unknown : reportReflex (quieted y) = (quieted y, .discarded) := by
  have hactive : (quieted y).plan.active = none := (congrArg Plan.active hb.plan).trans ha
  unfold reportReflex
  rw [hactive]

/-- The end of a deferral's reflex before its publication. -/
theorem deferral_handled : (reflexHandled y).plan = s.plan ∧ (reflexHandled y).loops = s.loops ∧
    (reflexHandled y).dock.sense = s.dock.sense ∧ (reflexHandled y).guard.machine = .armed ∧
    (reflexHandled y).partTime = s.partTime ∧ ∀ a, 0x040 ≤ a → (reflexHandled y).word a = s.word a := by
  have hhandled := reflexHandled_handled y
  have hloops : (reflexHandled y).loops = y.loops := by
    rw [reflexHandled, report_unknown hb ha]
    simp [writeEpisode, setList]
  have hmachine : (reflexHandled y).guard.machine = y.guard.machine := by
    rw [reflexHandled, report_unknown hb ha]
    simp [writeEpisode, setList]
  have hpart : (reflexHandled y).partTime = y.partTime := by
    rw [reflexHandled, report_unknown hb ha]
    simp [writeEpisode, setList]
  rw [report_unknown hb ha] at hhandled
  refine ⟨hhandled.plan.trans hb.plan, hloops.trans hb.loops, (congrArg Dock.sense hhandled.dock).trans hb.sense,
    hmachine.trans hb.machine, hpart.trans hb.part, fun a hlow => (hhandled.words a hlow).trans ?_⟩
  exact congrArg (fun m : Memory => m.read a) hb.mem

include hrun hd in
theorem deferral_activates : finishReflex y = activate h (reflexHandled y) := by
  obtain ⟨hplan, -⟩ := deferral_handled hb ha
  have hdeferral : (reflexHandled y).deferral = true := by simp [State.deferral, hplan, hrun, ha]
  rw [finishReflex_eq]
  generalize reflexHandled y = x at hplan hdeferral ⊢
  unfold publishQuiet
  rw [hplan, ha, hd]
  exact if_pos hdeferral

/-- The deferred head is tested as the event found it. -/
theorem deferral_activable (hg : s.word 0x0BF = s.plan.appliedGen) (hr : RunsOn s h) :
    Activable (reflexHandled y) h ∧ RunsOn (reflexHandled y) h := by
  obtain ⟨hplan, hloops, hsense, hmachine, -, hwords⟩ := deferral_handled hb ha
  have hcontact := reflexHandled_contact y
  generalize reflexHandled y = x at *
  have hslot := slotBase_ge h
  have hstate : x.slotState h = s.slotState h := hwords _ (by omega)
  have hfields : x.slotFields h = s.slotFields h := slotFields_congr fun k _ => hwords _ (by omega)
  refine ⟨⟨hmachine, hstate.trans hr.1, by rw [hcontact], (hwords _ (by decide)).trans (by rw [hplan]; exact hg)⟩, ?_⟩
  unfold RunsOn SoundSegment WatchSound LoopInUse LoopLost OnContacts AtBoundary WatchMet at hr ⊢
  rw [hstate, hfields, hloops, hsense]
  exact hr

end

section
variable {t : Capture} {pitch roll : Byte} {s : State}

/-- A calm period in which a deferral's reflex ends activates the deferred head. -/
theorem exec_deferral_ends {h : Slot} (hcalm : CalmPeriod s pitch roll) (hstall : s.contact.stall = ⟨none, none⟩)
    (ha : s.plan.active = none) (hrun : s.plan.state = .running) (hd : s.plan.deferred = some h)
    (hs : s.contact.stage = .turning)
    (hturn : s.plan.applied.reflexTurn ≤ (s.contact.record.turned + headingTravel s).natAbs)
    (hg : s.word 0x0BF = s.plan.appliedGen) (hr : RunsOn s h) :
    ∃ u seg, exec (.controlPeriod t pitch roll) s = .next u ∧ u.contact.stage = .quiet ∧ AtRest u ∧
      u.plan.state = .running ∧ u.plan.active = some seg ∧ u.plan.deferred = none ∧ seg.slot = h ∧
      seg.activation = s.plan.activation + 1 ∧ u.slotState h = slotActive := by
  obtain ⟨y, u, hexec, hb, hdriven⟩ := exec_calm_reflex (t := t) hcalm (fun g hg => by rw [ha] at hg; cases hg) hstall
    fun y hplan _ => requestStep_idle ((congrArg Plan.active hplan).trans ha) _
  obtain ⟨hsettled, hrest⟩ := turning_ends hb hdriven hs hturn
  obtain ⟨hready, hruns⟩ := deferral_activable hb ha hg hr
  obtain ⟨seg, hseg, hactive, -, -, -, -, -, -, -, -, -, hslot, -⟩ := hready.leaves hruns
  have hsame := hdriven.undisturbed
  rw [hsettled, deferral_activates hb ha hrun hd] at hsame
  obtain ⟨hplan, -⟩ := deferral_handled hb ha
  have hcontact := reflexHandled_contact y
  have hframe := hready.frame hruns
  generalize reflexHandled y = x at *
  have hstage : (activate h x).contact.stage = .quiet := by
    rw [hframe, hcontact]
  have hbase := slotBase_ge h
  refine ⟨u, seg, hexec, hsame.stage.trans hstage, hrest, ?_, ?_, ?_, by rw [hseg], by rw [hseg, hplan],
    (hsame.words _ (by omega) (by omega) (by omega)).trans hslot⟩
  · rw [hsame.plan, hactive]
  · rw [hsame.plan, hactive]
  · rw [hsame.plan, hactive]

/-! ### The reflex of a suspended ROLL -/

theorem unended {seg : Segment} (ha : s.plan.active = some seg) (ht : ¬ TimeUp s seg)
    (hs : s.drive.suspended = true) : ∀ g, s.plan.active = some g → ¬ BasicEnds s g := by
  intro g hg hends
  rw [ha] at hg
  cases hg
  obtain ⟨-, htime | ⟨hfree, -⟩⟩ := hends
  · exact ht htime
  · exact absurd (hs.symm.trans hfree) nofun

theorem exec_roll_reflex {seg : Segment} (hcalm : CalmPeriod s pitch roll) (hstall : s.contact.stall = ⟨none, none⟩)
    (ha : s.plan.active = some seg) (hk : seg.fields.kind = 1) (ht : ¬ TimeUp s seg) (hs : s.drive.suspended = true) :
    ∃ y u, exec (.controlPeriod t pitch roll) s = .next u ∧ ReflexBegun s y ∧ ReflexDriven s y u :=
  exec_calm_reflex hcalm (unended ha ht hs) hstall fun y hplan hsuspended => by
    rw [requestStep_roll ((congrArg Plan.active hplan).trans ha) hk, hsuspended, hs]
    rfl

end

theorem travelledRecord_episode (s : State) : (travelledRecord s).episodeStart = s.contact.record.episodeStart ∧
    (travelledRecord s).activation = s.contact.record.activation := by
  unfold travelledRecord
  cases s.contact.stage <;> exact ⟨rfl, rfl⟩

section
variable {s y u : State} {seg : Segment} (hb : ReflexBegun s y) (hd : ReflexDriven s y u)
  (hsettled : ReflexOut.settled (reflexOut s y) = finishReflex y)
include hb hd hsettled

/-- The reflex is QUIET and reported. -/
theorem turning_reported : u.contact.stage = .quiet ∧ u.notice.reflex.status = 1 ∧
    u.notice.reflex.details = [(reportReflex (quieted y)).2.code] ∧
    u.contact.list = judgedEntries s.contact.record.episodeStart (reportReflex (quieted y)).2 s.contact.list := by
  have hsame := hd.undisturbed
  have hlist := hd.list
  rw [hsettled] at hsame hlist
  obtain ⟨hstatus, hdetails⟩ := reflexHandled_notice (s := y) hb.machine
  have hcontact := reflexHandled_contact y
  have hunposted : (finishReflex y).notice.reflex = (reflexHandled y).notice.reflex := unposted_publishQuiet _
  have hstage : (finishReflex y).contact.stage = .quiet := by rw [finishReflex_contact, hcontact]
  obtain ⟨hstart, -⟩ := travelledRecord_episode s
  refine ⟨hsame.stage.trans hstage, ?_, ?_, ?_⟩
  · rw [hsame.notice, hunposted, hstatus]
  · rw [hsame.notice, hunposted, hdetails]
  · rw [hlist, finishReflex_contact, hcontact]
    generalize (reportReflex (quieted y)).2 = o
    rw [hb.contact, ← hstart]

variable (ha : s.plan.active = some seg) (hact : s.contact.record.activation = seg.activation)
include ha hact

omit hd hsettled in
theorem reflex_named : y.plan.active = some seg ∧ seg.activation = y.contact.record.activation := by
  obtain ⟨-, hrecord⟩ := hb.reflex
  obtain ⟨-, hactivation⟩ := travelledRecord_episode s
  exact ⟨(congrArg Plan.active hb.plan).trans ha, by rw [hrecord, hactivation, hact]⟩

theorem turning_advances (hc : seg.fields.onContact = 0) (hnext : seg.fields.next = 255) :
    u.plan.state = .idle ∧ Over u seg slotCut 5 := by
  obtain ⟨hactive, hnamed⟩ := reflex_named hb ha hact
  obtain ⟨hstate, hover⟩ := reflex_advances hactive hnamed hc hnext
  have hsame := hd.undisturbed
  rw [hsettled] at hsame
  exact ⟨(congrArg Plan.state hsame.plan).trans hstate, over_undisturbed hover hsame⟩

theorem turning_holds (hc : seg.fields.onContact = 2) : u.plan.state = .held ∧ Over u seg slotCut 5 := by
  obtain ⟨hactive, hnamed⟩ := reflex_named hb ha hact
  obtain ⟨hstate, hover⟩ := reflex_holds hactive hnamed hc
  have hsame := hd.undisturbed
  rw [hsettled] at hsame
  exact ⟨(congrArg Plan.state hsame.plan).trans hstate, over_undisturbed hover hsame⟩

theorem turning_resumes (hc : seg.fields.onContact = 1) (hk : seg.fields.kind = 1) (hw : s.plan.watch = none)
    (hbound : ¬ AtBoundary s seg.fields) : u.plan.active = some seg ∧ u.drive.suspended = false ∧
      u.drive.headingRef = u.drive.heading ∧ u.notice.reflex.details = [1] ∧
      ∀ e ∈ u.contact.list, due e.time s.contact.record.episodeStart = true → e.outcome = some .resumed := by
  obtain ⟨hactive, hnamed⟩ := reflex_named hb ha hact
  have hboundary : ¬ AtBoundary y seg.fields := by rwa [AtBoundary, hb.loops]
  obtain ⟨hstays, hsuspended, href, -, houtcome⟩ := reflex_resumes hactive hnamed hc hk
    ((congrArg Plan.watch hb.plan).trans hw) hboundary
  obtain ⟨-, -, hdetails, hlist⟩ := turning_reported hb hd hsettled
  rw [houtcome] at hdetails hlist
  have hsame := hd.undisturbed
  have hdrive := hd.drive
  rw [hsettled] at hsame hdrive
  have hheading : u.drive.headingRef = (finishReflex y).drive.headingRef ∧ u.drive.heading = (finishReflex y).drive.heading := by
    generalize u.drive = d at hdrive
    rw [hdrive]
    exact ⟨rfl, rfl⟩
  refine ⟨(congrArg Plan.active hsame.plan).trans hstays, hsame.suspended.trans hsuspended,
    hheading.1.trans (href.trans hheading.2.symm), hdetails, fun e he hdue => ?_⟩
  rw [hlist] at he
  obtain ⟨d, -, rfl⟩ := List.mem_map.1 he
  by_cases hd : due d.time s.contact.record.episodeStart = true
  · rw [if_pos hd]
  · rw [if_neg hd] at hdue
    exact absurd hdue hd

end

end Sys2Proof.Proofs
end

section
/-! SUPPORT. Bumps, stalls and the reflex (O26). -/

namespace Sys2Proof.Proofs

open Sys2Proof.Machine Sys2Proof.Safety

/-- The request pairs of BACKING and TURNING (R148). -/
theorem backPair_eq (cap : Nat) : backPair cap = (-((min 200 cap : Nat) : Int), -((min 200 cap : Nat) : Int)) := by
  rw [backPair, minN_eq]

theorem turnAside_some (cap : Nat) (d : LR) : turnAside cap (some d) =
    match d with
    | .left => (-((min 200 cap : Nat) : Int), ((min 200 cap : Nat) : Int))
    | .right => (((min 200 cap : Nat) : Int), -((min 200 cap : Nat) : Int)) := by
  cases d <;> simp only [turnAside, minN_eq]

/-- The side away from the nearer of two ranges, else the right (R149). -/
def awayFromNearer : Option Nat → Option Nat → LR
  | some a, some b => if b < a then .left else .right
  | _, _ => .right

/-- The turn leads away from the side that was hit (R149). -/
theorem turnDirection_eq (hits : Sources) (ranges : Two (Option Nat)) : turnDirection hits ranges =
    if hits &&& 0x2A = 0 then .right else if hits &&& 0x15 = 0 then .left
    else awayFromNearer ranges.left ranges.right := by
  have hmeets (b : Sources) : (!hits.meets b) = true ↔ hits &&& b = 0 := by simp [Sources.meets]
  unfold turnDirection
  refine if_congr (hmeets _) rfl (if_congr (hmeets _) rfl ?_)
  cases ranges.left <;> cases ranges.right <;> rfl

/-- Settles O26: the bump's expiry by the reflex that it finds, the stalls of a calm period, and the reflex's stages. -/
theorem bumpContacts : Obligations.BumpContacts := by
  unfold Obligations.BumpContacts
  intro i s hr src
  have hsrc : bumpSource i = src := by cases i <;> rfl
  refine ⟨⟨exec_bump_still hr, fun e he hd => ⟨exec_bump_unarmed hr he hd, fun hm hl => ?listed,
    fun seg hm hl hq hrun ha hk htrap => ?rolls⟩⟩, fun hm hold e he hd => ?appends, fun t pitch roll hcalm => ?stalls,
    fun t pitch roll hcalm hstall => ?stages⟩
  case listed =>
    rw [← hsrc]
    exact exec_bump_listed hr he hd hm hl
  case rolls =>
    obtain ⟨u, hexec, hu, hwords⟩ := exec_bump_rolls hr he hd hm hl hq hrun ha hk htrap
    refine ⟨u, hexec, ?_, hwords⟩
    rw [← hsrc, ← counting_eq]
    exact hu
  case appends =>
    intro young kept new off near area r inEpisode recapture
    have hnew : bumpEntry i s = new := by
      rw [bumpEntry, hsrc]
      rfl
    have harea : AreaTrap i s ↔ area := by rw [AreaTrap, hnew]; exact Iff.rfl
    obtain ⟨u, hexec, hran⟩ := exec_bump_appends hr he hd hm hold
    refine ⟨u, hexec, fun hq ha => ?_, fun hs htrap ha hrun _ => ?_, fun seg ha hrun => ⟨fun hq hlow hhigh => ⟨fun htrap => ?_,
      fun hfree => ?_⟩, fun hs htrap => ?_, fun hs hfree => ?_, fun hs hfree => ⟨fun hn => ?_, fun hn => ?_⟩⟩⟩
    · exact hnew ▸ bump_discarded hran hq ha
    · exact bump_traps_deferral hm hran hs (harea.2 htrap) ha hrun
    · exact hnew ▸ bump_traps_first hm hran ha hrun hq hlow hhigh (harea.2 htrap)
    · have hstarts := bump_starts hran ha hrun hq hlow hhigh (mt harea.1 hfree)
      rw [hnew, hsrc] at hstarts
      exact hstarts
    · exact hnew ▸ bump_traps hm hran ha hs (harea.2 htrap)
    · have hjoins := bump_joins hran hs (mt harea.1 hfree)
      rw [hnew, hsrc] at hjoins
      exact hjoins
    · exact hnew ▸ bump_traps_restart hm hran ha hs (mt harea.1 hfree) hn
    · have hrestarts := bump_restarts hran hs (mt harea.1 hfree) hn
      rw [hnew, hsrc, recapture_eq, recapture_eq] at hrestarts
      exact hrestarts
  case stalls =>
    have hran := exec_controlPeriod_due (t := t) (pitch := pitch) (roll := roll) hcalm.1 hcalm.2.1
    refine ⟨_, rfl, fun j => ?_⟩
    intro blocked stall
    have hstallSource : stallSource j = stall := by cases j <;> rfl
    refine ⟨stall_free hran, fun hblocked hnone => ?_, fun a ha hblocked => ⟨fun hshort => ?_, fun hlong => ⟨?_, fun hl => ?_,
      fun seg hactive hk hends hrun _ hl hq htrap halone => ?_⟩⟩⟩
    · exact (stall_stands hcalm hran hblocked).trans (by rw [hnone]; rfl)
    · rw [stall_stands hcalm hran hblocked, ha]
      exact if_neg (Nat.not_le.2 hshort)
    · rw [stall_stands hcalm hran hblocked, ha]
      exact if_pos hlong
    · obtain ⟨entry, hlast, hsources, -, htime, hmost⟩ := stall_listed hcalm hran hblocked ha hlong hl
      exact ⟨entry, hlast, hstallSource ▸ hsources, htime, hmost⟩
    · obtain ⟨hlist, hstage, hsuspended, hrecord⟩ := stall_starts hcalm hran hblocked ha hlong hactive hk hends hrun hl hq
        htrap halone
      rw [hstallSource] at hlist hrecord
      exact ⟨hlist, hstage, hsuspended, hrecord⟩
  case stages =>
    intro r turned
    refine ⟨fun seg ha hk ht hs hact => ?_, fun h ha hrun hd hs hturn hg hruns =>
      exec_deferral_ends hcalm hstall ha hrun hd hs hturn hg hruns⟩
    intro far away aside straightBack stillAt trapped
    obtain ⟨y, u, hexec, hb, hd⟩ := exec_roll_reflex (t := t) hcalm hstall ha hk ht hs
    have haway : turnDirection r.hits r.ranges = away := turnDirection_eq _ _
    have haside (d : LR) : turnAside u.gov.cap (some d) = aside d u := turnAside_some _ _
    have hback : backPair u.gov.cap = straightBack u := backPair_eq _
    have hstill (moves : Prop) [Decidable moves] : stillAfter u.gov.cap (decide moves) r.still = stillAt u moves :=
      stillAfter_eq _ _ _
    refine ⟨u, hexec, hd.machine, fun hstage => ⟨fun hover => ?_, fun hmoves hearly => ?_⟩,
      fun hstage => ⟨fun hfar => ?_, fun hnear => ?_⟩, fun hstage hshort => ?_, fun hstage hfull => ?_⟩
    · exact hback ▸ stopping_ends hb hd hstage hover
    · exact stopping_waits hb hd hstage fun hover => hover.elim hmoves (Nat.not_le.2 hearly)
    · have hends := backing_ends hb hd hstage hfar
      rw [haway, haside] at hends
      exact hends
    · have hruns := backing_runs hb hd ha hstage hnear
      rw [hstill, hback] at hruns
      exact hruns
    · obtain ⟨hgoes, htraps⟩ := turning_runs hb hd ha hstage hshort
      rw [hstill] at hgoes htraps
      refine ⟨fun hlow => ?_, htraps⟩
      obtain ⟨ustage, htakes, urecord⟩ := hgoes hlow
      exact ⟨ustage, fun d hturn => haside d ▸ hturn ▸ htakes, urecord⟩
    · obtain ⟨hsettled, hrest⟩ := turning_ends hb hd hstage hfull
      obtain ⟨hquiet, hstatus, -, -⟩ := turning_reported hb hd hsettled
      exact ⟨hquiet, hrest, hstatus, turning_advances hb hd hsettled ha hact, turning_holds hb hd hsettled ha hact,
        fun hc hw hbound => turning_resumes hb hd hsettled ha hact hc hk hw hbound⟩

end Sys2Proof.Proofs
end
